-- ==== Sys2Proof/Word.lean ====
section
/-! DEFINITION. The byte of the two serial links, and nothing else: every number the manual counts with is a `Nat` or an
`Int`, and the only bits it treats as bits are link bytes, the condition flags and the mask. -/
namespace Sys2Proof

/-- One byte on a link (R191). -/
abbrev Byte := BitVec 8

end Sys2Proof
end

