-- ==== Sys2Proof/Config.lean ====
section
/-! DEFINITION. What the manual fixes once for the whole part (capacities and bounds), and the three free values: choices
the manual leaves open, which no proof can see the value of. -/
namespace Sys2Proof.Config

/-- The largest encoder count (00_scope.md section 4). -/
def maxPosition : Nat := 32767

/-- The inbound command queue holds 0 to 8 frames (R177, R178). -/
def inboundCapacity : Nat := 8

/-- The alarm queue holds 0 to 8 frames (R167). -/
def alarmCapacity : Nat := 8

/-- The context queue holds 0 to 4 contexts (R115). -/
def contextCapacity : Nat := 4

/-- Each passthrough queue holds 0 to 4 payloads (R190, R192). -/
def passCapacity : Nat := 4

/-- The trend ring holds at most 64 records (R83). -/
def trendCapacity : Nat := 64

/-- A fixed-point window holds at most 64 values (R105). -/
def windowCapacity : Nat := 64

/-- The count of an accumulator never exceeds 4095 (R50). -/
def accumulatorMax : Nat := 4095

/-- The counters saturate at 65535 (R174). -/
def counterMax : Nat := 65535

/-- The largest magnitude of a filtered value F (R70). -/
def filteredMax : Int := 1048560

/-- The longest payload of a frame (table of 11.1, R191). -/
def maxPayload : Nat := 4096

/-- Arrival: within 8 counts of the move target, inclusive (R94); the same window serves the reversal at rest (R101). -/
def arrivalWindow : Nat := 8

/-- A MOVE is stalled unless it has come this many counts closer in one stall period (R111). -/
def stallProgress : Nat := 4

/-- The speed of MOVEs to park and to the probe position, and of a fixed-point MOVE with no context in effect (R91). -/
def slowSpeed : Nat := 200

/-- FREE VALUE (log 6). The order in which the consumers of one conditioned sample take it, as the number of a
permutation: "the hand-over imposes no order among them" (R16), and R140 gives both outcomes. Applied to
`State.choices`. -/
opaque consumerOrder : Nat → Nat

/-- FREE VALUE (log 7). The order in which the condition unit takes the raisings of one step, as the number of a permutation:
they "may reach the condition unit in either order" (R37). Applied to `State.choices`. -/
opaque takingOrder : Nat → Nat

/-- FREE VALUE (log 7). The moment of the step at which an alarm sees a block other than its raiser: that block's event of
the same time "may be seen before it or after it" (R166). Applied to `State.choices`, the number of the condition, and the
block: 0 the frame controller, 1 the break watch. -/
opaque seenMoment : Nat → Nat → Nat → Nat

end Sys2Proof.Config
end

