-- ==== Sys2Proof/Syntax.lean ====
section
/-! DEFINITION. The commands and events of the part, one constructor per row of spec/opcode_table.json, and the types of
their operands. The rows of mill computer commands carry no operand: the command handler takes the oldest frame of its
inbound queue (R177), and the sequence number, the code and the arguments stand in that frame (log 3). -/
namespace Sys2Proof

/-- The two serial links (00_scope.md section 2). -/
inductive Link where
  | carriage | mill
deriving DecidableEq, Repr

/-- The direction of a traverse, and the heads' direction hint (00_scope.md section 6, R1). -/
inductive Direction where
  | fwd | rev
deriving DecidableEq, Repr

/-- One item for each measured channel BW, MO, CA, TR (00_scope.md section 4). -/
structure PerMeasured (α : Type) where
  bw : α
  mo : α
  ca : α
  tr : α
deriving DecidableEq, Repr

/-- The same value for every measured channel. -/
def PerMeasured.const {α : Type} (a : α) : PerMeasured α := ⟨a, a, a, a⟩

/-- The fields of a SAMPLE frame (1.1, table 11-1). -/
structure SampleFrame where
  sequence  : Nat
  position  : Nat
  reference : Bool
  hint      : Direction
  ready     : PerMeasured Bool
  raw       : PerMeasured Nat
deriving DecidableEq, Repr

/-- The fields of a DRIVE_STATUS frame (5.2, R195). -/
structure DriveStatus where
  referenced : Bool
  moving     : Bool
  fault      : Bool
  position   : Nat
deriving DecidableEq, Repr

/-- A COMMAND frame as it waits in the inbound queue: the frame's sequence byte, the command code and the argument
bytes (R191, table 11-2). -/
structure CommandFrame where
  sequence : Byte
  code     : Byte
  args     : List Byte
deriving DecidableEq, Repr

/-- The check of R191 that a received frame failed. -/
inductive CheckFailure where
  /-- The length field exceeds 4,096. -/
  | lengthAboveMax
  /-- The CRC does not agree. -/
  | crc
  /-- The kind is not one that the receiver's direction carries. -/
  | kind
  /-- The payload length differs from the fixed length of its kind. -/
  | fixedLength
  /-- A COMMAND payload of no byte, or a PASS_UP payload of none or of more than 256. -/
  | payloadLength
deriving DecidableEq, Repr

/-- The steps of the part: the rows of spec/opcode_table.json in the table's order. -/
inductive Instr where
  /-- POWER_ON_RESET (R90). -/
  | powerOnReset
  /-- SAMPLE (R1): a good SAMPLE frame. -/
  | sample (f : SampleFrame)
  /-- HEAD_ANNOUNCE (R2): the announced fitted set. -/
  | headAnnounce (fitted : PerMeasured Bool)
  /-- DRIVE_STATUS (R92). -/
  | driveStatus (d : DriveStatus)
  /-- PASS_UP (R192): the payload of a good PASS_UP frame from the heads. -/
  | passUp (payload : List Byte)
  /-- COMMAND (R178): a good COMMAND frame arrives. -/
  | command (f : CommandFrame)
  /-- FRAME_CHECK_FAILURE (R191): a frame on this link fails this check. -/
  | frameCheckFailure (link : Link) (failure : CheckFailure)
  /-- MILL_TRANSMIT (R193). -/
  | millTransmit
  /-- CARRIAGE_TRANSMIT (R192). -/
  | carriageTransmit
  /-- SILENCE_TIMER_EXPIRY (R110). -/
  | silenceTimerExpiry
  /-- STALL_TIMER_EXPIRY (R111). -/
  | stallTimerExpiry
  /-- STD_TIMER_EXPIRY (R36). -/
  | stdTimerExpiry
  /-- PROBE_TIMER_EXPIRY (R142). -/
  | probeTimerExpiry
  /-- PROBE_DWELL_EXPIRY (R145). -/
  | probeDwellExpiry
  /-- HOLD_OFF_EXPIRY (R147). -/
  | holdOffExpiry
  /-- MEANS_COMPLETE (R69). -/
  | meansComplete
  /-- FILTER_COMPLETE (R75). -/
  | filterComplete
  /-- STATS_COMPLETE (R77). -/
  | statsComplete
  /-- MONITORS_COMPLETE (R161). -/
  | monitorsComplete
  /-- REPORT_COMPLETE (R85). -/
  | reportComplete
  /-- READ_STATUS (R185). -/
  | readStatus
  /-- READ_TABLE (R182). -/
  | readTable
  /-- WRITE_TABLE_CURVE (R10). -/
  | writeTableCurve
  /-- WRITE_TABLE_BIAS (R12). -/
  | writeTableBias
  /-- WRITE_TABLE_STDF (R18). -/
  | writeTableStdf
  /-- WRITE_TABLE_MAP (R43). -/
  | writeTableMap
  /-- WRITE_TABLE_MONITOR (R151). -/
  | writeTableMonitor
  /-- WRITE_TABLE_SHEET (R132). -/
  | writeTableSheet
  /-- WRITE_TABLE_FRAME (R89). -/
  | writeTableFrame
  /-- WRITE_TABLE_CHANNEL (R6). -/
  | writeTableChannel
  /-- WRITE_TABLE_SLOT_HEADER (R129). -/
  | writeTableSlotHeader
  /-- WRITE_TABLE_SLOT_IMAGE (R130). -/
  | writeTableSlotImage
  /-- LOCK_CALIBRATION (R21). -/
  | lockCalibration
  /-- PUSH_CONTEXT (R114). -/
  | pushContext
  /-- FLUSH_QUEUE (R116). -/
  | flushQueue
  /-- START_SCAN (R97). -/
  | startScan
  /-- STOP_SCAN (R102). -/
  | stopScan
  /-- PARK (R96). -/
  | park
  /-- RESUME (R107). -/
  | resume
  /-- FIXED_POINT (R104). -/
  | fixedPoint
  /-- STANDARDIZE (R25). -/
  | standardize
  /-- READ_FIXED (R106). -/
  | readFixed
  /-- READ_PROFILE (R81). -/
  | readProfile
  /-- READ_TREND (R84). -/
  | readTrend
  /-- SAVE_PROFILE (R126). -/
  | saveProfile
  /-- RESTORE_PROFILE (R127). -/
  | restoreProfile
  /-- CLEAR_PROFILE (R128). -/
  | clearProfile
  /-- SHEET_NOTICE (R136). -/
  | sheetNotice
  /-- ACK_ALARM (R170). -/
  | ackAlarm
  /-- CLEAR_CONDITIONS (R171). -/
  | clearConditions
  /-- SET_MASK (R172). -/
  | setMask
  /-- CLEAR_COUNTERS (R175). -/
  | clearCounters
  /-- SET_STREAM (R188). -/
  | setStream
  /-- PASS_DOWN (R190). -/
  | passDown
  /-- RESTART (R186). -/
  | restart
  /-- MILLISECOND_TICK (R186). -/
  | millisecondTick
  /-- SYNC_PAIR_FOUND (R191): on this link's receiver. -/
  | syncPairFound (link : Link)
  /-- MILL_FRAME_COMPLETED (R193). -/
  | millFrameCompleted
  /-- CARRIAGE_FRAME_COMPLETED (R192). -/
  | carriageFrameCompleted
  /-- UNKNOWN_COMMAND_CODE (R179). -/
  | unknownCommandCode
  /-- WRITE_TABLE_UNKNOWN_REGION (R183). -/
  | writeTableUnknownRegion
deriving DecidableEq, Repr

end Sys2Proof
end

