-- ==== Sys2Proof/Machine/Bytes.lean ====
section
/-! DEFINITION. Bytes of the link layouts: big-endian and two's complement fields (R195) and the CRC of R191. -/
namespace Sys2Proof.Machine

/-- The low byte of a number. -/
def byte (n : Nat) : Byte := BitVec.ofNat 8 n

/-- A 2-byte field, most significant byte first (R195). -/
def be16 (n : Nat) : List Byte := [byte (n / 256), byte n]

/-- A 3-byte field, most significant byte first (R195). -/
def be24 (n : Nat) : List Byte := [byte (n / 65536), byte (n / 256), byte n]

/-- A 4-byte field, most significant byte first (R195). -/
def be32 (n : Nat) : List Byte := [byte (n / 16777216), byte (n / 65536), byte (n / 256), byte n]

/-- The two's complement code of a number in a field of `w` bits (R195). -/
def twos (w : Nat) (i : Int) : Nat := (i % (2 ^ w : Int)).toNat

/-- The number a field of `w` bits holds in two's complement (R195). -/
def signed (w n : Nat) : Int := if n < 2 ^ (w - 1) then (n : Int) else (n : Int) - 2 ^ w

/-- A 2-byte field as a number. -/
def u16 (h l : Byte) : Nat := h.toNat * 256 + l.toNat

/-- A 3-byte field as a number. -/
def u24 (a b c : Byte) : Nat := (a.toNat * 256 + b.toNat) * 256 + c.toNat

/-- A 4-byte field as a number. -/
def u32 (a b c d : Byte) : Nat := ((a.toNat * 256 + b.toNat) * 256 + c.toNat) * 256 + d.toNat

/-- A flag as the code 1 or 0 (table 11-7). -/
def bit (b : Bool) : Nat := if b then 1 else 0

/-- Flags packed with the first one in bit 0. -/
def packBits : List Bool → Nat
  | [] => 0
  | b :: bs => bit b + 2 * packBits bs

/-- An optional 16-bit field: 0xFFFF when absent (R195). -/
def opt16 (o : Option Nat) : List Byte := be16 (o.getD 65535)

/-- The fitted set and the ready bits: bit 0 BW, bit 1 MO, bit 2 CA, bit 3 TR (table 11-1). -/
def packMeasured (p : PerMeasured Bool) : Nat := packBits [p.bw, p.mo, p.ca, p.tr]

/-- The fitted set or ready bits in the low bits of a byte (table 11-1). -/
def unpackMeasured (b : Byte) : PerMeasured Bool :=
  ⟨b.getLsbD 0, b.getLsbD 1, b.getLsbD 2, b.getLsbD 3⟩

/-- The code of a direction (table 11-7). -/
def directionCode : Direction → Nat
  | .fwd => 0
  | .rev => 1

/-- One shift of the CRC register, most significant bit first, by x¹⁶ + x¹² + x⁵ + 1 (R191). -/
def crcShift (crc : BitVec 16) : BitVec 16 :=
  if crc.getLsbD 15 then (crc <<< 1) ^^^ 0x1021#16 else crc <<< 1

/-- The CRC register after one more byte (R191). -/
def crcByte (crc : BitVec 16) (b : Byte) : BitVec 16 :=
  crcShift (crcShift (crcShift (crcShift (crcShift (crcShift (crcShift (crcShift
    (crc ^^^ (b.zeroExtend 16 <<< 8)))))))))

/-- The CRC-16 of R191: the register starts at 0xFFFF and is not inverted at the end. -/
def crc16 (bytes : List Byte) : BitVec 16 := bytes.foldl crcByte 0xFFFF#16

end Sys2Proof.Machine
end

