-- ==== Sys2Proof/Machine/State.lean ====
section
/-! DEFINITION. The state of the part as plain data, block by block as 00_scope.md section 3 names the blocks, the reasons
a step can stop, and the state after power-on reset. Every field names the rule that gives it. -/
namespace Sys2Proof.Machine

/-! ### Channels -/

/-- The profile channels (00_scope.md section 4). -/
inductive ProfileChannel where
  | bw | mo | ca | dw
deriving DecidableEq, Repr

/-- One item for each profile channel BW, MO, CA, DW. -/
structure PerProfile (α : Type) where
  bw : α
  mo : α
  ca : α
  dw : α
deriving DecidableEq, Repr

/-! ### Timers -/

/-- A running timer: the period it was started with and the ticks it has run, both in milliseconds. An idle timer is
`none` (00_scope.md section 4; log 5). -/
structure Timer where
  period  : Nat
  elapsed : Nat
deriving DecidableEq, Repr

/-! ### Calibration and settings (chapters 1, 3, 5, 7) -/

/-- One point of a calibration curve: normalized count and channel value (1.5). -/
structure CurvePoint where
  r : Nat
  e : Nat
deriving DecidableEq, Repr

/-- A loaded curve record (1.5). Its point list is `first :: rest`, so it is never empty. -/
structure Curve where
  first      : CurvePoint
  rest       : List CurvePoint
  rRef       : Nat
  driftLimit : Nat
deriving DecidableEq, Repr

/-- One entry of the bias table (1.6). -/
structure BiasEntry where
  enabled : Bool
  channel : ProfileChannel
  bias    : Int
deriving DecidableEq, Repr

/-- A calibration region: staged copy and in-effect copy, each with its generation (R17). -/
structure Region (α : Type) where
  staged      : α
  inEffect    : α
  stagedGen   : Nat
  inEffectGen : Nat
deriving DecidableEq, Repr

/-- The letter of a slice map (3.1). -/
inductive MapLetter where
  | a | b
deriving DecidableEq, Repr

/-- A loaded slice map record (3.1). -/
structure MapRecord where
  id         : Nat
  sliceCount : Nat
  boundaries : List Nat
  fixedRange : Option (Nat × Nat)
deriving DecidableEq, Repr

/-- The identity of a slice map: letter, map id, slice count (R41). -/
structure MapIdentity where
  letter     : MapLetter
  id         : Nat
  sliceCount : Nat
deriving DecidableEq, Repr

/-- The break mode (7.1). -/
inductive BreakMode where
  | report | park | latched
deriving DecidableEq, Repr

/-- The SHEET settings (7.1, 3.4); intervals in seconds. -/
structure SheetSettings where
  mode            : BreakMode
  trBreak         : Nat
  nBreak          : Nat
  probeInterval   : Nat
  probeDwell      : Nat
  holdOff         : Nat
  standardizeAfter : Bool
  autoResume      : Bool
  trPresent       : Nat
  m               : Nat
deriving DecidableEq, Repr

/-- The FRAME settings (5.1); periods in milliseconds. -/
structure FrameSettings where
  park          : Nat
  probe         : Nat
  minimumWidth  : Nat
  silencePeriod : Nat
  stallPeriod   : Nat
  s             : Nat
  stdTimeout    : Nat
deriving DecidableEq, Repr

/-- The stored enables of the CHANNEL settings (R6). -/
structure Enables where
  bw : Bool
  mo : Bool
  ca : Bool
deriving DecidableEq, Repr

/-- Table memory: calibration, lock, slice maps, settings (R17, R21, R42, R184). -/
structure Tables where
  curve    : Region (PerMeasured (Option Curve))
  bias     : Region (List BiasEntry)
  stdf     : Region (PerMeasured Nat)
  locked   : Bool
  mapA     : Option MapRecord
  mapB     : Option MapRecord
  sheet    : SheetSettings
  frame    : FrameSettings
  enables  : Enables
deriving DecidableEq, Repr

/-! ### Conditioned samples (chapter 1) -/

/-- A conditioned channel: its class, with the value when the class is usable (1.3). -/
inductive Conditioned where
  | normal (v : Nat)
  | clamped (v : Nat)
  | absent
  | faulted
deriving DecidableEq, Repr

/-- A conditioned sample (1.8): the frame as received, the gap mark and the five channels. -/
structure Sample where
  frame    : SampleFrame
  afterGap : Bool
  bw : Conditioned
  mo : Conditioned
  ca : Conditioned
  tr : Conditioned
  dw : Conditioned
deriving DecidableEq, Repr

/-- The consumers of a conditioned sample among which the spec imposes no order (R16). -/
inductive Consumer where
  | frameController | breakWatch | standardizeUnit | stream
deriving DecidableEq, Repr

/-- Sample conditioner (R2, R3, R5). -/
structure Conditioner where
  expected : Option Nat
  fitted   : PerMeasured Bool
deriving DecidableEq, Repr

/-! ### Standardize unit (chapter 2) -/

/-- A participant of a collection: its copied curve data, sum and valid count (2.1). -/
structure Participant where
  rRef       : Nat
  driftLimit : Nat
  sum        : Nat
  valid      : Nat
deriving DecidableEq, Repr

/-- A collection in progress (2.1, R29); its timer runs from its start to its end. -/
structure Collection where
  participants : PerMeasured (Option Participant)
  target       : Nat
  count        : Nat
  timer        : Timer
deriving DecidableEq, Repr

/-- Standardize unit: the phase is COLLECTING exactly when a collection is present (2.1). So no target count S and no copied
curve data are held while it is IDLE, nor after a reset, where R40 does not list them (DESIGN CHOICE, log 37). -/
structure Standardizer where
  request    : Bool
  counter    : Nat
  collection : Option Collection
deriving DecidableEq, Repr

/-! ### Scan contexts (chapter 6) -/

/-- What the profile store does when a context is taken (6.1); a RESTORE names its slot. -/
inductive ProfileAction where
  | keep | clear
  | restore (slot : Nat)
deriving DecidableEq, Repr

/-- A scan context (6.1); `tracking` is ON exactly when a margin is present. -/
structure Context where
  tag        : Nat
  map        : MapLetter
  front      : Nat
  back       : Nat
  speed      : Nat
  nmin       : Nat
  weight     : Nat
  staleLimit : Nat
  quorum     : Nat
  edgeWidth  : Nat
  tracking   : Option Nat
  interval   : Nat
  action     : ProfileAction
deriving DecidableEq, Repr

/-- Context queue, oldest first, and the context in effect (R115, R117). -/
structure ContextQueue where
  queue    : List Context
  inEffect : Option Context
deriving DecidableEq, Repr

/-! ### Binning unit and edge finder (chapter 3) -/

/-- An accumulator of one slice and channel (3.3). -/
structure Accumulator where
  sum       : Nat
  count     : Nat
  saturated : Bool
deriving DecidableEq, Repr

/-- An accumulator bank: for every slice, an accumulator per profile channel (3.3). -/
abbrev Bank := List (PerProfile Accumulator)

/-- The edge finder's phase while a traverse is open; it is IDLE exactly while none is (3.4). -/
inductive EdgePhase where
  | seeking | onSheet | left
deriving DecidableEq, Repr

/-- An edge with its at-limit flag (3.4). -/
structure EdgeMark where
  position : Nat
  atLimit  : Bool
deriving DecidableEq, Repr

/-- The edge finder (3.4). -/
structure EdgeFinder where
  phase     : EdgePhase
  runCount  : Nat
  runStart  : Option Nat
  lastSheet : Option Nat
  clearSeen : Bool
  entering  : Option EdgeMark
  leaving   : Option EdgeMark
deriving DecidableEq, Repr

/-- The edges of a traverse as its closing delivers them (R55). -/
structure Edges where
  front        : Nat
  back         : Nat
  frontAtLimit : Bool
  backAtLimit  : Bool
  lost         : Bool
deriving DecidableEq, Repr

/-- A front and a back position: last good edges, or limits (R56, R100). -/
structure Span where
  front : Nat
  back  : Nat
deriving DecidableEq, Repr

/-- The map copied at a traverse opening (R46). -/
structure TraverseMap where
  letter : MapLetter
  record : MapRecord
deriving DecidableEq, Repr

/-- The open traverse: map copy, context it opened under, direction, OPEN bank, edge finder, break mark (R46, R48, R52,
R139; log 11, log 12). -/
structure OpenTraverse where
  map       : TraverseMap
  context   : Context
  direction : Direction
  bank      : Bank
  finder    : EdgeFinder
  breakMark : Bool
deriving DecidableEq, Repr

/-- Binning unit (R48, R56). -/
structure Binning where
  openTraverse : Option OpenTraverse
  lastGood     : Option Span
deriving DecidableEq, Repr

/-! ### Close-out engine (chapter 4) -/

/-- The closing parameters (4.1). -/
structure ClosingParams where
  map        : TraverseMap
  nmin       : Nat
  weight     : Nat
  staleLimit : Nat
  quorum     : Nat
  edgeWidth  : Nat
  tag        : Nat
  direction  : Direction
  edges      : Edges
  profiled   : PerProfile Bool
  timestamp  : Nat
deriving DecidableEq, Repr

/-- What MEANS finds of one slice and channel (R67, R69); a deviation is present when the channel is not SHORT. -/
inductive SliceOutcome where
  | excluded
  | valid (mean : Nat) (deviation : Option Int)
  | empty
deriving DecidableEq, Repr

/-- The results of MEANS for one profiled channel (R67 to R69). -/
structure ChannelMeans where
  slices  : List SliceOutcome
  valid   : Nat
  short   : Bool
  average : Option Nat
deriving DecidableEq, Repr

/-- The results of MEANS: exclusion marks, eligible count, and the channels profiled (R58, R62, R67). -/
structure MeansResults where
  excluded : List Bool
  eligible : Nat
  channels : PerProfile (Option ChannelMeans)
deriving DecidableEq, Repr

/-- The two statistics of a channel, spread and range (R77). -/
structure ChannelStats where
  spread : Nat
  range  : Nat
deriving DecidableEq, Repr

/-- The statistics of the channels that have them (R76). -/
abbrev StatsResults := PerProfile (Option ChannelStats)

/-- A monitor's outcome (8.1). -/
inductive MonitorOutcome where
  | below | within | above | unordered
deriving DecidableEq, Repr

/-- A monitor's state (8.1). -/
inductive MonitorState where
  | armed | tripped
deriving DecidableEq, Repr

/-- What the bank returns of one evaluated monitor (R161). -/
structure MonitorResult where
  number  : Nat
  channel : ProfileChannel
  outcome : MonitorOutcome
  state   : MonitorState
deriving DecidableEq, Repr

/-- The close-out engine: its phase, with the CLOSING bank, the closing parameters and the working results that the
phase has (4.1, R60). -/
inductive Engine where
  | idle
  | means (bank : Bank) (p : ClosingParams)
  | filter (bank : Bank) (p : ClosingParams) (m : MeansResults)
  | stats (bank : Bank) (p : ClosingParams) (m : MeansResults)
  | monitors (bank : Bank) (p : ClosingParams) (m : MeansResults) (st : StatsResults)
  | report (bank : Bank) (p : ClosingParams) (m : MeansResults) (st : StatsResults) (mons : List MonitorResult)
deriving DecidableEq, Repr

/-- Close-out engine and scan number (4.1). -/
structure CloseOut where
  engine     : Engine
  scanNumber : Nat
deriving DecidableEq, Repr

/-! ### Profile store (chapters 4 and 6) -/

/-- The state of a slice record (R70). -/
inductive SliceState where
  | unset | valid | stale
deriving DecidableEq, Repr

/-- What the most recent scan did to a slice (R70). -/
inductive ScanStatus where
  | fresh | held | excluded | unwritten
deriving DecidableEq, Repr

/-- A slice record of the filtered profile (R70). -/
structure SliceRecord where
  f        : Int
  state    : SliceState
  age      : Nat
  status   : ScanStatus
  lastMean : Option Nat
deriving DecidableEq, Repr

/-- The pending profile note when it is not absent (R80). -/
inductive ProfileNote where
  | cleared | restored | restoreFailed
deriving DecidableEq, Repr

/-- A profile action held back for the close-out in flight, with the identity recorded at its take (R120). -/
structure PendingAction where
  action   : ProfileAction
  identity : MapIdentity
deriving DecidableEq, Repr

/-- One entry of a saved image (6.4). -/
structure ImageEntry where
  f     : Int
  state : SliceState
deriving DecidableEq, Repr

/-- A filled save slot (6.4). -/
structure SaveSlot where
  tag        : Nat
  sliceCount : Nat
  images     : PerProfile (Option (List ImageEntry))
deriving DecidableEq, Repr

/-- The per-channel part of a trend record (4.8). -/
structure TrendChannel where
  short   : Bool
  valid   : Nat
  average : Option Nat
  stats   : Option ChannelStats
deriving DecidableEq, Repr

/-- A trend record (4.8). -/
structure TrendRecord where
  scanNumber     : Nat
  timestamp      : Nat
  direction      : Direction
  tag            : Nat
  map            : MapIdentity
  edgeLost       : Bool
  edgesAtLimit   : Bool
  profileCleared : Bool
  front          : Nat
  back           : Nat
  channels       : PerProfile (Option TrendChannel)
deriving DecidableEq, Repr

/-- Profile store (R70, R80, R83, R120, R125). -/
structure ProfileStore where
  map     : Option MapIdentity
  records : PerProfile (List SliceRecord)
  note    : Option ProfileNote
  action  : Option PendingAction
  slots   : List (Option SaveSlot)
  trend   : List TrendRecord
deriving DecidableEq, Repr

/-! ### Frame controller (chapter 5) -/

/-- The sub-state of TRAVERSE (5.1). -/
inductive TraverseSub where
  | positioning | scanning
deriving DecidableEq, Repr

/-- The sub-state of FIXED and PROBING (5.1). -/
inductive DwellSub where
  | moving | dwelling
deriving DecidableEq, Repr

/-- The carriage state with its sub-state and, in TRAVERSE, its direction (5.1). -/
inductive Carriage where
  | unreferenced | parking | parked | standardizing
  | traverse (sub : TraverseSub) (dir : Direction)
  | fixed (sub : DwellSub)
  | probing (sub : DwellSub)
  | halted
deriving DecidableEq, Repr

/-- The target and the speed of the MOVE outstanding (5.1). -/
structure MoveTarget where
  position : Nat
  speed    : Nat
deriving DecidableEq, Repr

/-- The running stall timer with its reference distance (5.1, R111). -/
structure StallTimer where
  timer     : Timer
  reference : Option Nat
deriving DecidableEq, Repr

/-- Frame controller (5.1). -/
structure FrameController where
  carriage     : Carriage
  scanOn       : Bool
  limits       : Option Span
  target       : Option MoveTarget
  fixedPoint   : Option Nat
  lastPosition : Option Nat
  lastDrive    : Option DriveStatus
  silence      : Option Timer
  stall        : Option StallTimer
  windows      : PerProfile (List Nat)
deriving DecidableEq, Repr

/-! ### Break watch (chapter 7) -/

/-- The break state; `broken` is BREAK (7.1). -/
inductive BreakState where
  | sheetOn | broken | sheetOff | threading
deriving DecidableEq, Repr

/-- What declared a break (7.1). -/
inductive BreakSource where
  | gauge | mill
deriving DecidableEq, Repr

/-- Break watch (7.1); the break mark stands in the open traverse. `heldRun` is the model's own: the break run that stood,
be it 0, when the hold-off expired in this millisecond under an active detector. A declaration that reaches the break watch
together with the expiry completes it (R148; log 36). -/
structure BreakWatch where
  state    : BreakState
  source   : Option BreakSource
  breakRun : Nat
  sheetRun : Nat
  probe    : Option Timer
  dwell    : Option Timer
  holdOff  : Option Timer
  heldRun  : Option Nat
deriving DecidableEq, Repr

/-! ### Monitor bank (chapter 8) -/

/-- The figure a monitor watches; SLICE carries its slice range (8.1). -/
inductive MonitorSource where
  | scanAvg | spread | range
  | slice (first last : Nat)
deriving DecidableEq, Repr

/-- Whether an UNORDERED outcome is reported (8.1). -/
inductive MonitorKind where
  | quiet | strict
deriving DecidableEq, Repr

/-- A monitor record (8.1). -/
structure MonitorRecord where
  enabled     : Bool
  channel     : ProfileChannel
  source      : MonitorSource
  low         : Int
  high        : Int
  persistence : Nat
  kind        : MonitorKind
deriving DecidableEq, Repr

/-- A monitor: its record and its evaluation state (8.1). -/
structure Monitor where
  record        : MonitorRecord
  count         : Nat
  state         : MonitorState
  lastOutcome   : Option MonitorOutcome
  lastScan      : Option Nat
  slicesOutside : Option Nat
deriving DecidableEq, Repr

/-! ### Condition unit (chapter 9) -/

/-- The seventeen conditions in the order of their numbers (9.1); `sheetBreak` is BREAK. -/
inductive Condition where
  | sheetBreak | restored | edgeLost | shortScan | overrun | stdDrift | stdAbort | carriageSilent | driveStall
  | driveFault | sampleGap | headFault | range | queueOverflow | monTrip | monInvalid | linkError
deriving DecidableEq, Repr

/-- The carriage state as an alarm and the status record carry it, without its sub-state (table 11-7). -/
inductive CarriageKind where
  | unreferenced | parking | parked | standardizing | traverse | fixed | probing | halted
deriving DecidableEq, Repr

/-- An ALARM frame (R165). -/
structure AlarmFrame where
  condition  : Condition
  timestamp  : Nat
  carriage   : CarriageKind
  breakState : BreakState
  position   : Option Nat
  scanNumber : Nat
deriving DecidableEq, Repr

/-- What an alarm shows of the frame controller and the break watch at one moment (R165). -/
structure View where
  carriage   : CarriageKind
  position   : Option Nat
  breakState : BreakState
deriving DecidableEq, Repr

/-- A raising that the condition unit has not taken yet: the alarm as it reads at the raise, and what the moments of the
step since then show (R166; log 7). -/
structure Raising where
  alarm : AlarmFrame
  later : List View
deriving DecidableEq, Repr

/-- The eight counters in the order of their table (R174). -/
structure Counters where
  gapTotal         : Nat
  carriageFailures : Nat
  millFailures     : Nat
  commandsDropped  : Nat
  reportsDropped   : Nat
  streamDropped    : Nat
  alarmsDropped    : Nat
  passDropped      : Nat
deriving DecidableEq, Repr

/-- Condition unit (R164, R167, R168, R172, R174). Bit n of `flags` is the flag of condition n, bit n of `unmasked` is
set where condition n is unmasked (table 11-8). `raised` holds the raisings of the step in hand, each with what the
moments of the step since then show; it is the model's own field and empty between steps (log 7). -/
structure ConditionUnit where
  flags    : BitVec 17
  unmasked : BitVec 17
  summary  : Bool
  counters : Counters
  alarms   : List AlarmFrame
  raised   : List Raising
deriving DecidableEq, Repr

/-! ### Command handler (chapter 10) -/

/-- The handler state (10.1). -/
inductive HandlerPhase where
  | ready | executing | answered
deriving DecidableEq, Repr

/-- Command handler (10.1). -/
structure Handler where
  inbound : List CommandFrame
  current : Option CommandFrame
  phase   : HandlerPhase
deriving DecidableEq, Repr

/-- The response statuses in the order of their table (R180). -/
inductive Status where
  | ok | busy | refusedState | badArgument | locked | alarmPending | queueFull | noContext | mapMismatch | slotEmpty
  | notFitted | malformed
deriving DecidableEq, Repr

/-- A RESPONSE (R180); the result is the bytes of table 11-11. -/
structure Response where
  sequence : Byte
  code     : Byte
  status   : Status
  result   : List Byte
deriving DecidableEq, Repr

/-! ### Links (chapter 11) -/

/-- A link receiver (R191). -/
inductive Receiver where
  | hunting | collecting
deriving DecidableEq, Repr

/-- A frame being sent: kind code, the transmitter's frame number and payload (11.1). -/
structure TxFrame where
  kind     : Byte
  sequence : Nat
  payload  : List Byte
deriving DecidableEq, Repr

/-- A transmitter: the frame it is sending, none while it is idle, and the number of the next frame it starts (R191). -/
structure Transmitter where
  sending : Option TxFrame
  next    : Nat
deriving DecidableEq, Repr

/-- Why a traverse was abandoned or discarded (R63, R64). `brk` is BREAK. -/
inductive AbandonReason where
  | brk | park | fixed | halt | overrun
deriving DecidableEq, Repr

/-- An ABANDONED notice (R88). -/
structure Notice where
  scanNumber : Nat
  timestamp  : Nat
  direction  : Direction
  tag        : Nat
  map        : MapIdentity
  reason     : AbandonReason
deriving DecidableEq, Repr

/-- A slice entry of a report (R87). -/
structure SliceEntry where
  f      : Int
  state  : SliceState
  status : ScanStatus
deriving DecidableEq, Repr

/-- A REPORT frame of a profile report (R87). -/
structure ProfileReport where
  scanNumber : Nat
  timestamp  : Nat
  channel    : ProfileChannel
  direction  : Direction
  tag        : Nat
  map        : MapIdentity
  edges      : Edges
  short      : Bool
  event      : Option ProfileNote
  eligible   : Nat
  valid      : Nat
  average    : Option Nat
  stats      : Option ChannelStats
  saturated  : Nat
  monitors   : List MonitorResult
  slices     : List SliceEntry
deriving DecidableEq, Repr

/-- A frame of the report buffer (R193). -/
inductive ReportFrame where
  | profile (r : ProfileReport)
  | notice (n : Notice)
deriving DecidableEq, Repr

/-- A STREAM frame (10.6, table 11-14). -/
structure StreamFrame where
  sample    : Sample
  direction : Option Direction
  timestamp : Nat
deriving DecidableEq, Repr

/-- Mill link port and outbound arbiter (R188, R192, R193, R194). -/
structure MillPort where
  receiver        : Receiver
  response        : Option Response
  passUp          : List (List Byte)
  reports         : List ReportFrame
  stream          : Option StreamFrame
  decimation      : Nat
  decimationCount : Nat
  transmitter     : Transmitter
deriving DecidableEq, Repr

/-- A frame for the drive (5.2). -/
inductive DriveFrame where
  | move (target speed : Nat)
  | stop
deriving DecidableEq, Repr

/-- The head modes (5.2). -/
inductive HeadMode where
  | normal | reference
deriving DecidableEq, Repr

/-- Carriage link port (R192). When both slots are filled, `driveEarlier` says that the drive slot's frame was handed
over before the head slot's. -/
structure CarriagePort where
  receiver     : Receiver
  drive        : Option DriveFrame
  head         : Option HeadMode
  driveEarlier : Bool
  passDown     : List (List Byte)
  transmitter  : Transmitter
deriving DecidableEq, Repr

/-! ### The state -/

/-- The whole part. `pending` (the commands that wait to be stepped) and `choices` (what the free values are applied to)
are the model's own fields; all others are the spec's. -/
structure State where
  conditioner : Conditioner
  tables      : Tables
  standardize : Standardizer
  binning     : Binning
  closeOut    : CloseOut
  profile     : ProfileStore
  frame       : FrameController
  contexts    : ContextQueue
  watch       : BreakWatch
  monitors    : List Monitor
  conditions  : ConditionUnit
  handler     : Handler
  mill        : MillPort
  port        : CarriagePort
  clock       : Nat
  choices     : Nat
  pending     : List Instr
deriving DecidableEq, Repr

/-- Why a step would stop with a fault: never. The type has no constructor, because every command of the part has an
effect the spec gives (what the spec calls a fault is a flag, a class or a response in `State`). -/
inductive Fault where
deriving DecidableEq, Repr

/-- Why a step would be refused. -/
inductive Refusal where
  /-- Raised by `exec` alone, for a command that has no meaning yet; safe, since the model stops where the part goes
  on. No arm of `exec` raises it. -/
  | notModelled (mnemonic : String)
deriving DecidableEq, Repr

/-! ### Values after power-on reset -/

/-- The same value for every profile channel. -/
def PerProfile.const {α : Type} (a : α) : PerProfile α := ⟨a, a, a, a⟩

/-- A region whose two copies hold the same value at generation 0 (R22). -/
def Region.initial {α : Type} (a : α) : Region α := ⟨a, a, 0, 0⟩

/-- The tables after power-on reset (R6, R22, R42, R89, R133, R184). -/
def Tables.reset : Tables where
  curve := .initial (.const none)
  bias := .initial (List.replicate 8 ⟨false, .bw, 0⟩)
  stdf := .initial (.const 16384)
  locked := false
  mapA := none
  mapB := none
  sheet := ⟨.park, 900, 8, 30, 3, 10, true, false, 700, 3⟩
  frame := ⟨0, 8000, 400, 100, 2000, 256, 5000⟩
  enables := ⟨false, false, false⟩

/-- A monitor record after power-on reset (R150). -/
def MonitorRecord.reset : MonitorRecord := ⟨false, .bw, .scanAvg, 0, 0, 1, .quiet⟩

/-- A monitor with this record and its evaluation state reset (R150, R152). -/
def Monitor.fresh (r : MonitorRecord) : Monitor := ⟨r, 0, .armed, none, none, none⟩

/-- The frame controller after power-on reset (R90). -/
def FrameController.reset : FrameController where
  carriage := .unreferenced
  scanOn := false
  limits := none
  target := none
  fixedPoint := none
  lastPosition := none
  lastDrive := none
  silence := none
  stall := none
  windows := .const []

/-- The break watch after power-on reset and RESTART (R133). -/
def BreakWatch.reset : BreakWatch := ⟨.sheetOn, none, 0, 0, none, none, none, none⟩

/-- Every counter at 0 (R175). -/
def Counters.zero : Counters := ⟨0, 0, 0, 0, 0, 0, 0, 0⟩

/-- The mask after power-on reset: BREAK, RESTORED, CARRIAGE_SILENT, DRIVE_STALL and DRIVE_FAULT unmasked (R173). -/
def resetMask : BitVec 17 := 0b00000001110000011#17

/-- The part after power-on reset; each block's rule is the one its type names. -/
def State.reset : State where
  conditioner := ⟨none, .const false⟩
  tables := .reset
  standardize := ⟨false, 0, none⟩
  binning := ⟨none, none⟩
  closeOut := ⟨.idle, 0⟩
  profile := ⟨none, .const [], none, none, List.replicate 4 none, []⟩
  frame := .reset
  contexts := ⟨[], none⟩
  watch := .reset
  monitors := List.replicate 8 (.fresh .reset)
  conditions := ⟨0, resetMask, false, .zero, [], []⟩
  handler := ⟨[], none, .ready⟩
  mill := ⟨.hunting, none, [], [], none, 0, 0, ⟨none, 0⟩⟩
  port := ⟨.hunting, none, none, false, [], ⟨none, 0⟩⟩
  clock := 0
  choices := 0
  pending := []

end Sys2Proof.Machine
end

