-- ==== Sys2Proof/WellFormed.lean ====
section
/-! DEFINITION. Which commands the links can deliver: an operand whose fields lie in the ranges that the frame's layout
gives them (1.1, R191, table 11-1). -/
namespace Sys2Proof

/-- A sample's numbers fit the fields of table 11-1 and the ranges of 1.1. -/
def SampleFrame.wellFormed (f : SampleFrame) : Bool :=
  decide (f.sequence ≤ 255) && decide (f.position ≤ Config.maxPosition) &&
  decide (f.raw.bw ≤ 65535) && decide (f.raw.mo ≤ 65535) && decide (f.raw.ca ≤ 65535) && decide (f.raw.tr ≤ 65535)

/-- A drive status's position fits its two bytes (R195). -/
def DriveStatus.wellFormed (d : DriveStatus) : Bool := decide (d.position ≤ 65535)

/-- A passthrough payload of 1 to 256 bytes (R190, R191). -/
def payloadWellFormed (p : List Byte) : Bool := decide (1 ≤ p.length) && decide (p.length ≤ 256)

/-- The code and the arguments fit one payload (R191). -/
def CommandFrame.wellFormed (f : CommandFrame) : Bool := decide (f.args.length + 1 ≤ Config.maxPayload)

/-- Fixed lengths are checked on the carriage link alone, whose kinds have them (R191). -/
def CheckFailure.possibleOn : Link → CheckFailure → Bool
  | .mill, .fixedLength => false
  | _, _ => true

/-- The operands of a command lie in the ranges their fields allow. -/
def Instr.wellFormed : Instr → Bool
  | .sample f => f.wellFormed
  | .driveStatus d => d.wellFormed
  | .passUp p => payloadWellFormed p
  | .command f => f.wellFormed
  | .frameCheckFailure l c => CheckFailure.possibleOn l c
  | .powerOnReset | .headAnnounce _ | .millTransmit | .carriageTransmit | .silenceTimerExpiry | .stallTimerExpiry
  | .stdTimerExpiry | .probeTimerExpiry | .probeDwellExpiry | .holdOffExpiry | .meansComplete | .filterComplete
  | .statsComplete | .monitorsComplete | .reportComplete | .readStatus | .readTable | .writeTableCurve
  | .writeTableBias | .writeTableStdf | .writeTableMap | .writeTableMonitor | .writeTableSheet | .writeTableFrame
  | .writeTableChannel | .writeTableSlotHeader | .writeTableSlotImage | .lockCalibration | .pushContext | .flushQueue
  | .startScan | .stopScan | .park | .resume | .fixedPoint | .standardize | .readFixed | .readProfile | .readTrend
  | .saveProfile | .restoreProfile | .clearProfile | .sheetNotice | .ackAlarm | .clearConditions | .setMask
  | .clearCounters | .setStream | .passDown | .restart | .millisecondTick | .syncPairFound _ | .millFrameCompleted
  | .carriageFrameCompleted | .unknownCommandCode | .writeTableUnknownRegion => true

end Sys2Proof
end

