-- ==== Sys2Proof/Decode.lean ====
section
/-! DEFINITION. What the link receivers make of received bytes (R191): from a byte stream to the rows SYNC_PAIR_FOUND,
FRAME_CHECK_FAILURE, SAMPLE, HEAD_ANNOUNCE, DRIVE_STATUS, PASS_UP and COMMAND; and the frames that carry them. The
opcode table gives no row any bits, so `decodeTableWord` answers none (log 25). -/
namespace Sys2Proof

open Machine

/-- The command a word spells by the table's bits: the table gives bits to no row (log 25). -/
def decodeTableWord (_nbits _w : Nat) : Option Instr := none

/-! ### Frames -/

/-- The bytes of a frame from its kind to its payload, over which the CRC is taken (R191). -/
def frameBody (kind sequence : Byte) (payload : List Byte) : List Byte :=
  kind :: sequence :: be16 payload.length ++ payload

/-- A whole frame: sync pair, kind, sequence, length, payload, CRC (R191). -/
def wire (kind sequence : Byte) (payload : List Byte) : List Byte :=
  0xC3#8 :: 0x3C#8 :: frameBody kind sequence payload ++ be16 (crc16 (frameBody kind sequence payload)).toNat

/-- The bytes a transmitter sends for a frame (R191). -/
def Machine.TxFrame.wire (f : TxFrame) : List Byte := Sys2Proof.wire f.kind (byte f.sequence) f.payload

/-! ### Payloads of received frames (table 11-1, R195) -/

/-- The SAMPLE payload of table 11-1. -/
def SampleFrame.payload (f : SampleFrame) : List Byte :=
  byte f.sequence :: be16 f.position ++ [byte (packBits [f.reference, f.hint == .rev]), byte (packMeasured f.ready)] ++
  be16 f.raw.bw ++ be16 f.raw.mo ++ be16 f.raw.ca ++ be16 f.raw.tr ++ [0#8]

/-- The SAMPLE frame of a payload of 14 bytes (table 11-1); the spare byte is ignored. -/
def SampleFrame.ofPayload : List Byte → Option SampleFrame
  | [sq, p1, p0, fl, rd, b1, b0, m1, m0, c1, c0, t1, t0, _spare] =>
    some ⟨sq.toNat, u16 p1 p0, fl.getLsbD 0, if fl.getLsbD 1 then .rev else .fwd, unpackMeasured rd,
      ⟨u16 b1 b0, u16 m1 m0, u16 c1 c0, u16 t1 t0⟩⟩
  | _ => none

/-- The DRIVE_STATUS payload (R195): a flag byte, a 2-byte position, 3 spare bytes. -/
def DriveStatus.payload (d : DriveStatus) : List Byte :=
  byte (packBits [d.referenced, d.moving, d.fault]) :: be16 d.position ++ [0#8, 0#8, 0#8]

/-- The DRIVE_STATUS of a payload of 6 bytes (R195). -/
def DriveStatus.ofPayload : List Byte → Option DriveStatus
  | [fl, p1, p0, _, _, _] => some ⟨fl.getLsbD 0, fl.getLsbD 1, fl.getLsbD 2, u16 p1 p0⟩
  | _ => none

/-- The link, kind code and payload of the frame that brings an event, for the rows that are frames (table 11-6). The
frame's sequence byte is the sender's own, except that of a COMMAND (R191). -/
def Instr.frame : Instr → Option (Link × Byte × List Byte)
  | .sample f => some (.carriage, 0x01#8, f.payload)
  | .headAnnounce s => some (.carriage, 0x02#8, [byte (packMeasured s)])
  | .driveStatus d => some (.carriage, 0x03#8, d.payload)
  | .passUp p => some (.carriage, 0x04#8, p)
  | .command f => some (.mill, 0x21#8, f.code :: f.args)
  | _ => none

/-- What a complete frame with an agreeing CRC is to a receiver: the event it delivers, or the check it fails (R191). -/
def deliver (link : Link) (kind sequence : Byte) (payload : List Byte) : Except CheckFailure Instr :=
  match link with
  | .carriage =>
    if kind = 0x01#8 then
      match SampleFrame.ofPayload payload with
      | some f => .ok (.sample f)
      | none => .error .fixedLength
    else if kind = 0x02#8 then
      match payload with
      | [b] => .ok (.headAnnounce (unpackMeasured b))
      | _ => .error .fixedLength
    else if kind = 0x03#8 then
      match DriveStatus.ofPayload payload with
      | some d => .ok (.driveStatus d)
      | none => .error .fixedLength
    else if kind = 0x04#8 then
      if payloadWellFormed payload then .ok (.passUp payload) else .error .payloadLength
    else .error .kind
  | .mill =>
    if kind = 0x21#8 then
      match payload with
      | code :: args => .ok (.command ⟨sequence, code, args⟩)
      | [] => .error .payloadLength
    else .error .kind

/-- Collecting one frame from the bytes after its sync pair: none while the frame is not complete; else the event, and
the bytes the receiver goes on with, which after a failure begin right after the failed frame's sync pair (R191). -/
def collect (link : Link) (bytes : List Byte) : Option (Instr × List Byte) :=
  match bytes with
  | kind :: sequence :: h :: l :: rest =>
    let len := u16 h l
    if Config.maxPayload < len then some (.frameCheckFailure link .lengthAboveMax, bytes)
    else if rest.length < len + 2 then none
    else if (rest.drop len).take 2 ≠ be16 (crc16 (kind :: sequence :: h :: l :: rest.take len)).toNat then
      some (.frameCheckFailure link .crc, bytes)
    else
      match deliver link kind sequence (rest.take len) with
      | .ok i => some (i, rest.drop (len + 2))
      | .error e => some (.frameCheckFailure link e, bytes)
  | _ => none

/-- HUNTING: the bytes after the first 0xC3 that 0x3C follows at once (R191). -/
def hunt : List Byte → Option (List Byte)
  | a :: b :: rest => if a = 0xC3#8 ∧ b = 0x3C#8 then some rest else hunt (b :: rest)
  | _ => none

/-- The events a receiver makes of a byte stream, from HUNTING (R191). The first argument bounds the frames looked for;
the length of the stream is enough, since each takes its sync pair from it. -/
def receive (link : Link) : Nat → List Byte → List Instr
  | 0, _ => []
  | n + 1, bytes =>
    match hunt bytes with
    | none => []
    | some body =>
      match collect link body with
      | none => [.syncPairFound link]
      | some (i, rest) => .syncPairFound link :: i :: receive link n rest

end Sys2Proof
end

