-- ==== Sys2Proof/Machine/Ops.lean ====
section
/-! DEFINITION. The shared operations: the rounding functions of 00_scope.md section 5, timers, per-channel records, the
transmitters (R191), the report buffer (R193), and the calibration regions (R18, R20). -/
namespace Sys2Proof.Machine

/-! ### Arithmetic (00_scope.md section 5) -/

/-- Rounded half up, for natural numbers: the nearest integer, a tie to the larger. -/
def roundHalfUp (a b : Nat) : Nat := (2 * a + b) / (2 * b)

/-- Rounded half up, for a of any sign and b > 0: floor ((2a + b) / (2b)). -/
def roundHalfUpInt (a : Int) (b : Nat) : Int := (2 * a + b) / (2 * (b : Int))

/-- Rounded half away from zero, b > 0: the nearest integer, a tie to the one of larger magnitude. -/
def roundHalfAway (a : Int) (b : Nat) : Int :=
  if 0 ≤ a then ((roundHalfUp a.natAbs b : Nat) : Int) else -((roundHalfUp a.natAbs b : Nat) : Int)

/-- The distance between two positions. -/
def distance (a b : Nat) : Nat := (a - b) + (b - a)

/-- A counter that saturates at `top`. -/
def saturate (top n : Nat) : Nat := if n ≤ top then n else top

/-- The bits of a square root by successive approximation, from bit `n - 1` down to bit 0, over a trial (R77). -/
def sqrtBits (q : Nat) : Nat → Nat → Nat
  | 0, trial => trial
  | n + 1, trial => sqrtBits q n (if (trial + 2 ^ n) * (trial + 2 ^ n) ≤ q then trial + 2 ^ n else trial)

/-- σ16 of R77: result bits 20 down to 0, from a trial of 0. -/
def sigma16 (q : Nat) : Nat := sqrtBits q 21 0

/-! ### Per-channel records -/

/-- The item of a profile channel. -/
def PerProfile.get {α : Type} (p : PerProfile α) : ProfileChannel → α
  | .bw => p.bw
  | .mo => p.mo
  | .ca => p.ca
  | .dw => p.dw

/-- The record with one channel's item replaced. -/
def PerProfile.set {α : Type} (p : PerProfile α) (c : ProfileChannel) (a : α) : PerProfile α :=
  match c with
  | .bw => { p with bw := a }
  | .mo => { p with mo := a }
  | .ca => { p with ca := a }
  | .dw => { p with dw := a }

/-- The record made channel by channel. -/
def PerProfile.make {α : Type} (f : ProfileChannel → α) : PerProfile α := ⟨f .bw, f .mo, f .ca, f .dw⟩

/-- The profile channels in the channel order of reports (R87). -/
def ProfileChannel.all : List ProfileChannel := [.bw, .mo, .ca, .dw]

/-- Whether the input gauges of a profile channel are in a fitted set; DW needs both BW and MO (R62, R81). -/
def ProfileChannel.fittedIn (fitted : PerMeasured Bool) : ProfileChannel → Bool
  | .bw => fitted.bw
  | .mo => fitted.mo
  | .ca => fitted.ca
  | .dw => fitted.bw && fitted.mo

/-- The maximum of a profile channel (00_scope.md section 4). -/
def ProfileChannel.max : ProfileChannel → Nat
  | .mo => 10000
  | .bw | .ca | .dw => 65535

/-- The maxima of the measured channels (00_scope.md section 4). -/
def measuredMax : PerMeasured Nat := ⟨65535, 10000, 65535, 1000⟩

/-! ### Free orders -/

/-- The permutation of a list with a given number: the number's digits pick the next member (log 6, log 7). The first
argument bounds the members picked; the list's length is enough. -/
def arrange {α : Type} : Nat → Nat → List α → List α
  | 0, _, _ => []
  | n + 1, k, l =>
    match l[k % l.length]? with
    | some a => a :: arrange n (k / l.length) (l.eraseIdx (k % l.length))
    | none => []

/-! ### Timers (00_scope.md section 4; log 5) -/

/-- A timer started with a period in milliseconds. -/
def Timer.start (period : Nat) : Timer := ⟨period, 0⟩

/-- A timer after one tick; it stays at its period until its expiry is taken. -/
def Timer.tick (t : Timer) : Timer := if t.elapsed < t.period then { t with elapsed := t.elapsed + 1 } else t

/-- Whether a timer has run its period, so that its expiry can be taken. -/
def Timer.due (t : Timer) : Bool := decide (t.period ≤ t.elapsed)

/-- Whether a timer is running and due; an idle timer does not expire. -/
def timerDue : Option Timer → Bool
  | some t => t.due
  | none => false

/-! ### Carriage states -/

/-- The carriage state without its sub-state (table 11-7). -/
def Carriage.kind : Carriage → CarriageKind
  | .unreferenced => .unreferenced
  | .parking => .parking
  | .parked => .parked
  | .standardizing => .standardizing
  | .traverse _ _ => .traverse
  | .fixed _ => .fixed
  | .probing _ => .probing
  | .halted => .halted

/-- The direction, present in TRAVERSE (5.1). -/
def Carriage.direction : Carriage → Option Direction
  | .traverse _ d => some d
  | _ => none

/-- TRAVERSE with sub-state SCANNING. -/
def Carriage.isScanning : Carriage → Bool
  | .traverse .scanning _ => true
  | _ => false

/-- The other direction (R101). -/
def otherDirection : Direction → Direction
  | .fwd => .rev
  | .rev => .fwd

/-! ### Slice maps (3.1) -/

/-- The identity of a map record under its letter (R41). -/
def MapRecord.identity (l : MapLetter) (r : MapRecord) : MapIdentity := ⟨l, r.id, r.sliceCount⟩

/-- The identity of a traverse map (R41, R46). -/
def TraverseMap.identity (m : TraverseMap) : MapIdentity := m.record.identity m.letter

/-- The stored map of a letter (R42). -/
def Tables.map (t : Tables) : MapLetter → Option MapRecord
  | .a => t.mapA
  | .b => t.mapB

/-- The tables with the map of a letter replaced (R43). -/
def Tables.setMap (t : Tables) (l : MapLetter) (r : MapRecord) : Tables :=
  match l with
  | .a => { t with mapA := some r }
  | .b => { t with mapB := some r }

/-- The span of a map: b₀ to b_N − 1 (R41). -/
def MapRecord.span (r : MapRecord) : Span := ⟨r.boundaries.headD 0, r.boundaries.getLastD 0 - 1⟩

/-! ### Calibration regions (R18, R20) -/

/-- The next staged generation: one on, wrapping after 65535, and once more if that is the in-effect one (R18 step 4). -/
def nextGeneration (staged inEffect : Nat) : Nat :=
  let g := (staged + 1) % 65536
  if g = inEffect then (g + 1) % 65536 else g

/-- A region with a new staged copy and its staged generation advanced (R18, R19). -/
def Region.stage {α : Type} (r : Region α) (a : α) : Region α :=
  { r with staged := a, stagedGen := nextGeneration r.stagedGen r.inEffectGen }

/-- A region after a commit (R20). -/
def Region.commit {α : Type} (r : Region α) : Region α :=
  if r.stagedGen = r.inEffectGen then r else { r with inEffect := r.staged, inEffectGen := r.stagedGen }

/-- A commit of all three calibration regions, each on its own (R20). -/
def commit (s : State) : State :=
  { s with tables := { s.tables with
      curve := s.tables.curve.commit, bias := s.tables.bias.commit, stdf := s.tables.stdf.commit } }

/-! ### Transmitters (R191) -/

/-- A transmitter starting a frame: it takes the next number, which wraps after 255 (R191). -/
def Transmitter.start (t : Transmitter) (kind : Byte) (payload : List Byte) : Transmitter :=
  ⟨some ⟨kind, t.next, payload⟩, (t.next + 1) % 256⟩

/-! ### Report buffer (R193) -/

/-- Whether a frame of the report buffer belongs to a profile report. -/
def ReportFrame.isProfile : ReportFrame → Bool
  | .profile _ => true
  | .notice _ => false

/-- One more report dropped when something was removed from the report buffer (R174, R193). -/
def countReportDropped (removed : Bool) (s : State) : State :=
  if removed then
    { s with conditions := { s.conditions with counters := { s.conditions.counters with
        reportsDropped := saturate Config.counterMax (s.conditions.counters.reportsDropped + 1) } } }
  else s

/-- A profile report placed: the unsent frames of the previous one are removed, and its own frames join as newest (R193). -/
def placeReport (frames : List ProfileReport) (s : State) : State :=
  let s := countReportDropped (s.mill.reports.any ReportFrame.isProfile) s
  { s with mill := { s.mill with
      reports := s.mill.reports.filter (fun f => !f.isProfile) ++ frames.map .profile } }

/-- An ABANDONED notice placed: an unsent earlier notice is removed, and it joins as newest (R193). -/
def placeNotice (n : Notice) (s : State) : State :=
  let s := countReportDropped (s.mill.reports.any (fun f => !f.isProfile)) s
  { s with mill := { s.mill with reports := s.mill.reports.filter ReportFrame.isProfile ++ [.notice n] } }

end Sys2Proof.Machine
end

