-- ==== Sys2Proof/Machine/Port.lean ====
section
/-! DEFINITION. The carriage link port (R192): its slots and transmitter, the frames handed to it, and what its transmitter
sends. -/
namespace Sys2Proof.Machine

/-- Kind code and payload of a frame for the drive (table 11-6, R195). -/
def DriveFrame.bytes : DriveFrame → Byte × List Byte
  | .move target speed => (0x11#8, be16 target ++ be16 speed)
  | .stop => (0x12#8, [])

/-- The HEAD_MODE payload (R195). -/
def HeadMode.payload : HeadMode → List Byte
  | .normal => [byte 0]
  | .reference => [byte 1]

/-- The drive slot's frame started: it leaves its slot (R192). -/
def CarriagePort.sendDrive (f : DriveFrame) (p : CarriagePort) : CarriagePort :=
  { p with drive := none, driveEarlier := false, transmitter := p.transmitter.start f.bytes.1 f.bytes.2 }

/-- The head slot's frame started: it leaves its slot (R192). -/
def CarriagePort.sendHead (m : HeadMode) (p : CarriagePort) : CarriagePort :=
  { p with head := none, driveEarlier := false, transmitter := p.transmitter.start 0x13#8 m.payload }

/-- An idle transmitter starts the slot frame that waits, the earlier-handed one of two; a busy one, or one for which no
slot frame waits, is left as it is (R192). -/
def CarriagePort.sendSlots (p : CarriagePort) : CarriagePort :=
  match p.transmitter.sending, p.drive, p.head with
  | none, some d, some h => if p.driveEarlier then p.sendDrive d else p.sendHead h
  | none, some d, none => p.sendDrive d
  | none, none, some h => p.sendHead h
  | none, none, none => p
  | some _, _, _ => p

/-- A MOVE or STOP handed over (R192): it replaces an unsent one and counts as handed over now, and an idle transmitter
sends it at once. What had waited for an idle transmitter has been sent before it (log 9). -/
def CarriagePort.handDrive (f : DriveFrame) (p : CarriagePort) : CarriagePort :=
  let p := p.sendSlots
  CarriagePort.sendSlots { p with drive := some f, driveEarlier := p.head.isNone }

/-- A HEAD_MODE handed over (R192), as `CarriagePort.handDrive` has it for the drive slot. -/
def CarriagePort.handHead (m : HeadMode) (p : CarriagePort) : CarriagePort :=
  let p := p.sendSlots
  CarriagePort.sendSlots { p with head := some m, driveEarlier := p.drive.isSome }

/-- What an idle transmitter sends: a slot frame, or with both slots empty the oldest pass-down payload; a busy one goes on
with its frame (R192). -/
def CarriagePort.transmit (p : CarriagePort) : CarriagePort :=
  match p.transmitter.sending, p.drive, p.head, p.passDown with
  | none, none, none, payload :: rest =>
    { p with passDown := rest, transmitter := p.transmitter.start 0x14#8 payload }
  | _, _, _, _ => p.sendSlots

/-- A MOVE or STOP handed to the carriage link port (R192). -/
def handDrive (f : DriveFrame) (s : State) : State := { s with port := s.port.handDrive f }

/-- A HEAD_MODE handed to the carriage link port (R192). -/
def handHead (m : HeadMode) (s : State) : State := { s with port := s.port.handHead m }

end Sys2Proof.Machine
end

