-- ==== Sys2Proof/Machine/Flags.lean ====
section
/-! DEFINITION. The condition unit (chapter 9): flags, mask, alarms, the alarm queue, the pending summary and the
counters. -/
namespace Sys2Proof.Machine

/-- The number of a condition (9.1). -/
def Condition.number : Condition → Nat
  | .sheetBreak => 0
  | .restored => 1
  | .edgeLost => 2
  | .shortScan => 3
  | .overrun => 4
  | .stdDrift => 5
  | .stdAbort => 6
  | .carriageSilent => 7
  | .driveStall => 8
  | .driveFault => 9
  | .sampleGap => 10
  | .headFault => 11
  | .range => 12
  | .queueOverflow => 13
  | .monTrip => 14
  | .monInvalid => 15
  | .linkError => 16

/-- The condition set that names one condition (table 11-2). -/
def Condition.bit (c : Condition) : BitVec 17 := 1#17 <<< c.number

/-- Whether a condition's flag is set (R164). -/
def ConditionUnit.flag (u : ConditionUnit) (c : Condition) : Bool := u.flags.getLsbD c.number

/-- Whether a condition is unmasked (R165, R172). -/
def ConditionUnit.isUnmasked (u : ConditionUnit) (c : Condition) : Bool := u.unmasked.getLsbD c.number

/-- The flag of a condition set (R164). -/
def ConditionUnit.setFlag (u : ConditionUnit) (c : Condition) : ConditionUnit := { u with flags := u.flags ||| c.bit }

/-- The alarm of a condition with its fields read now (R165). -/
def alarmNow (c : Condition) (s : State) : AlarmFrame :=
  { condition := c, timestamp := s.clock, carriage := s.frame.carriage.kind, breakState := s.watch.state,
    position := s.frame.lastPosition, scanNumber := s.closeOut.scanNumber }

/-- One more alarm dropped (R167, R174). -/
def ConditionUnit.countAlarmDropped (u : ConditionUnit) : ConditionUnit :=
  { u with counters := { u.counters with alarmsDropped := saturate Config.counterMax (u.counters.alarmsDropped + 1) } }

/-- LINK_ERROR raised for a dropped alarm: its own frame, if it makes one, finds the queue still full and is dropped as
well, and the raising that follows finds the flag set (R167 steps 2 and 3). -/
def ConditionUnit.alarmLost (u : ConditionUnit) : ConditionUnit :=
  if u.flag .linkError then u
  else if u.isUnmasked .linkError then { (u.setFlag .linkError) with summary := true }.countAlarmDropped
  else u.setFlag .linkError

/-- The condition unit takes one raising, whose alarm would be `a` (R164, R165, R167). -/
def ConditionUnit.take (u : ConditionUnit) (a : AlarmFrame) : ConditionUnit :=
  if u.flag a.condition then u
  else if u.isUnmasked a.condition then
    let v := { (u.setFlag a.condition) with summary := true }
    if v.alarms.length < Config.alarmCapacity then { v with alarms := v.alarms ++ [a] }
    else v.countAlarmDropped.alarmLost
  else u.setFlag a.condition

/-- The condition of a raising. -/
def Raising.condition (r : Raising) : Condition := r.alarm.condition

/-- A block raises a condition: the raising is all the block does (9.1). The condition unit takes it in `settle`. -/
def raise (c : Condition) (s : State) : State :=
  { s with conditions := { s.conditions with raised := s.conditions.raised ++ [⟨alarmNow c s, []⟩] } }

/-- What an alarm would show of the frame controller and the break watch now (R165). -/
def viewNow (s : State) : View := ⟨s.frame.carriage.kind, s.frame.lastPosition, s.watch.state⟩

/-- A moment within a step, noted for the raisings that wait (R166; log 7). -/
def noteMoment (v : View) (s : State) : State :=
  { s with conditions := { s.conditions with
      raised := s.conditions.raised.map (fun r => { r with later := r.later ++ [v] }) } }

/-- Every moment at which a raising of a step that ends in `s` may be taken: the raise, those noted since, the end. -/
def Raising.moments (s : State) (r : Raising) : List View :=
  ⟨r.alarm.carriage, r.alarm.position, r.alarm.breakState⟩ :: r.later ++ [viewNow s]

/-- The moment of a number among the moments of a raising, the numbers running round. -/
def Raising.moment (s : State) (k : Nat) (r : Raising) : View :=
  (r.moments s).getD (k % (r.moments s).length) (viewNow s)

/-- A raising as the condition unit takes it: the fields of the raising block as it left them when it raised, those of the
frame controller (0) and of the break watch (1), where they are other blocks, each at the moment that `pick` gives (R166;
log 7). The scan number and the time do not change in a step that raises. -/
def Raising.seen (pick : Nat → Nat) (s : State) (r : Raising) : AlarmFrame :=
  let frame := r.moment s (pick 0)
  let watch := r.moment s (pick 1)
  match r.condition with
  | .sheetBreak | .restored => { r.alarm with carriage := frame.carriage, position := frame.position }
  | .carriageSilent | .driveStall | .driveFault => { r.alarm with breakState := watch.breakState }
  | .edgeLost | .shortScan | .overrun | .stdDrift | .stdAbort | .sampleGap | .headFault | .range | .queueOverflow
  | .monTrip | .monInvalid | .linkError =>
    { r.alarm with carriage := frame.carriage, position := frame.position, breakState := watch.breakState }

/-- The condition unit takes the raisings of a step in the order of a number, each seen at the moments that `pick` gives
(R166, R37). -/
def settleWith (order : Nat) (pick : Condition → Nat → Nat) (s : State) : State :=
  let taken := arrange s.conditions.raised.length order s.conditions.raised
  let alarms := taken.map (fun r => r.seen (pick r.condition) s)
  { s with conditions := alarms.foldl ConditionUnit.take { s.conditions with raised := [] } }

/-- The condition unit takes the raisings of the step, in the order and at the moments the free values give (log 7). A
step that raises nothing is left as it is. -/
def settle (s : State) : State :=
  if s.conditions.raised.isEmpty then s
  else settleWith (Config.takingOrder s.choices) (fun c => Config.seenMoment s.choices c.number)
    { s with choices := s.choices + 1 }

/-- The counters with the sample gap total increased by a gap (R3, R174). -/
def countGap (gap : Nat) (s : State) : State :=
  { s with conditions := { s.conditions with counters := { s.conditions.counters with
      gapTotal := saturate Config.counterMax (s.conditions.counters.gapTotal + gap) } } }

/-- One more check failure on a link (R174, R191). -/
def countCheckFailure (l : Link) (s : State) : State :=
  match l with
  | .carriage => { s with conditions := { s.conditions with counters := { s.conditions.counters with
      carriageFailures := saturate Config.counterMax (s.conditions.counters.carriageFailures + 1) } } }
  | .mill => { s with conditions := { s.conditions with counters := { s.conditions.counters with
      millFailures := saturate Config.counterMax (s.conditions.counters.millFailures + 1) } } }

/-- One more inbound command dropped (R174, R178). -/
def countCommandDropped (s : State) : State :=
  { s with conditions := { s.conditions with counters := { s.conditions.counters with
      commandsDropped := saturate Config.counterMax (s.conditions.counters.commandsDropped + 1) } } }

/-- One more stream sample dropped (R174, R194). -/
def countStreamDropped (s : State) : State :=
  { s with conditions := { s.conditions with counters := { s.conditions.counters with
      streamDropped := saturate Config.counterMax (s.conditions.counters.streamDropped + 1) } } }

/-- One more passthrough frame dropped (R174, R190, R192). -/
def countPassDropped (s : State) : State :=
  { s with conditions := { s.conditions with counters := { s.conditions.counters with
      passDropped := saturate Config.counterMax (s.conditions.counters.passDropped + 1) } } }

end Sys2Proof.Machine
end

