-- ==== Sys2Proof/Machine/Encode.lean ====
section
/-! DEFINITION. The bytes of what the part sends: codes (tables 11-6, 11-7), records as READ_TABLE returns them (tables 11-9,
11-11), the status record (11-12), trend records (11-13), and the payloads of ALARM, RESPONSE, REPORT, STREAM (11-2 to
11-5, 11-14). -/
namespace Sys2Proof.Machine

/-! ### Codes (table 11-7) -/

/-- Carriage state codes. -/
def CarriageKind.code : CarriageKind → Nat
  | .unreferenced => 0
  | .parking => 1
  | .parked => 2
  | .standardizing => 3
  | .traverse => 4
  | .fixed => 5
  | .probing => 6
  | .halted => 7

/-- Sub-state codes; 0 where the carriage state has none. -/
def Carriage.subCode : Carriage → Nat
  | .traverse .positioning _ => 1
  | .traverse .scanning _ => 2
  | .fixed .moving | .probing .moving => 3
  | .fixed .dwelling | .probing .dwelling => 4
  | .unreferenced | .parking | .parked | .standardizing | .halted => 0

/-- Direction codes; 0xFF where absent. -/
def optDirectionCode : Option Direction → Nat
  | some d => directionCode d
  | none => 255

/-- Break state codes. -/
def BreakState.code : BreakState → Nat
  | .sheetOn => 0
  | .broken => 1
  | .sheetOff => 2
  | .threading => 3

/-- Break mode codes. -/
def BreakMode.code : BreakMode → Nat
  | .report => 0
  | .park => 1
  | .latched => 2

/-- Break source codes; 0xFF where absent. -/
def sourceCode : Option BreakSource → Nat
  | some .gauge => 0
  | some .mill => 1
  | none => 255

/-- Channel codes of the profile channels. -/
def ProfileChannel.code : ProfileChannel → Nat
  | .bw => 0
  | .mo => 1
  | .ca => 2
  | .dw => 4

/-- Value class codes. -/
def Conditioned.code : Conditioned → Nat
  | .normal _ => 0
  | .clamped _ => 1
  | .absent => 2
  | .faulted => 3

/-- Map letter codes. -/
def MapLetter.code : MapLetter → Nat
  | .a => 0
  | .b => 1

/-- Close-out phase codes. -/
def Engine.code : Engine → Nat
  | .idle => 0
  | .means _ _ => 1
  | .filter _ _ _ => 2
  | .stats _ _ _ => 3
  | .monitors _ _ _ _ => 4
  | .report _ _ _ _ _ => 5

/-- Profile event codes; NONE where the note was absent. -/
def eventCode : Option ProfileNote → Nat
  | none => 0
  | some .cleared => 1
  | some .restored => 2
  | some .restoreFailed => 3

/-- Abandonment reason codes. -/
def AbandonReason.code : AbandonReason → Nat
  | .brk => 0
  | .park => 1
  | .fixed => 2
  | .halt => 3
  | .overrun => 4

/-- Monitor source codes. -/
def MonitorSource.code : MonitorSource → Nat
  | .scanAvg => 0
  | .spread => 1
  | .range => 2
  | .slice _ _ => 3

/-- Monitor kind codes. -/
def MonitorKind.code : MonitorKind → Nat
  | .quiet => 0
  | .strict => 1

/-- Monitor outcome codes. -/
def MonitorOutcome.code : MonitorOutcome → Nat
  | .below => 0
  | .within => 1
  | .above => 2
  | .unordered => 3

/-- Monitor state codes. -/
def MonitorState.code : MonitorState → Nat
  | .armed => 0
  | .tripped => 1

/-- Slice state codes (table 11-5). -/
def SliceState.code : SliceState → Nat
  | .unset => 0
  | .valid => 1
  | .stale => 2

/-- Last-scan status codes (table 11-5). -/
def ScanStatus.code : ScanStatus → Nat
  | .fresh => 0
  | .held => 1
  | .excluded => 2
  | .unwritten => 3

/-- Status codes: from 0 upward in the order of the status table (11.4). -/
def Status.code : Status → Nat
  | .ok => 0
  | .busy => 1
  | .refusedState => 2
  | .badArgument => 3
  | .locked => 4
  | .alarmPending => 5
  | .queueFull => 6
  | .noContext => 7
  | .mapMismatch => 8
  | .slotEmpty => 9
  | .notFitted => 10
  | .malformed => 11

/-! ### Records -/

/-- A flag as a byte. -/
def bitByte (b : Bool) : Byte := byte (bit b)

/-- A presence byte and a 2-byte field that keeps its place, sent as 0 when absent (R195). -/
def presence16 (o : Option Nat) : List Byte := bitByte o.isSome :: be16 (o.getD 0)

/-- A map identity, or letter 0xFF with id and count 0 (tables 11-11, 11-12). -/
def identityBytes : Option MapIdentity → List Byte
  | some i => byte i.letter.code :: be16 i.id ++ be16 i.sliceCount
  | none => byte 255 :: be16 0 ++ be16 0

/-- The points of a curve record (table 11-9). -/
def pointBytes (p : CurvePoint) : List Byte := be16 p.r ++ be16 p.e

/-- A curve record from the point count on (tables 11-9, 11-11). -/
def curveBytes (c : Curve) : List Byte :=
  byte (c.rest.length + 1) :: be16 c.rRef ++ be16 c.driftLimit ++ (c.first :: c.rest).flatMap pointBytes

/-- A bias entry as written (table 11-9). -/
def biasBytes (b : BiasEntry) : List Byte := [bitByte b.enabled, byte b.channel.code] ++ be16 (twos 16 b.bias)

/-- A map record from the map id on (tables 11-9, 11-11). -/
def mapBytes (r : MapRecord) : List Byte :=
  be16 r.id ++ be16 r.sliceCount ++ be16 r.boundaries.length ++
  (match r.fixedRange with
   | some (first, last) => byte 1 :: be16 first ++ be16 last
   | none => [byte 0]) ++
  r.boundaries.flatMap be16

/-- The slice range of a monitor record, for SLICE only (table 11-9). -/
def sourceBytes : MonitorSource → List Byte
  | .slice first last => byte 3 :: be16 first ++ be16 last
  | s => [byte s.code]

/-- A monitor record as written (table 11-9). -/
def monitorRecordBytes (r : MonitorRecord) : List Byte :=
  [bitByte r.enabled, byte r.channel.code] ++ sourceBytes r.source ++ be32 (twos 32 r.low) ++ be32 (twos 32 r.high) ++
  [byte r.persistence, byte r.kind.code]

/-- A monitor as READ_TABLE returns it (table 11-11). -/
def monitorBytes (m : Monitor) : List Byte :=
  monitorRecordBytes m.record ++
  [byte m.count, byte m.state.code, byte ((m.lastOutcome.map MonitorOutcome.code).getD 255)] ++
  presence16 m.lastScan ++ opt16 m.slicesOutside

/-- The SHEET settings as written (table 11-9). -/
def sheetBytes (t : SheetSettings) : List Byte :=
  byte t.mode.code :: be16 t.trBreak ++ [byte t.nBreak] ++ be16 t.probeInterval ++ [byte t.probeDwell, byte t.holdOff,
    bitByte t.standardizeAfter, bitByte t.autoResume] ++ be16 t.trPresent ++ [byte t.m]

/-- The FRAME settings as written (table 11-9). -/
def frameBytes (t : FrameSettings) : List Byte :=
  be16 t.park ++ be16 t.probe ++ be16 t.minimumWidth ++ be16 t.silencePeriod ++ be16 t.stallPeriod ++ be16 t.s ++
  be16 t.stdTimeout

/-- F and the state and status bits of table 11-5. -/
def sliceBytes (f : Int) (stateCode statusCode : Nat) : List Byte :=
  be24 (twos 24 f) ++ [byte (stateCode + 4 * statusCode)]

/-- An entry of a saved image as written: bits 2 to 7 of byte 3 sent as 0 (table 11-9). -/
def imageEntryBytes (e : ImageEntry) : List Byte := sliceBytes e.f e.state.code 0

/-- A slice record as READ_PROFILE returns it (table 11-11). -/
def sliceRecordBytes (r : SliceRecord) : List Byte :=
  sliceBytes r.f r.state.code r.status.code ++ [byte r.age] ++ presence16 r.lastMean

/-- A condition set or mask of 3 bytes (table 11-2). -/
def setBytes (b : BitVec 17) : List Byte := be24 b.toNat

/-- Average, spread and range behind a presence byte, each sent as 0 when absent (tables 11-4, 11-13; log 17). -/
def figureBytes (average : Option Nat) (stats : Option ChannelStats) : List Byte :=
  byte (packBits [average.isSome, stats.isSome, stats.isSome]) :: be16 (average.getD 0) ++
  be24 ((stats.map ChannelStats.spread).getD 0) ++ be24 ((stats.map ChannelStats.range).getD 0)

/-- The per-channel part of a trend record (table 11-13). -/
def trendChannelBytes : Option TrendChannel → List Byte
  | some c => bitByte c.short :: be16 c.valid ++ figureBytes c.average c.stats
  | none => []

/-- A trend record (table 11-13). -/
def trendBytes (r : TrendRecord) : List Byte :=
  be16 r.scanNumber ++ be32 r.timestamp ++ [byte (directionCode r.direction)] ++ be16 r.tag ++
  identityBytes (some r.map) ++ [byte (packBits [r.edgeLost, r.edgesAtLimit, r.profileCleared])] ++
  be16 r.front ++ be16 r.back ++
  [byte (packBits [r.channels.bw.isSome, r.channels.mo.isSome, r.channels.ca.isSome, r.channels.dw.isSome])] ++
  trendChannelBytes r.channels.bw ++ trendChannelBytes r.channels.mo ++ trendChannelBytes r.channels.ca ++
  trendChannelBytes r.channels.dw

/-- The eight counters in the order of their table (R174). -/
def Counters.list (c : Counters) : List Nat :=
  [c.gapTotal, c.carriageFailures, c.millFailures, c.commandsDropped, c.reportsDropped, c.streamDropped,
   c.alarmsDropped, c.passDropped]

/-- The last drive status in the status record: presence, flags, position (table 11-12). -/
def driveBytes : Option DriveStatus → List Byte
  | some d => [byte 1, byte (packBits [d.referenced, d.moving, d.fault])] ++ be16 d.position
  | none => [byte 0, byte 0] ++ be16 0

/-- The generations of a region in the status record (table 11-12). -/
def generationBytes {α : Type} (r : Region α) : List Byte := be16 r.stagedGen ++ be16 r.inEffectGen

/-- The status record (table 11-12, R185). -/
def statusRecord (s : State) : List Byte :=
  [byte s.frame.carriage.kind.code, byte s.frame.carriage.subCode,
   byte (optDirectionCode s.frame.carriage.direction), bitByte s.frame.scanOn] ++
  opt16 (s.frame.limits.map Span.front) ++ opt16 (s.frame.limits.map Span.back) ++
  opt16 s.frame.lastPosition ++ driveBytes s.frame.lastDrive ++
  [byte s.watch.state.code, byte s.tables.sheet.mode.code, byte (sourceCode s.watch.source)] ++
  setBytes s.conditions.flags ++ setBytes s.conditions.unmasked ++ [bitByte s.conditions.summary] ++
  s.conditions.counters.list.flatMap be16 ++
  byte s.contexts.queue.length :: presence16 (s.contexts.inEffect.map Context.tag) ++
  generationBytes s.tables.curve ++ generationBytes s.tables.bias ++ generationBytes s.tables.stdf ++
  [bitByte s.tables.locked, byte (packMeasured s.conditioner.fitted),
   byte (packBits [s.tables.enables.bw, s.tables.enables.mo, s.tables.enables.ca])] ++
  opt16 (s.binning.lastGood.map Span.front) ++ opt16 (s.binning.lastGood.map Span.back) ++
  byte s.closeOut.engine.code :: be16 s.closeOut.scanNumber ++
  identityBytes s.profile.map ++ [byte s.profile.trend.length, bitByte s.standardize.request,
    byte s.standardize.counter, byte s.mill.decimation] ++
  be32 s.clock

/-! ### Payloads -/

/-- The ALARM payload (table 11-3). -/
def AlarmFrame.payload (a : AlarmFrame) : List Byte :=
  byte a.condition.number :: be32 a.timestamp ++ [byte a.carriage.code, byte a.breakState.code] ++ opt16 a.position ++
  be16 a.scanNumber

/-- The RESPONSE payload (table 11-2). -/
def Response.payload (r : Response) : List Byte := [r.sequence, r.code, byte r.status.code] ++ r.result

/-- A monitor entry of a report (table 11-4). -/
def monitorResultBytes (m : MonitorResult) : List Byte := [byte m.number, byte (m.outcome.code + 4 * m.state.code)]

/-- The REPORT payload of a profile report (tables 11-4, 11-5). -/
def ProfileReport.payload (r : ProfileReport) : List Byte :=
  byte 0 :: be16 r.scanNumber ++ be32 r.timestamp ++ [byte r.channel.code, byte (directionCode r.direction)] ++
  be16 r.tag ++ identityBytes (some r.map) ++ be16 r.edges.front ++ be16 r.edges.back ++
  [byte (packBits [r.edges.frontAtLimit, r.edges.backAtLimit, r.edges.lost]),
   byte (packBits [r.short, r.edges.lost, r.edges.frontAtLimit || r.edges.backAtLimit,
     r.event == some .cleared || r.event == some .restoreFailed]),
   byte (eventCode r.event)] ++
  be16 r.eligible ++ be16 r.valid ++ figureBytes r.average r.stats ++ be16 r.saturated ++
  byte r.monitors.length :: r.monitors.flatMap monitorResultBytes ++
  r.slices.flatMap (fun e => sliceBytes e.f e.state.code e.status.code)

/-- The REPORT payload of an ABANDONED notice (table 11-4). -/
def Notice.payload (n : Notice) : List Byte :=
  byte 1 :: be16 n.scanNumber ++ be32 n.timestamp ++ [byte (directionCode n.direction)] ++ be16 n.tag ++
  identityBytes (some n.map) ++ [byte n.reason.code]

/-- The payload of a REPORT frame (table 11-4). -/
def ReportFrame.payload : ReportFrame → List Byte
  | .profile r => r.payload
  | .notice n => n.payload

/-- A channel of a STREAM frame: class, and value or 0 (table 11-14). -/
def conditionedBytes (c : Conditioned) : List Byte :=
  byte c.code :: be16 (match c with
    | .normal v | .clamped v => v
    | .absent | .faulted => 0)

/-- The STREAM payload (table 11-14). -/
def StreamFrame.payload (f : StreamFrame) : List Byte :=
  let x := f.sample
  byte x.frame.sequence :: be16 x.frame.position ++
  [byte (packBits [x.frame.reference, x.frame.hint == .rev, x.afterGap]), byte (optDirectionCode f.direction)] ++
  be32 f.timestamp ++ conditionedBytes x.bw ++ conditionedBytes x.mo ++ conditionedBytes x.ca ++ conditionedBytes x.tr ++
  conditionedBytes x.dw

end Sys2Proof.Machine
end

