-- ==== Sys2Proof/Machine/Operands.lean ====
section
/-! DEFINITION. The operand forms of the mill computer's commands: which row of the opcode table a command frame is (tables
11-6, 11-7), and its arguments read from their bytes by tables 11-8 to 11-10. A parser answers none where the form check
of R179 fails (MALFORMED); codes and counts out of range are left to the owner (BAD_ARGUMENT). -/
namespace Sys2Proof.Machine

/-- The rows of the opcode table that the command handler takes from its queue. -/
inductive CommandRow where
  | readStatus | readTable
  | writeCurve | writeBias | writeStdf | writeMap | writeMonitor | writeSheet | writeFrame | writeChannel
  | writeSlotHeader | writeSlotImage | writeUnknownRegion
  | lockCalibration | pushContext | flushQueue | startScan | stopScan | park | resume | fixedPoint | standardize
  | readFixed | readProfile | readTrend | saveProfile | restoreProfile | clearProfile | sheetNotice | ackAlarm
  | clearConditions | setMask | clearCounters | setStream | passDown | restart
  | unknownCode
deriving DecidableEq, Repr

/-- The row of a WRITE_TABLE to the SLOT region by its part code: 0x80 names the header, any other a channel image (table
11-7; log 18). Arguments that end before the part go to the header's row, which finds them malformed (log 4). -/
def slotRow : List Byte → CommandRow
  | _ :: part :: _ => if part = 0x80#8 then .writeSlotHeader else .writeSlotImage
  | _ => .writeSlotHeader

/-- The row of a WRITE_TABLE by its region code (table 11-7). Without a region byte it goes to the row of the unknown
region, which finds it malformed (log 4). -/
def writeRow : List Byte → CommandRow
  | [] => .writeUnknownRegion
  | region :: rest =>
    match region.toNat with
    | 0 => .writeCurve
    | 1 => .writeBias
    | 2 => .writeStdf
    | 3 => .writeMap
    | 4 => .writeMonitor
    | 5 => .writeSheet
    | 6 => .writeFrame
    | 7 => .writeChannel
    | 8 => slotRow rest
    | _ => .writeUnknownRegion

/-- The row that a command frame is, by its code (table 11-6). -/
def rowOf (f : CommandFrame) : CommandRow :=
  match f.code.toNat with
  | 0x01 => .readStatus
  | 0x02 => .readTable
  | 0x03 => writeRow f.args
  | 0x04 => .lockCalibration
  | 0x05 => .pushContext
  | 0x06 => .flushQueue
  | 0x07 => .startScan
  | 0x08 => .stopScan
  | 0x09 => .park
  | 0x0A => .resume
  | 0x0B => .fixedPoint
  | 0x0C => .standardize
  | 0x0D => .readFixed
  | 0x0E => .readProfile
  | 0x0F => .readTrend
  | 0x11 => .saveProfile
  | 0x12 => .restoreProfile
  | 0x13 => .clearProfile
  | 0x14 => .sheetNotice
  | 0x15 => .ackAlarm
  | 0x16 => .clearConditions
  | 0x17 => .setMask
  | 0x18 => .clearCounters
  | 0x19 => .setStream
  | 0x1A => .passDown
  | 0x1B => .restart
  | _ => .unknownCode

/-- The altering commands (R169). -/
def CommandRow.altering : CommandRow → Bool
  | .writeCurve | .writeBias | .writeStdf | .writeMap | .writeMonitor | .writeSheet | .writeFrame | .writeChannel
  | .writeSlotHeader | .writeSlotImage | .writeUnknownRegion
  | .lockCalibration | .pushContext | .flushQueue | .startScan | .resume | .fixedPoint | .standardize | .saveProfile
  | .restoreProfile | .clearProfile => true
  | .readStatus | .readTable | .stopScan | .park | .readFixed | .readProfile | .readTrend | .sheetNotice | .ackAlarm
  | .clearConditions | .setMask | .clearCounters | .setStream | .passDown | .restart | .unknownCode => false

/-! ### Codes of enumerated fields (table 11-7): none where a code names no value (R195) -/

/-- Yes or no, on or off, set or clear, enable. -/
def boolOf : Nat → Option Bool
  | 0 => some false
  | 1 => some true
  | _ => none

/-- A profile channel by its channel code; TR is none of them. -/
def profileChannelOf : Nat → Option ProfileChannel
  | 0 => some .bw
  | 1 => some .mo
  | 2 => some .ca
  | 4 => some .dw
  | _ => none

/-- A map letter. -/
def mapLetterOf : Nat → Option MapLetter
  | 0 => some .a
  | 1 => some .b
  | _ => none

/-- A break mode. -/
def breakModeOf : Nat → Option BreakMode
  | 0 => some .report
  | 1 => some .park
  | 2 => some .latched
  | _ => none

/-- A slice state (table 11-5). -/
def sliceStateOf : Nat → Option SliceState
  | 0 => some .unset
  | 1 => some .valid
  | 2 => some .stale
  | _ => none

/-- A monitor kind. -/
def monitorKindOf : Nat → Option MonitorKind
  | 0 => some .quiet
  | 1 => some .strict
  | _ => none

/-! ### Argument bytes -/

/-- Bytes in pairs, none if one is left over. -/
def pairsOf : List Byte → Option (List Nat)
  | [] => some []
  | a :: b :: rest => (pairsOf rest).map (u16 a b :: ·)
  | [_] => none

/-- Bytes in fours, none if some are left over. -/
def foursOf {α : Type} (f : Byte → Byte → Byte → Byte → α) : List Byte → Option (List α)
  | [] => some []
  | a :: b :: c :: d :: rest => (foursOf f rest).map (f a b c d :: ·)
  | _ => none

/-- A list of exactly the count stated (R179). -/
def counted {α : Type} (n : Nat) (l : Option (List α)) : Option (List α) := l.filter (fun l => l.length == n)

/-- Commands without arguments (table 11-8). -/
def noArgs : List Byte → Option Unit
  | [] => some ()
  | _ => none

/-- One argument of one byte. -/
def oneByte : List Byte → Option Nat
  | [a] => some a.toNat
  | _ => none

/-- One argument of two bytes. -/
def twoBytes : List Byte → Option Nat
  | [a, b] => some (u16 a b)
  | _ => none

/-- One argument of three bytes: a condition set or a mask (table 11-2; log 20). -/
def threeBytes : List Byte → Option Nat
  | [a, b, c] => some (u24 a b c)
  | _ => none

/-- The arguments of SAVE_PROFILE: slot and tag. -/
def slotTag : List Byte → Option (Nat × Nat)
  | [s, a, b] => some (s.toNat, u16 a b)
  | _ => none

/-- The payload of a PASS_DOWN command: at least one byte (table 11-8). -/
def passPayload : List Byte → Option (List Byte)
  | [] => none
  | p => some p

/-- A CURVE write as it stands in its bytes (table 11-9). -/
structure CurveArgs where
  index      : Nat
  points     : List CurvePoint
  rRef       : Nat
  driftLimit : Nat
deriving DecidableEq, Repr

/-- The arguments of a CURVE write (table 11-9). -/
def curveArgs : List Byte → Option CurveArgs
  | i :: c :: r1 :: r0 :: d1 :: d0 :: rest =>
    (counted c.toNat (foursOf (fun a b x y => CurvePoint.mk (u16 a b) (u16 x y)) rest)).map
      (fun ps => ⟨i.toNat, ps, u16 r1 r0, u16 d1 d0⟩)
  | _ => none

/-- A bias entry as it stands in its bytes: enabled code, channel code, bias (table 11-9). -/
structure BiasArgs where
  enabled : Nat
  channel : Nat
  bias    : Int
deriving DecidableEq, Repr

/-- The arguments of a BIAS write: first index and entries, at least one (table 11-9, R179). -/
def biasArgs : List Byte → Option (Nat × List BiasArgs)
  | i :: c :: rest =>
    if c = 0#8 then none
    else (counted c.toNat (foursOf (fun e ch b1 b0 => BiasArgs.mk e.toNat ch.toNat (signed 16 (u16 b1 b0))) rest)).map
      (fun es => (i.toNat, es))
  | _ => none

/-- The arguments of an STDF write: first index and factors, at least one (table 11-9, R179). -/
def stdfArgs : List Byte → Option (Nat × List Nat)
  | i :: c :: rest => if c = 0#8 then none else (counted c.toNat (pairsOf rest)).map (fun fs => (i.toNat, fs))
  | _ => none

/-- A MAP write as it stands in its bytes; `present` is the fixed range's presence byte (table 11-9). -/
structure MapArgs where
  letter     : Nat
  id         : Nat
  sliceCount : Nat
  present    : Nat
  fixedRange : Option (Nat × Nat)
  boundaries : List Nat
deriving DecidableEq, Repr

/-- The arguments of a MAP write (table 11-9): the fixed range's two fields stand there when its presence byte is 1. -/
def mapArgs : List Byte → Option MapArgs
  | l :: i1 :: i0 :: n1 :: n0 :: b1 :: b0 :: p :: rest =>
    if p = 1#8 then
      match rest with
      | f1 :: f0 :: t1 :: t0 :: bs =>
        (counted (u16 b1 b0) (pairsOf bs)).map
          (fun b => ⟨l.toNat, u16 i1 i0, u16 n1 n0, p.toNat, some (u16 f1 f0, u16 t1 t0), b⟩)
      | _ => none
    else (counted (u16 b1 b0) (pairsOf rest)).map (fun b => ⟨l.toNat, u16 i1 i0, u16 n1 n0, p.toNat, none, b⟩)
  | _ => none

/-- A monitor record as it stands in its bytes (table 11-9). -/
structure MonitorArgs where
  enabled     : Nat
  channel     : Nat
  source      : Nat
  range       : Option (Nat × Nat)
  low         : Int
  high        : Int
  persistence : Nat
  kind        : Nat
deriving DecidableEq, Repr

/-- The part of a monitor record after its slice range. -/
def monitorTail (e c s : Byte) (range : Option (Nat × Nat)) : List Byte → Option (MonitorArgs × List Byte)
  | l3 :: l2 :: l1 :: l0 :: h3 :: h2 :: h1 :: h0 :: p :: k :: rest =>
    some (⟨e.toNat, c.toNat, s.toNat, range, signed 32 (u32 l3 l2 l1 l0), signed 32 (u32 h3 h2 h1 h0), p.toNat,
      k.toNat⟩, rest)
  | _ => none

/-- One monitor record and the bytes after it; the slice range stands there for source code 3, SLICE, only (table 11-9). -/
def monitorRecordArgs : List Byte → Option (MonitorArgs × List Byte)
  | e :: c :: s :: rest =>
    if s = 3#8 then
      match rest with
      | f1 :: f0 :: t1 :: t0 :: more => monitorTail e c s (some (u16 f1 f0, u16 t1 t0)) more
      | _ => none
    else monitorTail e c s none rest
  | _ => none

/-- Exactly n monitor records (table 11-9). -/
def monitorRecords : Nat → List Byte → Option (List MonitorArgs)
  | 0, [] => some []
  | 0, _ :: _ => none
  | n + 1, bytes =>
    match monitorRecordArgs bytes with
    | some (m, rest) => (monitorRecords n rest).map (m :: ·)
    | none => none

/-- The arguments of a MONITOR write: first index and records, at least one (table 11-9, R179). -/
def monitorArgs : List Byte → Option (Nat × List MonitorArgs)
  | i :: c :: rest => if c = 0#8 then none else (monitorRecords c.toNat rest).map (fun ms => (i.toNat, ms))
  | _ => none

/-- A SHEET write as it stands in its bytes (table 11-9). -/
structure SheetArgs where
  mode : Nat
  trBreak : Nat
  nBreak : Nat
  probeInterval : Nat
  probeDwell : Nat
  holdOff : Nat
  standardizeAfter : Nat
  autoResume : Nat
  trPresent : Nat
  m : Nat
deriving DecidableEq, Repr

/-- The arguments of a SHEET write (table 11-9). -/
def sheetArgs : List Byte → Option SheetArgs
  | [mode, t1, t0, n, i1, i0, d, h, s, a, p1, p0, m] =>
    some ⟨mode.toNat, u16 t1 t0, n.toNat, u16 i1 i0, d.toNat, h.toNat, s.toNat, a.toNat, u16 p1 p0, m.toNat⟩
  | _ => none

/-- The arguments of a FRAME write (table 11-9). -/
def frameArgs : List Byte → Option FrameSettings
  | [p1, p0, q1, q0, w1, w0, s1, s0, t1, t0, n1, n0, o1, o0] =>
    some ⟨u16 p1 p0, u16 q1 q0, u16 w1 w0, u16 s1 s0, u16 t1 t0, u16 n1 n0, u16 o1 o0⟩
  | _ => none

/-- The arguments of a CHANNEL write: the enables of BW, MO and CA (table 11-9). -/
def channelArgs : List Byte → Option (Nat × Nat × Nat)
  | [a, b, c] => some (a.toNat, b.toNat, c.toNat)
  | _ => none

/-- The arguments of a slot header write: slot, grade tag, slice count (table 11-9). -/
def slotHeaderArgs : List Byte → Option (Nat × Nat × Nat)
  | [s, _part, t1, t0, n1, n0] => some (s.toNat, u16 t1 t0, u16 n1 n0)
  | _ => none

/-- A slot image write as it stands in its bytes: slot, channel code, and entries of F and state code (table 11-9). -/
structure ImageArgs where
  slot    : Nat
  channel : Nat
  entries : List (Int × Nat)
deriving DecidableEq, Repr

/-- The arguments of a slot image write; bits 2 to 7 of an entry's byte 3 are ignored (table 11-9). -/
def slotImageArgs : List Byte → Option ImageArgs
  | s :: c :: e1 :: e0 :: rest =>
    (counted (u16 e1 e0) (foursOf (fun a b x y => (signed 24 (u24 a b x), y.toNat % 4)) rest)).map
      (fun es => ⟨s.toNat, c.toNat, es⟩)
  | _ => none

/-- A context record as it stands in its bytes (table 11-10). -/
structure ContextArgs where
  tag        : Nat
  map        : Nat
  front      : Nat
  back       : Nat
  speed      : Nat
  nmin       : Nat
  weight     : Nat
  staleLimit : Nat
  quorum     : Nat
  edgeWidth  : Nat
  interval   : Nat
  tracking   : Nat
  action     : Nat
  margin     : Option Nat
  slot       : Option Nat
deriving DecidableEq, Repr

/-- The margin and the slot of a context record: the margin is carried exactly when tracking is ON, the slot exactly when
the action is RESTORE (table 11-10, R114, R195). -/
def contextTail (tracking action : Byte) : List Byte → Option (Option Nat × Option Nat)
  | [] => if tracking ≠ 1#8 ∧ action ≠ 2#8 then some (none, none) else none
  | [s] => if tracking ≠ 1#8 ∧ action = 2#8 then some (none, some s.toNat) else none
  | [m1, m0] => if tracking = 1#8 ∧ action ≠ 2#8 then some (some (u16 m1 m0), none) else none
  | [m1, m0, s] => if tracking = 1#8 ∧ action = 2#8 then some (some (u16 m1 m0), some s.toNat) else none
  | _ => none

/-- The argument of PUSH_CONTEXT (table 11-10). -/
def contextArgs : List Byte → Option ContextArgs
  | t1 :: t0 :: l :: f1 :: f0 :: b1 :: b0 :: s1 :: s0 :: n :: w1 :: w0 :: st :: q :: ew :: k :: tr :: ac :: rest =>
    (contextTail tr ac rest).map (fun (m, s) =>
      ⟨u16 t1 t0, l.toNat, u16 f1 f0, u16 b1 b0, u16 s1 s0, n.toNat, u16 w1 w0, st.toNat, q.toNat, ew.toNat, k.toNat,
       tr.toNat, ac.toNat, m, s⟩)
  | _ => none

/-- A READ_TABLE address (table 11-9). -/
inductive ReadArgs where
  | curve (index : Nat)
  | bias (first count : Nat)
  | stdf
  | map (letter : Nat)
  | monitor (first count : Nat)
  | sheet
  | frame
  | channel
  | slot (slot part : Nat)
  | unknownRegion
deriving DecidableEq, Repr

/-- The arguments of READ_TABLE, whose length is checked against the named region; a region code that names no region is
not a matter of form (table 11-9, R179). -/
def readArgs : List Byte → Option ReadArgs
  | [] => none
  | region :: rest =>
    match region.toNat, rest with
    | 0, [i] => some (.curve i.toNat)
    | 1, [i, c] => some (.bias i.toNat c.toNat)
    | 2, [] => some .stdf
    | 3, [l] => some (.map l.toNat)
    | 4, [i, c] => some (.monitor i.toNat c.toNat)
    | 5, [] => some .sheet
    | 6, [] => some .frame
    | 7, [] => some .channel
    | 8, [s, p] => some (.slot s.toNat p.toNat)
    | r, _ => if r ≤ 8 then none else some .unknownRegion

/-- The arguments of a WRITE_TABLE after its region byte, read by the region's parser. -/
def afterRegion {α : Type} (parse : List Byte → Option α) (args : List Byte) : Option α := parse args.tail

/-- The arguments of a WRITE_TABLE whose region code names no region: there is a region byte (R183; log 4). -/
def anyRegion : List Byte → Option Unit
  | [] => none
  | _ => some ()

end Sys2Proof.Machine
end

