-- ==== Sys2Proof/Machine/Conditioning.lean ====
section
/-! DEFINITION. The sample conditioner (chapter 1): sequence tracking, channel classes, normalization, curves, bias, dry
weight. -/
namespace Sys2Proof.Machine

/-! ### Conditioned values (1.3) -/

/-- The value of a usable channel, one of class NORMAL or CLAMPED (1.3). -/
def Conditioned.usable : Conditioned → Option Nat
  | .normal v => some v
  | .clamped v => some v
  | .absent | .faulted => none

/-- Class CLAMPED. -/
def Conditioned.isClamped : Conditioned → Bool
  | .clamped _ => true
  | _ => false

/-- Class FAULTED. -/
def Conditioned.isFaulted : Conditioned → Bool
  | .faulted => true
  | _ => false

/-- A value with the mark whether any step limited it (R8). -/
def Conditioned.ofStep (v : Nat) (limited : Bool) : Conditioned := if limited then .clamped v else .normal v

/-- The conditioned value of a profile channel of a sample. -/
def Sample.profileValue (x : Sample) : ProfileChannel → Conditioned
  | .bw => x.bw
  | .mo => x.mo
  | .ca => x.ca
  | .dw => x.dw

/-! ### Steps of one channel -/

/-- Normalization of a raw count with a factor q, and whether it was limited to 65535 (R9). -/
def normalize (q raw : Nat) : Nat × Bool :=
  let r := roundHalfUp (raw * q) 16384
  if 65535 < r then (65535, true) else (r, false)

/-- The curve from one point on, for a count not below that point (R11): the interval that holds the count, the last
point itself, or beyond it. -/
def interpolate (r : Nat) : CurvePoint → List CurvePoint → Nat × Bool
  | p, [] => (p.e, decide (p.r < r))
  | p, q :: rest =>
    if r < q.r then
      (((p.e : Int) + roundHalfAway (((r : Int) - p.r) * ((q.e : Int) - p.e)) (q.r - p.r)).toNat, false)
    else interpolate r q rest

/-- A normalized count through a curve, and whether it was limited (R11). -/
def Curve.apply (c : Curve) (r : Nat) : Nat × Bool :=
  if r < c.first.r then (c.first.e, true) else interpolate r c.first c.rest

/-- The bias of the first entry that is enabled and names the channel (R13). -/
def firstBias (entries : List BiasEntry) (c : ProfileChannel) : Option Int :=
  (entries.find? (fun b => b.enabled && b.channel == c)).map BiasEntry.bias

/-- The bias step: the biased value brought into 0 to the channel maximum, and whether that limited it (R13). -/
def biasStep (entries : List BiasEntry) (c : ProfileChannel) (e : Nat) : Nat × Bool :=
  match firstBias entries c with
  | none => (e, false)
  | some b =>
    let v := (e : Int) + b
    if v < 0 then (0, true) else if (c.max : Int) < v then (c.max, true) else (v.toNat, false)

/-- The class and value of one measured channel (R7, R8). `present` says that the channel is fitted and enabled; the bias
step of BW, MO and CA is given as a function, and TR has none (R11). -/
def conditionChannel (present : Bool) (curve : Option Curve) (ready : Bool) (q raw : Nat) (bias : Nat → Nat × Bool) :
    Conditioned :=
  match present, curve with
  | true, some c =>
    if ready then
      let r := normalize q raw
      let e := c.apply r.1
      let v := bias e.1
      .ofStep v.1 (r.2 || e.2 || v.2)
    else .faulted
  | _, _ => .absent

/-- Dry weight from conditioned BW and MO (R14). -/
def dryWeight (entries : List BiasEntry) (bw mo : Conditioned) : Conditioned :=
  if bw.isFaulted || mo.isFaulted then .faulted
  else
    match bw.usable, mo.usable with
    | some w, some m =>
      let v := biasStep entries .dw (roundHalfUp (w * (10000 - m)) 10000)
      .ofStep v.1 (bw.isClamped || mo.isClamped || v.2)
    | _, _ => .absent

/-! ### One sample -/

/-- The gap a received sequence number reveals: none when it is the expected one or nothing is expected, else
(received − expected) modulo 256 (R3). -/
def gapOf (expected : Option Nat) (received : Nat) : Option Nat :=
  match expected with
  | none => none
  | some e => if e = received then none else some ((received + 256 - e % 256) % 256)

/-- The conditioned sample of a frame, by the in-effect calibration, the fitted set and the enables (R1, R7 to R14). -/
def conditionFrame (t : Tables) (fitted : PerMeasured Bool) (f : SampleFrame) (afterGap : Bool) : Sample :=
  let curves := t.curve.inEffect
  let qs := t.stdf.inEffect
  let bs := t.bias.inEffect
  let bw := conditionChannel (fitted.bw && t.enables.bw) curves.bw f.ready.bw qs.bw f.raw.bw (biasStep bs .bw)
  let mo := conditionChannel (fitted.mo && t.enables.mo) curves.mo f.ready.mo qs.mo f.raw.mo (biasStep bs .mo)
  let ca := conditionChannel (fitted.ca && t.enables.ca) curves.ca f.ready.ca qs.ca f.raw.ca (biasStep bs .ca)
  let tr := conditionChannel fitted.tr curves.tr f.ready.tr qs.tr f.raw.tr (fun e => (e, false))
  { frame := f, afterGap := afterGap, bw := bw, mo := mo, ca := ca, tr := tr, dw := dryWeight bs bw mo }

/-- Whether a measured channel of the sample is FAULTED, which raises HEAD_FAULT (R7). -/
def Sample.anyFaulted (x : Sample) : Bool := x.bw.isFaulted || x.mo.isFaulted || x.ca.isFaulted || x.tr.isFaulted

/-- Whether a channel of the sample, measured or DW, is CLAMPED, which raises RANGE (R8). -/
def Sample.anyClamped (x : Sample) : Bool :=
  x.bw.isClamped || x.mo.isClamped || x.ca.isClamped || x.tr.isClamped || x.dw.isClamped

/-- A condition raised if its cause holds. -/
def raiseIf (b : Bool) (c : Condition) (s : State) : State := if b then raise c s else s

/-- The sequence check of R3: the gap counted and SAMPLE_GAP raised if there is one, and the next expectation. -/
def trackSequence (f : SampleFrame) (s : State) : State :=
  let s' := match gapOf s.conditioner.expected f.sequence with
    | none => s
    | some g => raise .sampleGap (countGap g s)
  { s' with conditioner := { s'.conditioner with expected := some ((f.sequence + 1) % 256) } }

/-- The conditioned sample of a frame as it arrives in a state (R1, R3). -/
def sampleOf (f : SampleFrame) (s : State) : Sample :=
  conditionFrame s.tables s.conditioner.fitted f (gapOf s.conditioner.expected f.sequence).isSome

/-- The conditioner's own effects of a sample: sequence, then HEAD_FAULT, then RANGE (R1, R3, R7, R8; log 28). -/
def conditionerTakes (f : SampleFrame) (s : State) : State :=
  let x := sampleOf f s
  raiseIf x.anyClamped .range (raiseIf x.anyFaulted .headFault (trackSequence f s))

/-- The stored enable of BW, MO or CA after an announcement (R2). -/
def announcedEnable (before after enable : Bool) : Bool := after && (!before || enable)

/-- HEAD_ANNOUNCE: the fitted set replaced and the stored enables adjusted (R2). -/
def announce (fitted : PerMeasured Bool) (s : State) : State :=
  let old := s.conditioner.fitted
  let en := s.tables.enables
  { s with
    conditioner := { s.conditioner with fitted := fitted }
    tables := { s.tables with enables :=
      ⟨announcedEnable old.bw fitted.bw en.bw, announcedEnable old.mo fitted.mo en.mo,
       announcedEnable old.ca fitted.ca en.ca⟩ } }

end Sys2Proof.Machine
end

