-- ==== Sys2Proof/Machine/Binning.lean ====
section
/-! DEFINITION. The binning unit and edge finder (chapter 3): position to slice, accumulator banks, edges, exclusion, and
the sheet region. -/
namespace Sys2Proof.Machine

/-! ### Slices and accumulators -/

/-- The slice of a position among boundaries that begin at slice k: b_k ≤ p < b_{k+1} (R47). -/
def sliceFrom (p : Nat) : Nat → List Nat → Option Nat
  | k, a :: b :: rest => if a ≤ p ∧ p < b then some k else sliceFrom p (k + 1) (b :: rest)
  | _, _ => none

/-- The slice of a position on a map, none outside its span (R47). -/
def MapRecord.sliceOf (r : MapRecord) (p : Nat) : Option Nat := sliceFrom p 0 r.boundaries

/-- A cleared accumulator (R48). -/
def Accumulator.zero : Accumulator := ⟨0, 0, false⟩

/-- A usable value added, or the saturated mark set at a count of 4095 (R49, R50). -/
def Accumulator.add (a : Accumulator) (v : Nat) : Accumulator :=
  if Config.accumulatorMax ≤ a.count then { a with saturated := true }
  else { a with sum := a.sum + v, count := a.count + 1 }

/-- A conditioned value offered to an accumulator (R49). -/
def Accumulator.offer (a : Accumulator) (c : Conditioned) : Accumulator :=
  match c.usable with
  | some v => a.add v
  | none => a

/-- A sample offered to the four accumulators of its slice (R49). -/
def binSlice (x : Sample) (acc : PerProfile Accumulator) : PerProfile Accumulator :=
  .make (fun c => (acc.get c).offer (x.profileValue c))

/-- A sample binned into a bank: reference samples and positions outside the map are not (R49). -/
def binBank (r : MapRecord) (x : Sample) (b : Bank) : Bank :=
  if x.frame.reference then b
  else
    match r.sliceOf x.frame.position with
    | some k => b.modify k (binSlice x)
    | none => b

/-- A cleared bank for a map (R48). -/
def emptyBank (r : MapRecord) : Bank := List.replicate r.sliceCount (.const .zero)

/-! ### Edge finder (3.4) -/

/-- The edge finder at a traverse opening (R52). -/
def EdgeFinder.start : EdgeFinder := ⟨.seeking, 0, none, none, false, none, none⟩

/-- A sheet sample in SEEKING (R53). -/
def EdgeFinder.seekSheet (m pos : Nat) (e : EdgeFinder) : EdgeFinder :=
  let start := if e.runCount = 0 then pos else e.runStart.getD pos
  if m ≤ e.runCount + 1 then
    { e with phase := .onSheet, runCount := 0, runStart := none, lastSheet := some pos,
             entering := some ⟨start, !e.clearSeen⟩ }
  else { e with runCount := e.runCount + 1, runStart := some start }

/-- A clear sample in ON_SHEET (R54). -/
def EdgeFinder.leaveClear (m : Nat) (e : EdgeFinder) : EdgeFinder :=
  if m ≤ e.runCount + 1 then
    { e with phase := .left, runCount := e.runCount + 1, leaving := e.lastSheet.map (⟨·, false⟩) }
  else { e with runCount := e.runCount + 1 }

/-- A sample in SEEKING, not reference-flagged, its gap already taken (R53). -/
def EdgeFinder.seek (sheet : SheetSettings) (pos : Nat) (tr : Conditioned) (e : EdgeFinder) : EdgeFinder :=
  match tr.usable with
  | none => { e with runCount := 0, runStart := none }
  | some v =>
    if v < sheet.trPresent then e.seekSheet sheet.m pos
    else { e with runCount := 0, runStart := none, clearSeen := true }

/-- A sample in ON_SHEET, not reference-flagged, its gap already taken (R54). -/
def EdgeFinder.follow (sheet : SheetSettings) (pos : Nat) (tr : Conditioned) (e : EdgeFinder) : EdgeFinder :=
  match tr.usable with
  | none => { e with runCount := 0 }
  | some v =>
    if v < sheet.trPresent then { e with lastSheet := some pos, runCount := 0 } else e.leaveClear sheet.m

/-- A sample first after a gap sets the edge finder's run count to 0 before its own value is taken (R4, R53). In LEFT no
run is counted any more, and the finder takes no notice of samples (R54). -/
def EdgeFinder.gapReset (afterGap : Bool) (e : EdgeFinder) : EdgeFinder :=
  if afterGap && e.phase != .left then { e with runCount := 0, runStart := none } else e

/-- The edge finder takes a sample of the open traverse (R4, R53, R54). A reference-flagged sample neither counts nor
resets, but the gap it reveals has reset the run (R4). -/
def EdgeFinder.take (sheet : SheetSettings) (x : Sample) (e : EdgeFinder) : EdgeFinder :=
  let e := e.gapReset x.afterGap
  if x.frame.reference then e
  else
    match e.phase with
    | .seeking => e.seek sheet x.frame.position x.tr
    | .onSheet => e.follow sheet x.frame.position x.tr
    | .left => e

/-- The binning unit and edge finder take a sample; without an open traverse they take no notice (R49, R52). -/
def binningTakes (x : Sample) (s : State) : State :=
  match s.binning.openTraverse with
  | none => s
  | some t =>
    { s with binning := { s.binning with openTraverse := some { t with
        bank := binBank t.map.record x t.bank, finder := t.finder.take s.tables.sheet x } } }

/-! ### Edges of a traverse (R55) -/

/-- Entering and leaving edge turned into front and back by the direction (R55 step 4). -/
def edgesFrom (d : Direction) (entering leaving : EdgeMark) : Edges :=
  match d with
  | .fwd => ⟨entering.position, leaving.position, entering.atLimit, leaving.atLimit, false⟩
  | .rev => ⟨leaving.position, entering.position, leaving.atLimit, entering.atLimit, false⟩

/-- Edges given without at-limit flags: the span of the map, or the last good edges (R55 steps 1 and 2). -/
def edgesOfSpan (sp : Span) (lost : Bool) : Edges := ⟨sp.front, sp.back, false, false, lost⟩

/-- The edges of a traverse at its closing (R55). -/
def edgesAtClosing (trFitted : Bool) (lastGood : Option Span) (t : OpenTraverse) : Edges :=
  if !trFitted then edgesOfSpan t.map.record.span false
  else
    match t.finder.phase, t.finder.entering, t.finder.lastSheet, t.finder.leaving with
    | .onSheet, some e, some p, _ => edgesFrom t.direction e ⟨p, true⟩
    | .left, some e, _, some l => edgesFrom t.direction e l
    | _, _, _, _ => edgesOfSpan (lastGood.getD t.map.record.span) true

/-- The sheet region while a traverse is open: the last good edges, or the span of its map (R57). -/
def sheetRegion (lastGood : Option Span) (t : OpenTraverse) : Span := lastGood.getD t.map.record.span

/-! ### Exclusion (R58) -/

/-- The slices of a map as pairs b_k, b_{k+1} (3.1). -/
def MapRecord.slices (r : MapRecord) : List (Nat × Nat) := r.boundaries.zip r.boundaries.tail

/-- Test 1, negated: the slice lies wholly inside the edges (R58). -/
def insideEdges (e : Edges) (b : Nat × Nat) : Bool := decide (e.front ≤ b.1) && decide (b.2 ≤ e.back + 1)

/-- The number of the last slice that is inside the edges (R58). -/
def lastInside (ins : List Bool) : Option Nat := (ins.reverse.findIdx? id).map (fun j => ins.length - 1 - j)

/-- Test 2: slice k lies near an edge, with i and j the first and last slice inside (R58). -/
def nearEdge (ins : List Bool) (width k : Nat) : Bool :=
  match ins.findIdx? id, lastInside ins with
  | some i, some j => (decide (i ≤ k) && decide (k < i + width)) || (decide (j < k + width) && decide (k ≤ j))
  | _, _ => false

/-- Test 3: slice k is ruled out by the fixed excluded range (R58). -/
def ruledOut (range : Option (Nat × Nat)) (k : Nat) : Bool :=
  match range with
  | some (first, last) => decide (first ≤ k) && decide (k ≤ last)
  | none => false

/-- The exclusion marks of a closing traverse, one per slice (R58). -/
def exclusion (r : MapRecord) (e : Edges) (width : Nat) : List Bool :=
  let ins := r.slices.map (insideEdges e)
  ins.zipIdx.map (fun (inside, k) => !inside || nearEdge ins width k || ruledOut r.fixedRange k)

end Sys2Proof.Machine
end

