-- ==== Sys2Proof/Machine/Profile.lean ====
section
/-! DEFINITION. The profile store (chapters 4 and 6): slice records, profile actions, save slots, trend ring. -/
namespace Sys2Proof.Machine

/-- A cleared slice record (R70). -/
def SliceRecord.cleared : SliceRecord := ⟨0, .unset, 0, .unwritten, none⟩

/-- The profile brought to a map with N cleared records for every channel (R70, R71, R121). -/
def ProfileStore.clearTo (p : ProfileStore) (id : MapIdentity) (note : ProfileNote) : ProfileStore :=
  { p with map := some id, records := .const (List.replicate id.sliceCount .cleared), note := some note }

/-- A slice record restored from an image entry (R123). -/
def ImageEntry.restored (e : ImageEntry) : SliceRecord := ⟨e.f, e.state, 0, .unwritten, none⟩

/-- The image entry saved of a slice record (R126). -/
def SliceRecord.image (r : SliceRecord) : ImageEntry := ⟨r.f, r.state⟩

/-- One channel's records after a restore: its image, or cleared records when the slot has none for it (R123). -/
def restoredRecords (n : Nat) : Option (List ImageEntry) → List SliceRecord
  | some image => image.map ImageEntry.restored
  | none => List.replicate n .cleared

/-- A restore that does not fail: the slot's images onto a map of the slot's slice count (R123). -/
def ProfileStore.restoreTo (p : ProfileStore) (id : MapIdentity) (slot : SaveSlot) : ProfileStore :=
  { p with
    map := some id
    records := .make (fun c => restoredRecords slot.sliceCount (slot.images.get c))
    note := some .restored }

/-- The contents of a save slot; a number outside 0 to 3 names none (6.4). -/
def ProfileStore.slot (p : ProfileStore) (k : Nat) : Option SaveSlot := p.slots.getD k none

/-- A save slot filled (R126, R129, R130). -/
def ProfileStore.setSlot (p : ProfileStore) (k : Nat) (slot : SaveSlot) : ProfileStore :=
  { p with slots := p.slots.set k (some slot) }

/-- A profile action applied with the identity recorded at its take (R121 to R123). -/
def ProfileStore.applyAction (p : ProfileStore) (a : PendingAction) : ProfileStore :=
  match a.action with
  | .keep => if p.map = some a.identity then p else p.clearTo a.identity .cleared
  | .clear => p.clearTo a.identity .cleared
  | .restore k =>
    match p.slot k with
    | some slot =>
      if slot.sliceCount = a.identity.sliceCount then p.restoreTo a.identity slot
      else p.clearTo a.identity .restoreFailed
    | none => p.clearTo a.identity .restoreFailed

/-- The action of a take: applied at once with the engine IDLE, else held as the pending action, which it replaces
(R120). At the first opening after a reset it so brings the profile map before the first close-out, which then does not
adopt again (R71, R121), although R79 says that it adopts (DEDUCED, log 35). -/
def takeAction (a : PendingAction) (s : State) : State :=
  if s.closeOut.engine = .idle then { s with profile := s.profile.applyAction a }
  else { s with profile := { s.profile with action := some a } }

/-- The pending action, if any, applied at the return to IDLE (R86, R124). -/
def applyPending (s : State) : State :=
  match s.profile.action with
  | some a => { s with profile := { s.profile with action := none }.applyAction a }
  | none => s

/-- A trend record appended; a full ring loses its oldest (R83). -/
def appendTrend (ring : List TrendRecord) (r : TrendRecord) : List TrendRecord :=
  (ring ++ [r]).drop (ring.length + 1 - Config.trendCapacity)

end Sys2Proof.Machine
end

