-- ==== Sys2Proof/Machine/CloseOut.lean ====
section
/-! DEFINITION. The close-out engine (chapter 4): closing, overrun and abandonment, and what MEANS, FILTER, STATS and
REPORT compute. -/
namespace Sys2Proof.Machine

/-! ### Closing and abandonment -/

/-- The ABANDONED notice of an open traverse: its tag and map identity are those of the context in effect, under which it
opened (R64, R88; log 12). -/
def noticeOf (t : OpenTraverse) (reason : AbandonReason) (s : State) : Notice :=
  { scanNumber := s.closeOut.scanNumber, timestamp := s.clock, direction := t.direction, tag := t.context.tag,
    map := t.map.identity, reason := reason }

/-- The OPEN bank made SPARE with its contents dropped, and the edge finder IDLE (R48, R52). -/
def dropTraverse (s : State) : State := { s with binning := { s.binning with openTraverse := none } }

/-- The open traverse, if any, abandoned with a notice (R64). -/
def abandonTraverse (reason : AbandonReason) (s : State) : State :=
  match s.binning.openTraverse with
  | none => s
  | some t => placeNotice (noticeOf t reason s) (dropTraverse s)

/-- The profile channels a close-out profiles: those whose input gauges are fitted at the closing (R62). -/
def profiledChannels (fitted : PerMeasured Bool) : PerProfile Bool := .make (fun c => c.fittedIn fitted)

/-- The closing parameters of a traverse (4.1, R60). -/
def closingParams (t : OpenTraverse) (s : State) : ClosingParams :=
  { map := t.map, nmin := t.context.nmin, weight := t.context.weight, staleLimit := t.context.staleLimit,
    quorum := t.context.quorum, edgeWidth := t.context.edgeWidth, tag := t.context.tag, direction := t.direction,
    edges := edgesAtClosing s.conditioner.fitted.tr s.binning.lastGood t,
    profiled := profiledChannels s.conditioner.fitted, timestamp := s.clock }

/-- The closing of the open traverse: taken by an IDLE engine (R60), discarded as an overrun otherwise (R63). -/
def closeTraverse (s : State) : State :=
  match s.binning.openTraverse with
  | none => s
  | some t =>
    if s.closeOut.engine = .idle then
      let p := closingParams t s
      let s := dropTraverse s
      let s := { s with closeOut := { s.closeOut with engine := .means t.bank p } }
      raiseIf p.edges.lost .edgeLost s
    else raise .overrun (placeNotice (noticeOf t .overrun s) (dropTraverse s))

/-! ### MEANS (4.3) -/

/-- The mark of one slice: EXCLUDED, valid with its mean, or EMPTY (R67). -/
def sliceMark (nmin : Nat) (excluded : Bool) (a : Accumulator) : SliceOutcome :=
  if excluded then .excluded
  else if nmin ≤ a.count then .valid (roundHalfUp a.sum a.count) none
  else .empty

/-- The mean of a valid slice (R67). -/
def SliceOutcome.mean? : SliceOutcome → Option Nat
  | .valid m _ => some m
  | .excluded | .empty => none

/-- A valid slice with its deviation from the scan average (R69). -/
def SliceOutcome.deviate (average : Nat) : SliceOutcome → SliceOutcome
  | .valid m _ => .valid m (some ((m : Int) - average))
  | o => o

/-- Whether a channel is SHORT: no valid slice, or fewer than ceiling (eligible × quorum / 100) (R68). -/
def isShort (eligible quorum valid : Nat) : Bool := valid == 0 || decide (valid < (eligible * quorum + 99) / 100)

/-- The means of one profiled channel from its marks (R67 to R69). -/
def channelMeans (eligible quorum : Nat) (marks : List SliceOutcome) : ChannelMeans :=
  let means := marks.filterMap SliceOutcome.mean?
  let short := isShort eligible quorum means.length
  let average := if means.length = 0 then none else some (roundHalfUp means.sum means.length)
  { slices := if short then marks else marks.map (SliceOutcome.deviate (average.getD 0)),
    valid := means.length, short := short, average := average }

/-- The results of MEANS (R67 to R69). -/
def computeMeans (bank : Bank) (p : ClosingParams) : MeansResults :=
  let ex := exclusion p.map.record p.edges p.edgeWidth
  let eligible := ex.count false
  { excluded := ex, eligible := eligible,
    channels := .make (fun c =>
      if p.profiled.get c then
        some (channelMeans eligible p.quorum (List.zipWith (fun x a => sliceMark p.nmin x (PerProfile.get a c)) ex bank))
      else none) }

/-! ### FILTER (4.4) -/

/-- The filtered value of a valid slice (R72): 16d from UNSET, else a step of (16d − F) × w / 256, halves upward. -/
def filterValue (w : Nat) (d : Int) (r : SliceRecord) : Int :=
  match r.state with
  | .unset => 16 * d
  | .valid | .stale => r.f + (((16 * d - r.f) * (w : Int) + 128) / 256)

/-- A record whose slice was EMPTY in a filtered scan (R73). -/
def holdRecord (staleLimit : Nat) (r : SliceRecord) : SliceRecord :=
  match r.state with
  | .unset => { r with status := .held, lastMean := none }
  | .valid | .stale =>
    let age := saturate 15 (r.age + 1)
    { r with age := age, state := if staleLimit < age then .stale else r.state, status := .held, lastMean := none }

/-- A slice record after FILTER (R72 to R74). A SHORT channel skips the filter and takes status and last mean alone. -/
def filterSlice (w staleLimit : Nat) (short : Bool) (o : SliceOutcome) (r : SliceRecord) : SliceRecord :=
  match o with
  | .excluded => { r with status := .excluded, lastMean := none }
  | .valid m d =>
    if short then { r with status := .unwritten, lastMean := some m }
    else { f := filterValue w (d.getD 0) r, state := .valid, age := 0, status := .fresh, lastMean := some m }
  | .empty => if short then { r with status := .unwritten, lastMean := none } else holdRecord staleLimit r

/-- The records of a channel after FILTER; a channel not profiled is left as it is (R62, R75). -/
def filterChannel (p : ClosingParams) (m : Option ChannelMeans) (rs : List SliceRecord) : List SliceRecord :=
  match m with
  | none => rs
  | some cm => List.zipWith (filterSlice p.weight p.staleLimit cm.short) cm.slices rs

/-- The profile store at the start of the writing: the traverse map adopted if it is not the profile map (R71). -/
def adopt (id : MapIdentity) (p : ProfileStore) : ProfileStore := if p.map = some id then p else p.clearTo id .cleared

/-- The profile store after FILTER (R71 to R75). -/
def filterProfile (p : ClosingParams) (m : MeansResults) (st : ProfileStore) : ProfileStore :=
  let st := adopt p.map.identity st
  { st with records := .make (fun c => filterChannel p (m.channels.get c) (st.records.get c)) }

/-- Whether a profiled channel is SHORT, which raises SHORT_SCAN (R74). -/
def anyShort (m : MeansResults) : Bool :=
  ProfileChannel.all.any (fun c => match m.channels.get c with
    | some cm => cm.short
    | none => false)

/-! ### STATS (4.5) -/

/-- The filtered values that enter the statistics: not excluded, and VALID after the filter (R76). -/
def statsValues (excluded : List Bool) (rs : List SliceRecord) : List Int :=
  (excluded.zip rs).filterMap (fun (x, r) => if !x && r.state == .valid then some r.f else none)

/-- The profile mean μ (R76). -/
def profileMean (fs : List Int) : Int := roundHalfUpInt fs.sum fs.length

/-- The mean square Q (R76). -/
def meanSquare (fs : List Int) : Nat :=
  (((fs.map (fun f => (f - profileMean fs) * (f - profileMean fs))).sum) / (fs.length : Int)).toNat

/-- Spread and range of a list of filtered values, none when it is empty (R76, R77). -/
def statsOf (fs : List Int) : Option ChannelStats :=
  match fs with
  | [] => none
  | f :: rest =>
    let hi := rest.foldl max f
    let lo := rest.foldl min f
    some ⟨roundHalfUp (2 * sigma16 (meanSquare fs)) 16, roundHalfUp (hi - lo).toNat 16⟩

/-- The results of STATS: for each profiled channel that is not SHORT (R76, R77). -/
def computeStats (m : MeansResults) (records : PerProfile (List SliceRecord)) : StatsResults :=
  .make (fun c => match m.channels.get c with
    | some cm => if cm.short then none else statsOf (statsValues m.excluded (records.get c))
    | none => none)

/-! ### REPORT (4.8 to 4.10) -/

/-- Whether either edge is flagged at-limit (R83). -/
def Edges.anyAtLimit (e : Edges) : Bool := e.frontAtLimit || e.backAtLimit

/-- PROFILE_CLEARED: the note taken is CLEARED or RESTORE_FAILED (R83). -/
def noteClears : Option ProfileNote → Bool
  | some .cleared | some .restoreFailed => true
  | some .restored | none => false

/-- The trend record of a close-out (4.8, R83). -/
def trendRecord (scan : Nat) (note : Option ProfileNote) (p : ClosingParams) (m : MeansResults) (st : StatsResults) :
    TrendRecord :=
  { scanNumber := scan, timestamp := p.timestamp, direction := p.direction, tag := p.tag, map := p.map.identity,
    edgeLost := p.edges.lost, edgesAtLimit := p.edges.anyAtLimit, profileCleared := noteClears note,
    front := p.edges.front, back := p.edges.back,
    channels := .make (fun c => (m.channels.get c).map (fun cm => ⟨cm.short, cm.valid, cm.average, st.get c⟩)) }

/-- The number of slices with the saturated mark set for a channel (R87). -/
def saturatedSlices (bank : Bank) (c : ProfileChannel) : Nat := bank.countP (fun a => (a.get c).saturated)

/-- The REPORT frame of one profiled channel (R87). -/
def reportFrame (scan : Nat) (bank : Bank) (p : ClosingParams) (m : MeansResults) (st : StatsResults)
    (mons : List MonitorResult) (store : ProfileStore) (c : ProfileChannel) (cm : ChannelMeans) : ProfileReport :=
  { scanNumber := scan, timestamp := p.timestamp, channel := c, direction := p.direction, tag := p.tag,
    map := p.map.identity, edges := p.edges, short := cm.short, event := store.note, eligible := m.eligible,
    valid := cm.valid, average := cm.average, stats := st.get c, saturated := saturatedSlices bank c,
    monitors := mons.filter (fun r => r.channel == c),
    slices := (store.records.get c).map (fun r => ⟨r.f, r.state, r.status⟩) }

/-- The profile report of a scan: one frame per profiled channel in channel order (R87). -/
def profileReport (scan : Nat) (bank : Bank) (p : ClosingParams) (m : MeansResults) (st : StatsResults)
    (mons : List MonitorResult) (store : ProfileStore) : List ProfileReport :=
  ProfileChannel.all.filterMap (fun c => (m.channels.get c).map (reportFrame scan bank p m st mons store c))

/-- The scan number that the REPORT of the close-out in flight carries (R85, R161). -/
def nextScan (s : State) : Nat := (s.closeOut.scanNumber + 1) % 65536

end Sys2Proof.Machine
end

