-- ==== Sys2Proof/Machine/Monitors.lean ====
section
/-! DEFINITION. The monitor bank (chapter 8): outcomes, persistence, and the MONITORS phase. -/
namespace Sys2Proof.Machine

/-- The outcome of a figure against a window; an absent figure is UNORDERED (R155). -/
def figureOutcome (low high : Int) : Option Nat → MonitorOutcome
  | none => .unordered
  | some v => if (v : Int) < low then .below else if high < (v : Int) then .above else .within

/-- How a remaining watched slice lies against the limits times 16 (R156). -/
inductive SliceClass where
  | above | below | inside | unknown
deriving DecidableEq, Repr

/-- The class of a slice record against the limits (R156). -/
def classifySlice (low high : Int) (r : SliceRecord) : SliceClass :=
  match r.state with
  | .valid => if 16 * high < r.f then .above else if r.f < 16 * low then .below else .inside
  | .unset | .stale => .unknown

/-- The remaining watched slices: numbered first to last, existing in the map, not excluded (R156). -/
def watchedSlices (first last : Nat) (excluded : List Bool) (rs : List SliceRecord) : List SliceRecord :=
  (((excluded.zip rs).drop first).take (last + 1 - first)).filterMap (fun (x, r) => if x then none else some r)

/-- The outcome of a list of classes (R156). -/
def classesOutcome (cs : List SliceClass) : MonitorOutcome :=
  if cs = [] then .unordered
  else if .above ∈ cs then .above
  else if .below ∈ cs then .below
  else if .unknown ∈ cs then .unordered
  else .within

/-- The number of slices outside the window: classed above or below (R157). -/
def outsideCount (cs : List SliceClass) : Nat := cs.countP (fun c => c == .above || c == .below)

/-- What the close-out hands over of one channel (R78): scan average, statistics, exclusion marks, slice records. -/
structure ChannelResults where
  average  : Option Nat
  stats    : Option ChannelStats
  excluded : List Bool
  records  : List SliceRecord
deriving DecidableEq, Repr

/-- The outcome of a monitor's figure or slices, with the slices outside of a SLICE monitor (R155 to R157). -/
def monitorOutcome (r : MonitorRecord) (c : ChannelResults) : MonitorOutcome × Option Nat :=
  match r.source with
  | .scanAvg => (figureOutcome r.low r.high c.average, none)
  | .spread => (figureOutcome r.low r.high (c.stats.map ChannelStats.spread), none)
  | .range => (figureOutcome r.low r.high (c.stats.map ChannelStats.range), none)
  | .slice first last =>
    let cs := (watchedSlices first last c.excluded c.records).map (classifySlice r.low r.high)
    (classesOutcome cs, some (outsideCount cs))

/-- A monitor after an outcome: count and state by the table of 8.4 (R158 to R160), last outcome, last scan and slices
outside (R157, R161). -/
def Monitor.after (m : Monitor) (scan : Nat) (o : MonitorOutcome) (outside : Option Nat) : Monitor :=
  let seen := { m with lastOutcome := some o, lastScan := some scan, slicesOutside := outside }
  match o with
  | .below | .above =>
    let count := saturate 15 (m.count + 1)
    { seen with count := count, state := if m.record.persistence ≤ count then .tripped else m.state }
  | .within => { seen with count := 0, state := .armed }
  | .unordered => seen

/-- What the close-out hands over for a monitor, when the monitor is to be evaluated: its record is enabled and its
channel profiled and not SHORT (R78, R154). -/
def handedOver (m : MeansResults) (st : StatsResults) (records : PerProfile (List SliceRecord)) (r : MonitorRecord) :
    Option ChannelResults :=
  if r.enabled then
    match m.channels.get r.channel with
    | some cm => if cm.short then none else some ⟨cm.average, st.get r.channel, m.excluded, records.get r.channel⟩
    | none => none
  else none

/-- A monitor after the MONITORS phase: evaluated if it was handed over, passed over otherwise (R154, R161). -/
def Monitor.evaluate (scan : Nat) (results : MonitorRecord → Option ChannelResults) (mon : Monitor) : Monitor :=
  match results mon.record with
  | some c =>
    let o := monitorOutcome mon.record c
    mon.after scan o.1 o.2
  | none => mon

/-- Whether an evaluation changed a monitor from ARMED to TRIPPED, a cause for MON_TRIP (R158). -/
def tripsNow (before after : Monitor) : Bool := before.state == .armed && after.state == .tripped

/-- Whether an evaluated monitor is STRICT with an UNORDERED outcome, a cause for MON_INVALID (R160). -/
def invalidNow (results : MonitorRecord → Option ChannelResults) (after : Monitor) : Bool :=
  (results after.record).isSome && after.record.kind == .strict && after.lastOutcome == some .unordered

/-- What the bank returns of the evaluated monitors, in monitor order (R161). -/
def monitorResults (results : MonitorRecord → Option ChannelResults) (mons : List Monitor) : List MonitorResult :=
  mons.zipIdx.filterMap (fun (m, i) =>
    match results m.record, m.lastOutcome with
    | some _, some o => some ⟨i, m.record.channel, o, m.state⟩
    | _, _ => none)

end Sys2Proof.Machine
end

