-- ==== Sys2Proof/Machine/Carriage.lean ====
section
/-! DEFINITION. The frame controller (chapter 5) and what the break watch and the standardize unit take from it: moves,
approach, opening, requests, halt, and the notices of arrivals. -/
namespace Sys2Proof.Machine

/-! ### Break watch: which runs are counted (R134, R143, R146) -/

/-- Whether the break detector is active (R134). -/
def detectorActive (s : State) : Bool :=
  (s.watch.state == .sheetOn || s.watch.state == .threading) &&
  (s.frame.carriage.isScanning || s.frame.carriage == .fixed .dwelling || s.frame.carriage == .probing .dwelling)

/-- Whether the break watch counts sheet-present samples to see the sheet: a probe dwell in SHEET_OFF (R143), or scanning
or dwelling at a fixed point during a REPORT break (R146). -/
def sheetCounting (s : State) : Bool :=
  (s.watch.state == .sheetOff && s.frame.carriage == .probing .dwelling) ||
  (s.watch.state == .broken && s.tables.sheet.mode == .report &&
    (s.frame.carriage.isScanning || s.frame.carriage == .fixed .dwelling))

/-- The break watch's run counts after a change of carriage or break state: a count that is not being counted is 0 (R134,
R146; log 22). -/
def quietRuns (s : State) : State :=
  { s with watch := { s.watch with
      breakRun := if detectorActive s then s.watch.breakRun else 0
      heldRun := if detectorActive s then s.watch.heldRun else none
      sheetRun := if sheetCounting s then s.watch.sheetRun else 0 } }

/-- The one change of carriage state: sub-state and direction go with it, and the run counts follow (R89, R134). -/
def setCarriage (c : Carriage) (s : State) : State := quietRuns { s with frame := { s.frame with carriage := c } }

/-- The scan-on flag set or cleared (5.1). -/
def setScanOn (b : Bool) (s : State) : State := { s with frame := { s.frame with scanOn := b } }

/-! ### Drive frames (R91) -/

/-- A MOVE sent: handed to the port, recorded as the move target, and the stall timer started with the distance from the
last position as its reference (R91). -/
def sendMove (target speed : Nat) (s : State) : State :=
  let s := handDrive (.move target speed) s
  { s with frame := { s.frame with
      target := some ⟨target, speed⟩
      stall := some ⟨.start s.tables.frame.stallPeriod, s.frame.lastPosition.map (distance target)⟩ } }

/-- The MOVE outstanding ended: no move target, stall timer idle (R91, R94). -/
def endMove (s : State) : State := { s with frame := { s.frame with target := none, stall := none } }

/-- A STOP sent (R91). -/
def sendStop (s : State) : State := endMove (handDrive .stop s)

/-- The silence timer started with the silence period (R110). -/
def startSilence (s : State) : State :=
  { s with frame := { s.frame with silence := some (.start s.tables.frame.silencePeriod) } }

/-- The carriage sent to park: MOVE to the park position at 200 mm/s, PARKING (R91, R96, R109). -/
def goPark (s : State) : State := setCarriage .parking (sendMove s.tables.frame.park Config.slowSpeed s)

/-! ### Notices to the break watch (R141, R143) -/

/-- The probe timer started with the probe interval (R141, R142). -/
def startProbeTimer (s : State) : State :=
  { s with watch := { s.watch with probe := some (.start (1000 * s.tables.sheet.probeInterval)) } }

/-- The move from BREAK to SHEET_OFF in PARK or LATCHED mode, with the probe timer started (R141). -/
def enterSheetOff (s : State) : State := quietRuns (startProbeTimer { s with watch := { s.watch with state := .sheetOff } })

/-- Whether the break mode parks the carriage: PARK or LATCHED (7.1, R132). -/
def parkMode (s : State) : Bool := s.tables.sheet.mode != .report

/-- The break watch is told of an arrival at park (R141). -/
def watchArrival (s : State) : State :=
  match s.watch.state with
  | .broken => if parkMode s then enterSheetOff s else s
  | .sheetOff => if s.watch.probe.isNone && s.watch.dwell.isNone then startProbeTimer s else s
  | .sheetOn | .threading => s

/-- The break watch is told of the end of a standardize by completion or timeout (R103, R141). -/
def watchStandardizeEnd (s : State) : State :=
  if s.watch.state = .broken ∧ parkMode s then enterSheetOff s else s

/-- The break watch is told of a probe dwell start (R108, R143). -/
def watchDwellStart (s : State) : State :=
  match s.watch.state with
  | .sheetOff => { s with watch := { s.watch with
      sheetRun := 0, dwell := some (.start (1000 * s.tables.sheet.probeDwell)) } }
  | .sheetOn | .broken | .threading => s

/-! ### Standardize unit: start and abandonment (R29, R37, R38) -/

/-- A channel's participation: fitted, with its staged curve record loaded, whose R_ref and drift limit are copied
(R29 step 1). -/
def participantOf (fitted : Bool) (curve : Option Curve) : Option Participant :=
  if fitted then curve.map (fun c => ⟨c.rRef, c.driftLimit, 0, 0⟩) else none

/-- The participants of a collection started now (R29 step 1). -/
def participantsNow (s : State) : PerMeasured (Option Participant) :=
  let f := s.conditioner.fitted
  let c := s.tables.curve.staged
  ⟨participantOf f.bw c.bw, participantOf f.mo c.mo, participantOf f.ca c.ca, participantOf f.tr c.tr⟩

/-- A collection started (R29). -/
def startCollection (s : State) : State :=
  let c : Collection := ⟨participantsNow s, s.tables.frame.s, 0, .start s.tables.frame.stdTimeout⟩
  handHead .reference { s with standardize := { s.standardize with collection := some c } }

/-- STANDARDIZING entered, and the collection started (R28, R29, R95). -/
def enterStandardizing (s : State) : State := startCollection (setCarriage .standardizing s)

/-- The end of a collection: request flag cleared, phase IDLE (R35 to R38). That the reference sample count, the sums and the
valid counts are dropped with it, until the next start sets them to 0, is the model's DESIGN CHOICE (log 37). -/
def endCollection (s : State) : State :=
  { s with standardize := { s.standardize with request := false, collection := none } }

/-- A collection, if there is one, abandoned: HEAD_MODE NORMAL sent, nothing staged (R37, R38). -/
def abandonCollection (s : State) : State :=
  match s.standardize.collection with
  | none => s
  | some _ => endCollection (handHead .normal s)

/-- The standardize request flag set; in PARKED the frame controller enters STANDARDIZING at once (R28, R95). -/
def setRequest (s : State) : State :=
  let s := { s with standardize := { s.standardize with request := true } }
  if s.frame.carriage = .parked then enterStandardizing s else s

/-- The comparison of the counter with the interval of the context in effect (R26). -/
def standardizeDue (s : State) : Bool :=
  match s.contexts.inEffect with
  | some c => c.interval != 0 && decide (c.interval ≤ s.standardize.counter)
  | none => false

/-- The request flag set if a standardize has fallen due (R26). -/
def checkDue (s : State) : State := if standardizeDue s then setRequest s else s

/-! ### Limits, approach and opening (R98 to R100, R117, R120) -/

/-- The limits of a traverse from a context and the last good edges (R100). -/
def limitsOf (minimumWidth : Nat) (c : Context) (lastGood : Option Span) : Span :=
  match c.tracking, lastGood with
  | some g, some e =>
    let front := max c.front (e.front - g)
    let back := min c.back (e.back + g)
    if back < front + minimumWidth then ⟨c.front, c.back⟩ else ⟨front, back⟩
  | _, _ => ⟨c.front, c.back⟩

/-- The governing context: the oldest queued, or the context in effect (R98, R118). It is also the context in effect after
the hand-over of an opening (R117). -/
def governing (s : State) : Option Context := s.contexts.queue.head?.or s.contexts.inEffect

/-- The limits by a context as things stand (R98, R99). -/
def limitsNow (c : Context) (s : State) : Span := limitsOf s.tables.frame.minimumWidth c s.binning.lastGood

/-- An approach begun (R98). Without a governing context, which R97, R107 and R116 exclude, the carriage stays PARKED
(log 13). -/
def beginApproach (s : State) : State :=
  match governing s with
  | some c => setCarriage (.traverse .positioning .fwd) (sendMove (limitsNow c s).front c.speed s)
  | none => setCarriage .parked s

/-- The context queue's part of an opening: the oldest member, if there is one, becomes the context in effect; the
standardize counter is compared with its interval, and the profile store receives its action with the identity of its
map (R117, R26, R120). -/
def takeContext (r : MapRecord) (s : State) : State :=
  match s.contexts.queue with
  | [] => s
  | c :: rest =>
    takeAction ⟨c.action, r.identity c.map⟩ (checkDue { s with contexts := ⟨rest, some c⟩ })

/-- The far limit of a traverse (R99). -/
def farLimit (d : Direction) (l : Span) : Nat :=
  match d with
  | .fwd => l.back
  | .rev => l.front

/-- A traverse opening in a direction (R99): context hand-over, commit, a cleared bank and a map copy, the edge finder
SEEKING, the limits fixed, SCANNING, and MOVE to the far limit. A traverse with no context, or whose context names an
absent map, does not open (R46); the carriage is then sent to park (log 13). -/
def openTraverse (d : Direction) (s : State) : State :=
  match governing s with
  | none => goPark s
  | some c =>
    match s.tables.map c.map with
    | none => goPark s
    | some r =>
      let s := commit (takeContext r s)
      let t : OpenTraverse := ⟨⟨c.map, r⟩, c, d, emptyBank r, .start, false⟩
      let l := limitsNow c s
      let s := { s with
        binning := { s.binning with openTraverse := some t }
        frame := { s.frame with limits := some l } }
      setCarriage (.traverse .scanning d) (sendMove (farLimit d l) c.speed s)

/-! ### Requests of the break watch (R108, R109) -/

/-- A park request of the break watch (R109). -/
def parkRequest (s : State) : State :=
  match s.frame.carriage with
  | .unreferenced | .halted => s
  | .parked => watchArrival (setScanOn false s)
  | .parking | .standardizing => setScanOn false s
  | .traverse _ _ => goPark (abandonTraverse .brk (setScanOn false s))
  | .fixed _ | .probing _ => goPark (setScanOn false s)

/-- A probe request of the break watch: taken in PARKED; dropped in any other state, and the probe timer is started again
(R108, R142). -/
def probeRequest (s : State) : State :=
  if s.frame.carriage = .parked then
    setCarriage (.probing .moving) (sendMove s.tables.frame.probe Config.slowSpeed s)
  else startProbeTimer s

/-- Checks 2 to 4 of R97, in order: the status of the first that fails. -/
def startRefusal (s : State) : Option Status :=
  match s.frame.carriage with
  | .unreferenced | .fixed _ | .probing _ | .halted => some .refusedState
  | .parking | .parked | .standardizing | .traverse _ _ =>
    if s.contexts.queue = [] ∧ s.contexts.inEffect = none then some .noContext
    else if parkMode s ∧ s.watch.state ≠ .sheetOn then some .refusedState
    else none

/-- A start taken: the scan-on flag set, and in PARKED an approach at once (R97). -/
def startScanning (s : State) : State :=
  let s := setScanOn true s
  if s.frame.carriage = .parked then beginApproach s else s

/-- A start request of the break watch: a START_SCAN without a response, dropped if a check fails (R109). -/
def startRequest (s : State) : State := if (startRefusal s).isNone then startScanning s else s

/-! ### Halt and standardize end (R103, R112) -/

/-- What entry into HALTED does beside STOP and the collection (R112, R5): timers idle, scan-on clear, no move target,
limits kept, the conditioner's expectation absent, an open traverse abandoned with reason HALT. -/
def haltCarriage (s : State) : State :=
  let s := abandonTraverse .halt s
  let s := { s with
    frame := { s.frame with scanOn := false, target := none, silence := none, stall := none }
    conditioner := { s.conditioner with expected := none } }
  setCarriage .halted s

/-- The frame controller is told that a standardize has ended by completion or timeout (R103). -/
def standardizeEnded (s : State) : State :=
  watchStandardizeEnd (if s.frame.scanOn then beginApproach s else setCarriage .parked s)

end Sys2Proof.Machine
end

