-- ==== Sys2Proof/Machine/Standardize.lean ====
section
/-! DEFINITION. The standardize unit's collection and result (chapter 2). -/
namespace Sys2Proof.Machine

/-- A participant after a reference sample: its raw count added if its ready bit is set (R30). -/
def Participant.add (p : Participant) (ready : Bool) (raw : Nat) : Participant :=
  if ready then { p with sum := p.sum + raw, valid := p.valid + 1 } else p

/-- A collection after a reference sample (R30). -/
def Collection.add (c : Collection) (f : SampleFrame) : Collection :=
  { c with
    count := c.count + 1
    participants :=
      ⟨c.participants.bw.map (·.add f.ready.bw f.raw.bw), c.participants.mo.map (·.add f.ready.mo f.raw.mo),
       c.participants.ca.map (·.add f.ready.ca f.raw.ca), c.participants.tr.map (·.add f.ready.tr f.raw.tr)⟩ }

/-- The result of a participant (R32 to R34). -/
inductive ParticipantResult where
  | failsCoverage
  | failsDrift
  | passes (q : Nat)
deriving DecidableEq, Repr

/-- A factor clamped to 8192 to 32767 (R34). -/
def clampFactor (q : Nat) : Nat := max 8192 (min 32767 q)

/-- The drift of a reference mean, in units of 0.01 % (R33). -/
def driftOf (rStd rRef : Nat) : Nat := distance rStd rRef * 10000 / rRef

/-- A participant's result for a target count S: coverage, then drift, then the factor (R32 to R34). -/
def Participant.result (target : Nat) (p : Participant) : ParticipantResult :=
  if p.valid < (target + 1) / 2 then .failsCoverage
  else
    let rStd := roundHalfUp p.sum p.valid
    if rStd = 0 then .failsCoverage
    else if p.driftLimit < driftOf rStd p.rRef then .failsDrift
    else .passes (clampFactor (roundHalfUp (p.rRef * 16384) rStd))

/-- The results of a collection's participants (R31). -/
def Collection.results (c : Collection) : PerMeasured (Option ParticipantResult) :=
  ⟨c.participants.bw.map (·.result c.target), c.participants.mo.map (·.result c.target),
   c.participants.ca.map (·.result c.target), c.participants.tr.map (·.result c.target)⟩

/-- The results as a list, in the channel order. -/
def resultList (r : PerMeasured (Option ParticipantResult)) : List ParticipantResult :=
  [r.bw, r.mo, r.ca, r.tr].filterMap id

/-- A staged factor after a result: replaced if the participant passed (R34). -/
def stagedFactor (old : Nat) : Option ParticipantResult → Nat
  | some (.passes q) => q
  | _ => old

/-- Whether a result stages a factor (R34). -/
def ParticipantResult.isPass : ParticipantResult → Bool
  | .passes _ => true
  | _ => false

/-- The passing factors staged, with one advance of the staged generation if there is one (R19, R34). -/
def stageFactors (r : PerMeasured (Option ParticipantResult)) (s : State) : State :=
  if (resultList r).any ParticipantResult.isPass then
    let q := s.tables.stdf.staged
    let q' : PerMeasured Nat :=
      ⟨stagedFactor q.bw r.bw, stagedFactor q.mo r.mo, stagedFactor q.ca r.ca, stagedFactor q.tr r.tr⟩
    { s with tables := { s.tables with stdf := s.tables.stdf.stage q' } }
  else s

/-- A standardize completed: HEAD_MODE NORMAL, factors staged, conditions raised, counter 0, request clear, IDLE, and the
frame controller told (R31, R35). -/
def completeStandardize (c : Collection) (s : State) : State :=
  let r := c.results
  let s := stageFactors r (handHead .normal s)
  let s := endCollection { s with standardize := { s.standardize with counter := 0 } }
  let s := raiseIf ((resultList r).contains .failsCoverage) .stdAbort s
  let s := raiseIf ((resultList r).contains .failsDrift) .stdDrift s
  standardizeEnded s

/-- The standardize unit takes a conditioned sample: a reference-flagged one counts while COLLECTING, and the S-th ends
the collection (R30, R31). -/
def standardizeTakes (x : Sample) (s : State) : State :=
  match s.standardize.collection with
  | none => s
  | some c =>
    if x.frame.reference then
      let c := c.add x.frame
      if c.target ≤ c.count then completeStandardize c s
      else { s with standardize := { s.standardize with collection := some c } }
    else s

end Sys2Proof.Machine
end

