-- ==== Sys2Proof/Machine/Watch.lean ====
section
/-! DEFINITION. The break watch (chapter 7): detector, declaration, seeing the sheet, threading. -/
namespace Sys2Proof.Machine

/-- The break mark set on the open traverse, if there is one (R139). -/
def markTraverse (s : State) : State :=
  { s with binning := { s.binning with
      openTraverse := s.binning.openTraverse.map (fun t => { t with breakMark := true }) } }

/-- A break declared (R137): BREAK with its source, run counts 0, hold-off idle, BREAK raised; then a park request in PARK
or LATCHED mode (R138), the break mark of the open traverse in REPORT mode (R139). -/
def declareBreak (source : BreakSource) (s : State) : State :=
  let s := quietRuns { s with watch := { s.watch with
    state := .broken, source := some source, breakRun := 0, heldRun := none, sheetRun := 0, holdOff := none } }
  let s := raise .sheetBreak s
  if parkMode s then parkRequest s else markTraverse s

/-- THREADING entered (R144). -/
def enterThreading (s : State) : State :=
  { s with watch := { s.watch with
      state := .threading, probe := none, dwell := none, breakRun := 0, heldRun := none, sheetRun := 0
      holdOff := some (.start (1000 * s.tables.sheet.holdOff)) } }

/-- Whether the break watch passes a sample over: the reference flag, or in TRAVERSE SCANNING a position outside the sheet
region (R135 steps 2 and 3, R143, R146). -/
def passedOver (x : Sample) (s : State) : Bool :=
  x.frame.reference ||
  (s.frame.carriage.isScanning &&
    match s.binning.openTraverse with
    | some t =>
      let r := sheetRegion s.binning.lastGood t
      !(decide (r.front ≤ x.frame.position) && decide (x.frame.position ≤ r.back))
    | none => false)

/-- Whether a run is held from a hold-off expiry of this millisecond. A declaration that completes it reached the break watch
together with the expiry, and finds SHEET_ON though the park request of the expiry has taken the carriage away. Any other
change that ends the detector's activity ends the held run (R134, R148; log 36). -/
def runHeld (s : State) : Bool := s.watch.state == .sheetOn && s.watch.heldRun.isSome

/-- The break run count set; a run held from a hold-off expiry is given up (R148; log 36). -/
def setBreakRun (n : Nat) (s : State) : State := { s with watch := { s.watch with breakRun := n, heldRun := none } }

/-- The run that a break sample adds to: the break run count, or the run held from a hold-off expiry of this moment, which
the declaration that reaches the break watch together with the expiry completes (R148; log 36). -/
def standingRun (w : BreakWatch) : Nat := max w.breakRun (w.heldRun.getD 0)

/-- The sheet run count set. -/
def setSheetRun (n : Nat) (s : State) : State := { s with watch := { s.watch with sheetRun := n } }

/-- The detector counts a TR value (R135 steps 4 to 6), and completes a held run even where it is no longer active (R148). -/
def detect (tr : Conditioned) (s : State) : State :=
  match tr.usable with
  | none => s
  | some v =>
    if s.tables.sheet.trBreak ≤ v then
      if s.tables.sheet.nBreak ≤ standingRun s.watch + 1 then declareBreak .gauge (setBreakRun 0 s)
      else setBreakRun (if detectorActive s then s.watch.breakRun + 1 else 0) s
    else setBreakRun 0 s

/-- The break watch looks for the sheet in a TR value (R143 steps 3 to 5, R146). -/
def lookForSheet (tr : Conditioned) (s : State) : State :=
  match tr.usable with
  | none => s
  | some v =>
    if v < s.tables.sheet.trBreak then
      if s.tables.sheet.nBreak ≤ s.watch.sheetRun + 1 then enterThreading s
      else setSheetRun (s.watch.sheetRun + 1) s
    else setSheetRun 0 s

/-- Both run counts, and a held run, set to 0 by a sample that reveals a gap (R4, R135 step 1, R143 step 1). -/
def gapResetRuns (x : Sample) (s : State) : State :=
  if x.afterGap then
    { s with watch := { s.watch with breakRun := 0, heldRun := s.watch.heldRun.map (fun _ => 0), sheetRun := 0 } }
  else s

/-- The break watch takes a conditioned sample (R135, R143, R146). -/
def watchTakes (x : Sample) (s : State) : State :=
  let s := gapResetRuns x s
  if passedOver x s then s
  else if detectorActive s || runHeld s then detect x.tr s
  else if sheetCounting s then lookForSheet x.tr s
  else s

end Sys2Proof.Machine
end

