-- ==== Sys2Proof/Machine/Sampling.lean ====
section
/-! DEFINITION. What one SAMPLE does: the conditioner, the binning unit, then the consumers in a free order (R1, R16), with
the frame controller's tests of arrival and reversal (R94, R101), the fixed-point windows (R105) and the stream (R189). -/
namespace Sys2Proof.Machine

/-! ### Frame controller -/

/-- The last drive status is present and reports moving = 0 (R94). -/
def driveAtRest (s : State) : Bool :=
  match s.frame.lastDrive with
  | some d => !d.moving
  | none => false

/-- Within 8 counts of a position, either side, inclusive (R94, R101). -/
def withinWindow (a b : Nat) : Bool := decide (distance a b ≤ Config.arrivalWindow)

/-- The arrival test of R94 against the move target. -/
def isArrival (position : Nat) (s : State) : Bool :=
  match s.frame.target with
  | some m => withinWindow position m.position && driveAtRest s
  | none => false

/-- The reversal test of R101 in a direction. -/
def isReversal (d : Direction) (position : Nat) (s : State) : Bool :=
  match s.frame.limits with
  | some l =>
    (match d with
     | .fwd => decide (l.back ≤ position)
     | .rev => decide (position ≤ l.front)) ||
    (withinWindow position (farLimit d l) && driveAtRest s)
  | none => false

/-- An arrival in PARKING (R95): the break watch is told, then a standardize, an approach, or PARKED. -/
def arriveAtPark (s : State) : State :=
  let s := watchArrival (endMove s)
  if s.standardize.request then enterStandardizing s
  else if s.frame.scanOn then beginApproach s
  else setCarriage .parked s

/-- A dwell start (R105): DWELLING, commit, windows emptied. -/
def startDwell (s : State) : State :=
  let s := setCarriage (.fixed .dwelling) (commit (endMove s))
  { s with frame := { s.frame with windows := .const [] } }

/-- A probe dwell start (R108): DWELLING, and the break watch is told. -/
def startProbeDwell (s : State) : State := watchDwellStart (setCarriage (.probing .dwelling) (endMove s))

/-- Whether the open traverse is abandoned at its reversal: it carries a break mark, or the break mode is REPORT and the
break state is not SHEET_ON (R101, R139). -/
def breakAtReversal (s : State) : Bool :=
  (match s.binning.openTraverse with
   | some t => t.breakMark
   | none => false) || (s.tables.sheet.mode == .report && s.watch.state != .sheetOn)

/-- The reversal (R101): the open traverse is abandoned or closed, then the carriage goes to park or the next traverse
opens in the other direction. -/
def reverse (d : Direction) (s : State) : State :=
  let s := if breakAtReversal s then abandonTraverse .brk s else closeTraverse s
  if !s.frame.scanOn || s.standardize.request then goPark s else openTraverse (otherDirection d) s

/-- A value joining a fixed-point window as its newest; a full window loses its oldest (R105). -/
def joinWindow (w : List Nat) (v : Nat) : List Nat := (w ++ [v]).drop (w.length + 1 - Config.windowCapacity)

/-- The fixed-point windows fed with a sample that is not reference-flagged (R105). -/
def feedWindows (x : Sample) (s : State) : State :=
  if x.frame.reference then s
  else { s with frame := { s.frame with windows := .make (fun c =>
      match (x.profileValue c).usable with
      | some v => joinWindow (s.frame.windows.get c) v
      | none => s.frame.windows.get c) } }

/-- The last position set and the silence timer restarted, in every state but UNREFERENCED and HALTED (R94, R110). -/
def notePosition (position : Nat) (s : State) : State :=
  let s := { s with frame := { s.frame with lastPosition := some position } }
  match s.frame.carriage with
  | .unreferenced | .halted => s
  | .parking | .parked | .standardizing | .traverse _ _ | .fixed _ | .probing _ => startSilence s

/-- The frame controller takes a conditioned sample (R94): the event that the carriage state awaits. -/
def frameTakes (x : Sample) (s : State) : State :=
  let p := x.frame.position
  let s := notePosition p s
  match s.frame.carriage with
  | .parking => if isArrival p s then arriveAtPark s else s
  | .traverse .positioning d => if isArrival p s then openTraverse d (endMove s) else s
  | .traverse .scanning d => if isReversal d p s then reverse d s else s
  | .fixed .moving => if isArrival p s then startDwell s else s
  | .fixed .dwelling => feedWindows x s
  | .probing .moving => if isArrival p s then startProbeDwell s else s
  | .unreferenced | .parked | .standardizing | .probing .dwelling | .halted => s

/-! ### Stream -/

/-- A sample placed in the stream slot; an unsent one is replaced and counted (R194). -/
def placeStream (x : Sample) (s : State) : State :=
  let s := if s.mill.stream.isSome then countStreamDropped s else s
  { s with mill := { s.mill with stream := some ⟨x, s.frame.carriage.direction, s.clock⟩ } }

/-- The stream counts a conditioned sample and offers every nth (R189). -/
def streamTakes (x : Sample) (s : State) : State :=
  if s.mill.decimation = 0 then s
  else if s.mill.decimation ≤ s.mill.decimationCount + 1 then
    placeStream x { s with mill := { s.mill with decimationCount := 0 } }
  else { s with mill := { s.mill with decimationCount := s.mill.decimationCount + 1 } }

/-! ### The sample -/

/-- One consumer takes the sample (R16). The raisings that wait see its end as a moment of the step, and in the frame
controller also the moment between the new last position and what the carriage does (R166; log 7). -/
def Consumer.takes (x : Sample) (s : State) (c : Consumer) : State :=
  let t := match c with
    | .frameController => frameTakes x (noteMoment { viewNow s with position := some x.frame.position } s)
    | .breakWatch => watchTakes x s
    | .standardizeUnit => standardizeTakes x s
    | .stream => streamTakes x s
  noteMoment (viewNow t) t

/-- The consumers among which the spec imposes no order (R16). -/
def Consumer.all : List Consumer := [.frameController, .breakWatch, .standardizeUnit, .stream]

/-- The order that a number stands for (log 6). -/
def consumerOrder (k : Nat) : List Consumer := arrange 4 k Consumer.all

/-- A sample taken with its consumers in a given order: conditioner, binning unit and edge finder (R51), consumers. -/
def sampleIn (order : List Consumer) (f : SampleFrame) (s : State) : State :=
  let x := sampleOf f s
  order.foldl (Consumer.takes x) (binningTakes x (conditionerTakes f s))

/-- A carriage-link frame has been delivered, and the receiver hunts for the next (R191; log 10). -/
def carriageDelivered (s : State) : State := { s with port := { s.port with receiver := .hunting } }

/-- A good SAMPLE frame (R1), its consumers in the order the free value gives (log 6). -/
def takeSample (f : SampleFrame) (s : State) : State :=
  sampleIn (consumerOrder (Config.consumerOrder s.choices)) f
    (carriageDelivered { s with choices := s.choices + 1 })

end Sys2Proof.Machine
end

