-- ==== Sys2Proof/Machine/Handler.lean ====
section
/-! DEFINITION. The command handler (chapter 10.1, 10.2): taking the oldest command, the checks of form and gate, and the
response. -/
namespace Sys2Proof.Machine

/-- What the owner of a command answers: status, result bytes, and the state it leaves (R179, R180). -/
structure Answer where
  status : Status
  result : List Byte
  state  : State

/-- A command refused: the status, no result, and nothing changed (R179, R180). -/
def refuse (status : Status) (s : State) : Answer := ⟨status, [], s⟩

/-- A command taken whose rule gives no result (R180). -/
def accept (s : State) : Answer := ⟨.ok, [], s⟩

/-- A reading command answered OK with a result, changing nothing. -/
def reads (result : List Byte) (s : State) : Answer := ⟨.ok, result, s⟩

/-- The handler takes the oldest frame of its queue when it is READY and the frame is a command of this row (R177). -/
def takeCommand (row : CommandRow) (s : State) : Option (CommandFrame × State) :=
  match s.handler.phase, s.handler.inbound with
  | .ready, f :: rest =>
    if rowOf f = row then some (f, { s with handler := ⟨rest, some f, .executing⟩ }) else none
  | _, _ => none

/-- The checks of R179 in their order: form, gate, owner. -/
def answerTo {α : Type} (row : CommandRow) (parse : List Byte → Option α) (owner : α → State → Answer)
    (args : List Byte) (s : State) : Answer :=
  match parse args with
  | none => refuse .malformed s
  | some a => if row.altering && s.conditions.summary then refuse .alarmPending s else owner a s

/-- The response placed in the response slot, with sequence and code echoed (R177, R180). -/
def respond (f : CommandFrame) (a : Answer) : State :=
  { a.state with
    mill := { a.state.mill with response := some ⟨f.sequence, f.code, a.status, a.result⟩ }
    handler := { a.state.handler with phase := .answered } }

/-- One row of the command handler: the command taken, checked, handed to its owner and answered (R177, R179). With no
such command to take, nothing happens (log 1). -/
def serve {α : Type} (row : CommandRow) (parse : List Byte → Option α) (owner : α → State → Answer) (s : State) : State :=
  match takeCommand row s with
  | none => s
  | some (f, s') => respond f (answerTo row parse owner f.args s')

end Sys2Proof.Machine
end

