-- ==== Sys2Proof/Machine/Tables.lean ====
section
/-! DEFINITION. READ_TABLE and WRITE_TABLE (10.3), region by region: validation and effect of each write by its own rule,
and the results of table 11-11; and LOCK_CALIBRATION (R21). -/
namespace Sys2Proof.Machine

/-! ### Lists written in part -/

/-- Consecutive members replaced from an index on (R12, R151). -/
def writeAt {α : Type} (l : List α) (first : Nat) (new : List α) : List α :=
  l.take first ++ new ++ l.drop (first + new.length)

/-- The measured channel's item by its number in the channel order BW, MO, CA, TR. -/
def PerMeasured.at? {α : Type} (p : PerMeasured α) : Nat → Option α
  | 0 => some p.bw
  | 1 => some p.mo
  | 2 => some p.ca
  | 3 => some p.tr
  | _ => none

/-- The record with the item of a number replaced. -/
def PerMeasured.setAt {α : Type} (p : PerMeasured α) (i : Nat) (a : α) : PerMeasured α :=
  match i with
  | 0 => { p with bw := a }
  | 1 => { p with mo := a }
  | 2 => { p with ca := a }
  | 3 => { p with tr := a }
  | _ => p

/-- Consecutive items replaced from a number on (R18). -/
def PerMeasured.writeAt {α : Type} (p : PerMeasured α) (first : Nat) : List α → PerMeasured α
  | [] => p
  | a :: rest => PerMeasured.writeAt (PerMeasured.setAt p first a) (first + 1) rest

/-- A list of numbers strictly rising. -/
def strictlyRising : List Nat → Bool
  | a :: b :: rest => decide (a < b) && strictlyRising (b :: rest)
  | _ => true

/-- A number within a range, both ends included. -/
def between (lo hi n : Nat) : Bool := decide (lo ≤ n) && decide (n ≤ hi)

/-! ### Calibration (R10, R12, R18) -/

/-- The curve record of a write that passes R10, with its index. -/
def validCurve (a : CurveArgs) : Option Curve :=
  match a.points, PerMeasured.at? measuredMax a.index with
  | p :: rest, some top =>
    if between 2 12 a.points.length && strictlyRising (a.points.map CurvePoint.r) &&
        a.points.all (fun p => decide (p.e ≤ top)) && a.rRef != 0 && decide (a.driftLimit ≤ 5000) then
      some ⟨p, rest, a.rRef, a.driftLimit⟩
    else none
  | _, _ => none

/-- A CURVE write after the gate (R10, R18). -/
def writeCurve (a : CurveArgs) (s : State) : Answer :=
  if s.tables.locked then refuse .locked s
  else
    match validCurve a with
    | none => refuse .badArgument s
    | some c => accept { s with tables := { s.tables with
        curve := s.tables.curve.stage (PerMeasured.setAt s.tables.curve.staged a.index (some c)) } }

/-- A bias entry that passes R12. -/
def validBias (a : BiasArgs) : Option BiasEntry :=
  match boolOf a.enabled, profileChannelOf a.channel with
  | some e, some c => if -2000 ≤ a.bias ∧ a.bias ≤ 2000 then some ⟨e, c, a.bias⟩ else none
  | _, _ => none

/-- A BIAS write after the gate (R12, R18). -/
def writeBias (a : Nat × List BiasArgs) (s : State) : Answer :=
  if s.tables.locked then refuse .locked s
  else if 8 < a.1 + a.2.length then refuse .badArgument s
  else
    match a.2.mapM validBias with
    | none => refuse .badArgument s
    | some es => accept { s with tables := { s.tables with
        bias := s.tables.bias.stage (Sys2Proof.Machine.writeAt s.tables.bias.staged a.1 es) } }

/-- An STDF write after the gate (R18). -/
def writeStdf (a : Nat × List Nat) (s : State) : Answer :=
  if s.tables.locked then refuse .locked s
  else if 4 < a.1 + a.2.length || !a.2.all (between 8192 32767) then refuse .badArgument s
  else accept { s with tables := { s.tables with
      stdf := s.tables.stdf.stage (PerMeasured.writeAt s.tables.stdf.staged a.1 a.2) } }

/-- LOCK_CALIBRATION after the gate (R21). -/
def lockCalibration (_ : Unit) (s : State) : Answer := accept { s with tables := { s.tables with locked := true } }

/-! ### Slice maps (R43 to R45) -/

/-- The fixed excluded range of a map write, when it is carried and stands in order within the slice count (R43); none
refuses it. -/
def validRange (present sliceCount : Nat) (range : Option (Nat × Nat)) : Option (Option (Nat × Nat)) :=
  match present, range with
  | 0, _ => some none
  | 1, some (first, last) => if first ≤ last ∧ last < sliceCount then some (some (first, last)) else none
  | _, _ => none

/-- The identity rule: under an unchanged map id, slice count and boundaries must not change (R44). -/
def keepsGeometry (stored : Option MapRecord) (r : MapRecord) : Bool :=
  match stored with
  | some o => o.id != r.id || (o.sliceCount == r.sliceCount && o.boundaries == r.boundaries)
  | none => true

/-- The map record of a write that passes R43 step 3 for its letter. -/
def validMap (stored : Option MapRecord) (a : MapArgs) : Option MapRecord :=
  match validRange a.present a.sliceCount a.fixedRange with
  | none => none
  | some range =>
    let r : MapRecord := ⟨a.id, a.sliceCount, a.boundaries, range⟩
    if a.id != 0 && between 8 480 a.sliceCount && a.boundaries.length == a.sliceCount + 1 &&
        a.boundaries.all (fun b => decide (b ≤ Config.maxPosition)) && strictlyRising a.boundaries &&
        keepsGeometry stored r then some r
    else none

/-- The map in effect: the one named by the context in effect (R45). -/
def mapInEffect (s : State) : Option MapLetter := s.contexts.inEffect.map Context.map

/-- Whether the carriage state forbids a write to the map in effect: TRAVERSE, FIXED or PROBING (R45). -/
def mapHeld (s : State) : Bool :=
  match s.frame.carriage with
  | .traverse _ _ | .fixed _ | .probing _ => true
  | .unreferenced | .parking | .parked | .standardizing | .halted => false

/-- A MAP write after the gate (R43). -/
def writeMap (a : MapArgs) (s : State) : Answer :=
  match mapLetterOf a.letter with
  | none => refuse .badArgument s
  | some l =>
    if mapInEffect s = some l ∧ mapHeld s then refuse .refusedState s
    else
      match validMap (s.tables.map l) a with
      | none => refuse .badArgument s
      | some r => accept { s with tables := s.tables.setMap l r }

/-! ### Monitors (R151, R152) -/

/-- The source of a monitor record, with its slice range for SLICE (R151). -/
def validSource (source : Nat) (range : Option (Nat × Nat)) : Option MonitorSource :=
  match source, range with
  | 0, none => some .scanAvg
  | 1, none => some .spread
  | 2, none => some .range
  | 3, some (first, last) => if first ≤ last ∧ last ≤ 479 then some (.slice first last) else none
  | _, _ => none

/-- The range that a source allows its limits, lowest and highest (8.1). -/
def limitRange (c : ProfileChannel) : MonitorSource → Int × Int
  | .scanAvg => (0, c.max)
  | .spread | .range => (0, 65535)
  | .slice _ _ => (-65535, 65535)

/-- A monitor record that passes R151. -/
def validMonitor (a : MonitorArgs) : Option MonitorRecord :=
  match boolOf a.enabled, profileChannelOf a.channel, validSource a.source a.range, monitorKindOf a.kind with
  | some e, some c, some src, some k =>
    let lim := limitRange c src
    if lim.1 ≤ a.low ∧ a.low ≤ a.high ∧ a.high ≤ lim.2 ∧ between 1 15 a.persistence then
      some ⟨e, c, src, a.low, a.high, a.persistence, k⟩
    else none
  | _, _, _, _ => none

/-- Whether the close-out engine is IDLE (R82). -/
def engineIdle (s : State) : Bool := s.closeOut.engine == .idle

/-- A MONITOR write after the gate (R151, R152). -/
def writeMonitor (a : Nat × List MonitorArgs) (s : State) : Answer :=
  if !engineIdle s then refuse .busy s
  else if 8 < a.1 + a.2.length then refuse .badArgument s
  else
    match a.2.mapM validMonitor with
    | none => refuse .badArgument s
    | some rs => accept { s with monitors := Sys2Proof.Machine.writeAt s.monitors a.1 (rs.map Monitor.fresh) }

/-! ### Settings (R6, R89, R132, R184) -/

/-- The SHEET settings of a write whose every setting lies in its range (R132 step 3, R184). -/
def validSheet (a : SheetArgs) : Option SheetSettings :=
  match breakModeOf a.mode, boolOf a.standardizeAfter, boolOf a.autoResume with
  | some mode, some std, some auto =>
    if decide (a.trBreak ≤ 1000) && between 1 255 a.nBreak && between 5 600 a.probeInterval &&
        between 1 30 a.probeDwell && between 1 120 a.holdOff && decide (a.trPresent ≤ 1000) && between 1 15 a.m then
      some ⟨mode, a.trBreak, a.nBreak, a.probeInterval, a.probeDwell, a.holdOff, std, auto, a.trPresent, a.m⟩
    else none
  | _, _, _ => none

/-- A SHEET write after the gate (R132). -/
def writeSheet (a : SheetArgs) (s : State) : Answer :=
  if s.tables.sheet.mode = .latched then refuse .locked s
  else
    match validSheet a with
    | none => refuse .badArgument s
    | some t =>
      if t.mode ≠ s.tables.sheet.mode ∧ s.watch.state ≠ .sheetOn then refuse .refusedState s
      else accept { s with tables := { s.tables with sheet := t } }

/-- Whether every FRAME setting lies in its range (5.1, R184). -/
def validFrame (t : FrameSettings) : Bool :=
  decide (t.park ≤ Config.maxPosition) && decide (t.probe ≤ Config.maxPosition) && between 1 32767 t.minimumWidth &&
  between 10 1000 t.silencePeriod && between 200 10000 t.stallPeriod && between 16 1024 t.s &&
  between 1000 30000 t.stdTimeout

/-- A FRAME write after the gate (R89). -/
def writeFrame (t : FrameSettings) (s : State) : Answer :=
  if validFrame t then accept { s with tables := { s.tables with frame := t } } else refuse .badArgument s

/-- A CHANNEL write after the gate: the written enable for a fitted channel, 0 for one that is not (R6, R184). -/
def writeChannel (a : Nat × Nat × Nat) (s : State) : Answer :=
  match boolOf a.1, boolOf a.2.1, boolOf a.2.2 with
  | some bw, some mo, some ca =>
    let f := s.conditioner.fitted
    accept { s with tables := { s.tables with enables := ⟨bw && f.bw, mo && f.mo, ca && f.ca⟩ } }
  | _, _, _ => refuse .badArgument s

/-! ### Save slots (R129, R130) -/

/-- A slot header write after the gate (R129). -/
def writeSlotHeader (a : Nat × Nat × Nat) (s : State) : Answer :=
  if 3 < a.1 || !between 8 480 a.2.2 then refuse .badArgument s
  else accept { s with profile := s.profile.setSlot a.1 ⟨a.2.1, a.2.2, .const none⟩ }

/-- An image entry that passes R130 step 4. -/
def validEntry (e : Int × Nat) : Option ImageEntry :=
  match sliceStateOf e.2 with
  | none => none
  | some st =>
    if -Config.filteredMax ≤ e.1 ∧ e.1 ≤ Config.filteredMax ∧ (st = .unset → e.1 = 0) then some ⟨e.1, st⟩ else none

/-- A slot image write after the gate (R130). -/
def writeSlotImage (a : ImageArgs) (s : State) : Answer :=
  match profileChannelOf a.channel with
  | none => refuse .badArgument s
  | some c =>
    if 3 < a.slot then refuse .badArgument s
    else
      match s.profile.slot a.slot with
      | none => refuse .slotEmpty s
      | some slot =>
        if a.entries.length ≠ slot.sliceCount then refuse .badArgument s
        else
          match a.entries.mapM validEntry with
          | none => refuse .badArgument s
          | some es => accept { s with profile := s.profile.setSlot a.slot { slot with
              images := slot.images.set c (some es) } }

/-- A write to a region code that names no region, after the gate (R183). -/
def writeUnknownRegion (_ : Unit) (s : State) : Answer := refuse .badArgument s

/-! ### READ_TABLE (R182) -/

/-- Whether a first index and a count of 1 to `n` stay within `n` members (R153, R182). -/
def validRun (n first count : Nat) : Bool := between 1 n count && decide (first + count ≤ n)

/-- A record marked loaded or absent, with its bytes when loaded (table 11-11). -/
def loadedBytes {α : Type} (f : α → List Byte) : Option α → List Byte
  | some a => byte 1 :: f a
  | none => [byte 0]

/-- A slot header as READ_TABLE returns it (R131, table 11-11). -/
def slotHeaderBytes (slot : SaveSlot) : List Byte :=
  be16 slot.tag ++ be16 slot.sliceCount ++
  [byte (packBits [slot.images.bw.isSome, slot.images.mo.isSome, slot.images.ca.isSome, slot.images.dw.isSome])]

/-- A saved image as READ_TABLE returns it (R131, table 11-11). -/
def imageBytes (es : List ImageEntry) : List Byte := be16 es.length ++ es.flatMap imageEntryBytes

/-- A slot or one of its parts (R131). -/
def readSlot (slot part : Nat) (s : State) : Option (List Byte) :=
  if 3 < slot then none
  else if part = 0x80 then some (byte slot :: loadedBytes slotHeaderBytes (s.profile.slot slot))
  else (profileChannelOf part).map (fun c =>
    [byte slot, byte part] ++ loadedBytes imageBytes ((s.profile.slot slot).bind (fun x => x.images.get c)))

/-- What READ_TABLE returns, none for an argument out of range (R182). -/
def tableResult (a : ReadArgs) (s : State) : Option (List Byte) :=
  match a with
  | .curve i => (PerMeasured.at? s.tables.curve.staged i).map (fun c => byte i :: loadedBytes curveBytes c)
  | .bias first count =>
    if validRun 8 first count then
      some ([byte first, byte count] ++ ((s.tables.bias.staged.drop first).take count).flatMap biasBytes)
    else none
  | .stdf =>
    let q := s.tables.stdf.staged
    some (be16 q.bw ++ be16 q.mo ++ be16 q.ca ++ be16 q.tr)
  | .map letter => (mapLetterOf letter).map (fun l => byte letter :: loadedBytes mapBytes (s.tables.map l))
  | .monitor first count =>
    if validRun 8 first count then
      some ([byte first, byte count] ++ ((s.monitors.drop first).take count).flatMap monitorBytes)
    else none
  | .sheet => some (sheetBytes s.tables.sheet)
  | .frame => some (frameBytes s.tables.frame)
  | .channel =>
    let e := s.tables.enables
    some [bitByte e.bw, bitByte e.mo, bitByte e.ca, byte (packMeasured s.conditioner.fitted)]
  | .slot slot part => readSlot slot part s
  | .unknownRegion => none

/-- READ_TABLE (R182). -/
def readTable (a : ReadArgs) (s : State) : Answer :=
  match tableResult a s with
  | some bytes => reads bytes s
  | none => refuse .badArgument s

end Sys2Proof.Machine
end

