-- ==== Sys2Proof/Machine/ScanCommands.lean ====
section
/-! DEFINITION. The commands of the frame controller, the context queue, the standardize unit and the break watch: PARK,
START_SCAN, STOP_SCAN, RESUME, FIXED_POINT, READ_FIXED, STANDARDIZE, PUSH_CONTEXT, FLUSH_QUEUE, SHEET_NOTICE. -/
namespace Sys2Proof.Machine

/-- STANDARDIZE after the gate (R25). -/
def standardizeCommand (_ : Unit) (s : State) : Answer :=
  match s.frame.carriage with
  | .unreferenced | .halted => refuse .refusedState s
  | .standardizing => accept s
  | .parking | .parked | .traverse _ _ | .fixed _ | .probing _ => accept (setRequest s)

/-- PARK in HALTED is possible when the last drive status reports referenced and no fault (R112). -/
def driveReady (s : State) : Bool :=
  match s.frame.lastDrive with
  | some d => d.referenced && !d.fault
  | none => false

/-- PARK (R96, R112). -/
def parkCommand (_ : Unit) (s : State) : Answer :=
  match s.frame.carriage with
  | .unreferenced => refuse .refusedState s
  | .parked => accept (setScanOn false s)
  | .standardizing => accept (goPark (abandonCollection (setScanOn false s)))
  | .parking | .traverse _ _ | .fixed _ | .probing _ => accept (goPark (abandonTraverse .park (setScanOn false s)))
  | .halted => if driveReady s then accept (startSilence (goPark s)) else refuse .refusedState s

/-- START_SCAN after the gate (R97). -/
def startCommand (_ : Unit) (s : State) : Answer :=
  match startRefusal s with
  | some status => refuse status s
  | none => accept (startScanning s)

/-- STOP_SCAN (R102). -/
def stopCommand (_ : Unit) (s : State) : Answer :=
  let s := setScanOn false s
  match s.frame.carriage with
  | .traverse .positioning _ | .fixed _ => accept (goPark s)
  | .unreferenced | .parking | .parked | .standardizing | .traverse .scanning _ | .probing _ | .halted => accept s

/-- RESUME after the gate (R107). -/
def resumeCommand (_ : Unit) (s : State) : Answer :=
  match s.frame.carriage with
  | .fixed _ =>
    if s.contexts.queue = [] ∧ s.contexts.inEffect = none then refuse .noContext s
    else if parkMode s ∧ s.watch.state ≠ .sheetOn then refuse .refusedState s
    else accept (beginApproach (setScanOn true s))
  | .unreferenced | .parking | .parked | .standardizing | .traverse _ _ | .probing _ | .halted => refuse .refusedState s

/-- The speed of a MOVE to a fixed point: that of the context in effect, or 200 mm/s (R91). -/
def fixedSpeed (s : State) : Nat :=
  match s.contexts.inEffect with
  | some c => c.speed
  | none => Config.slowSpeed

/-- A FIXED_POINT taken (R104). -/
def goFixed (position : Nat) (s : State) : State :=
  let s := abandonTraverse .fixed (setScanOn false s)
  let s := { s with frame := { s.frame with fixedPoint := some position } }
  setCarriage (.fixed .moving) (sendMove position (fixedSpeed s) s)

/-- FIXED_POINT after the gate (R104). -/
def fixedPointCommand (position : Nat) (s : State) : Answer :=
  if Config.maxPosition < position then refuse .badArgument s
  else
    match s.frame.carriage with
    | .unreferenced | .standardizing | .probing _ | .halted => refuse .refusedState s
    | .parking | .parked | .traverse _ _ | .fixed _ =>
      if parkMode s ∧ s.watch.state ≠ .sheetOn then refuse .refusedState s else accept (goFixed position s)

/-- The mean of a window, absent when it is empty (R106). -/
def windowMean (w : List Nat) : Option Nat := if w = [] then none else some (roundHalfUp w.sum w.length)

/-- READ_FIXED (R106). -/
def readFixed (channel : Nat) (s : State) : Answer :=
  match profileChannelOf channel with
  | none => refuse .badArgument s
  | some c =>
    if c.fittedIn s.conditioner.fitted then
      let w := s.frame.windows.get c
      reads (bitByte (s.frame.carriage == .fixed .dwelling) :: opt16 s.frame.fixedPoint ++ [byte w.length] ++
        presence16 (windowMean w)) s
    else refuse .notFitted s

/-! ### Contexts (R114, R116) -/

/-- A speed clamped to 50 to 1000 mm/s (R114 step 2). -/
def clampSpeed (v : Nat) : Nat := max 50 (min 1000 v)

/-- The tracking margin of a context record: ON with a margin of at most 2000, or OFF (R114 step 3). -/
def validTracking (tracking : Nat) (margin : Option Nat) : Option (Option Nat) :=
  match tracking, margin with
  | 0, _ => some none
  | 1, some g => if g ≤ 2000 then some (some g) else none
  | _, _ => none

/-- The profile action of a context record (R114 step 3). -/
def validAction (action : Nat) (slot : Option Nat) : Option ProfileAction :=
  match action, slot with
  | 0, _ => some .keep
  | 1, _ => some .clear
  | 2, some k => if k ≤ 3 then some (.restore k) else none
  | _, _ => none

/-- The context of a record that passes R114, after the clamps of step 2. -/
def validContext (t : Tables) (a : ContextArgs) : Option Context :=
  match mapLetterOf a.map, validTracking a.tracking a.margin, validAction a.action a.slot with
  | some l, some tr, some ac =>
    let c : Context := ⟨a.tag, l, min a.front Config.maxPosition, min a.back Config.maxPosition, clampSpeed a.speed,
      a.nmin, a.weight, a.staleLimit, a.quorum, a.edgeWidth, tr, a.interval, ac⟩
    if (t.map l).isSome && decide (c.front < c.back) && between 1 15 c.nmin && between 1 256 c.weight &&
        between 1 15 c.staleLimit && between 10 100 c.quorum && decide (c.edgeWidth ≤ 16) &&
        decide (c.interval ≤ 255) then some c
    else none
  | _, _, _ => none

/-- PUSH_CONTEXT after the gate (R114). -/
def pushContext (a : ContextArgs) (s : State) : Answer :=
  match validContext s.tables a with
  | none => refuse .badArgument s
  | some c =>
    if Config.contextCapacity ≤ s.contexts.queue.length then refuse .queueFull (raise .queueOverflow s)
    else accept { s with contexts := { s.contexts with queue := s.contexts.queue ++ [c] } }

/-- FLUSH_QUEUE after the gate (R116). -/
def flushQueue (_ : Unit) (s : State) : Answer :=
  if s.contexts.inEffect = none ∧ s.frame.scanOn then refuse .refusedState s
  else accept { s with contexts := { s.contexts with queue := [] } }

/-! ### Sheet notices (R136) -/

/-- A BREAK notice: a break with source MILL in SHEET_ON and THREADING (R136). -/
def breakNotice (s : State) : State :=
  match s.watch.state with
  | .sheetOn | .threading => declareBreak .mill s
  | .broken | .sheetOff => s

/-- A RESTORED notice: THREADING from BREAK and SHEET_OFF (R136). -/
def restoredNotice (s : State) : State :=
  match s.watch.state with
  | .broken | .sheetOff => enterThreading s
  | .sheetOn | .threading => s

/-- SHEET_NOTICE (R136). -/
def sheetNotice (kind : Nat) (s : State) : Answer :=
  match kind with
  | 0 => accept (breakNotice s)
  | 1 => accept (restoredNotice s)
  | _ => refuse .badArgument s

end Sys2Proof.Machine
end

