-- ==== Sys2Proof/Machine/StatusCommands.lean ====
section
/-! DEFINITION. The commands of the profile store, the condition unit, the outbound side and the handler itself:
READ_STATUS, READ_PROFILE, READ_TREND, SAVE_PROFILE, RESTORE_PROFILE, CLEAR_PROFILE, ACK_ALARM, CLEAR_CONDITIONS, SET_MASK,
CLEAR_COUNTERS, SET_STREAM, PASS_DOWN, RESTART. -/
namespace Sys2Proof.Machine

/-- READ_STATUS (R185): every item as it stands before or after the whole of each other row. Within one row at whose moment it
is taken, R185 lets it show some blocks before and others after; the model has no such view (DEDUCED, log 38). -/
def readStatus (_ : Unit) (s : State) : Answer := reads (statusRecord s) s

/-! ### Profile store -/

/-- READ_PROFILE (R81). -/
def readProfile (channel : Nat) (s : State) : Answer :=
  match profileChannelOf channel with
  | none => refuse .badArgument s
  | some c =>
    if !engineIdle s then refuse .busy s
    else if c.fittedIn s.conditioner.fitted then
      reads (identityBytes s.profile.map ++ be16 s.closeOut.scanNumber ++
        (s.profile.records.get c).flatMap sliceRecordBytes) s
    else refuse .notFitted s

/-- The newest records of the trend ring, oldest first (R84). -/
def newestTrend (n : Nat) (ring : List TrendRecord) : List TrendRecord := ring.drop (ring.length - n)

/-- READ_TREND (R84). -/
def readTrend (count : Nat) (s : State) : Answer :=
  if between 1 64 count then
    let rs := newestTrend count s.profile.trend
    reads (byte rs.length :: rs.flatMap trendBytes) s
  else refuse .badArgument s

/-- The save slot that SAVE_PROFILE fills: all four channels' F and state (R126). -/
def savedSlot (tag : Nat) (id : MapIdentity) (records : PerProfile (List SliceRecord)) : SaveSlot :=
  ⟨tag, id.sliceCount, .make (fun c => some ((records.get c).map SliceRecord.image))⟩

/-- SAVE_PROFILE after the gate (R126). -/
def saveProfile (a : Nat × Nat) (s : State) : Answer :=
  if !engineIdle s then refuse .busy s
  else if 3 < a.1 then refuse .badArgument s
  else
    match s.profile.map with
    | none => refuse .refusedState s
    | some id => accept { s with profile := s.profile.setSlot a.1 (savedSlot a.2 id s.profile.records) }

/-- RESTORE_PROFILE after the gate (R127). -/
def restoreProfile (k : Nat) (s : State) : Answer :=
  if !engineIdle s then refuse .busy s
  else if 3 < k then refuse .badArgument s
  else
    match s.profile.map with
    | none => refuse .refusedState s
    | some id =>
      match s.profile.slot k with
      | none => refuse .slotEmpty s
      | some slot =>
        if slot.sliceCount ≠ id.sliceCount then refuse .mapMismatch s
        else accept { s with profile := s.profile.restoreTo id slot }

/-- CLEAR_PROFILE after the gate (R128). -/
def clearProfile (_ : Unit) (s : State) : Answer :=
  if !engineIdle s then refuse .busy s
  else
    match s.profile.map with
    | none => accept s
    | some id => accept { s with profile := s.profile.clearTo id .cleared }

/-! ### Condition unit -/

/-- ACK_ALARM (R170). -/
def ackAlarm (_ : Unit) (s : State) : Answer :=
  reads (setBytes s.conditions.flags) { s with conditions := { s.conditions with summary := false } }

/-- A condition set or mask of 24 bits, none if it names a number outside 0 to 16 (R171, R172). -/
def conditionSet (n : Nat) : Option (BitVec 17) := if n < 2 ^ 17 then some (BitVec.ofNat 17 n) else none

/-- CLEAR_CONDITIONS (R171). -/
def clearConditions (n : Nat) (s : State) : Answer :=
  match conditionSet n with
  | none => refuse .badArgument s
  | some b => accept { s with conditions := { s.conditions with flags := s.conditions.flags &&& ~~~b } }

/-- SET_MASK (R172). -/
def setMask (n : Nat) (s : State) : Answer :=
  match conditionSet n with
  | none => refuse .badArgument s
  | some b => accept { s with conditions := { s.conditions with unmasked := b } }

/-- CLEAR_COUNTERS (R175). -/
def clearCounters (_ : Unit) (s : State) : Answer :=
  accept { s with conditions := { s.conditions with counters := .zero } }

/-! ### Streaming and passthrough -/

/-- SET_STREAM (R188). -/
def setStream (n : Nat) (s : State) : Answer :=
  let d := min n 255
  reads [byte d] { s with mill := { s.mill with decimation := d, decimationCount := 0 } }

/-- PASS_DOWN (R190). -/
def passDown (payload : List Byte) (s : State) : Answer :=
  if 256 < payload.length then refuse .badArgument s
  else if s.port.passDown.length < Config.passCapacity then
    accept { s with port := { s.port with passDown := s.port.passDown ++ [payload] } }
  else refuse .queueFull (raise .linkError (countPassDropped s))

/-! ### RESTART (10.5) -/

/-- The frame controller's part of a RESTART by carriage state, the collection abandoned and the traverse dropped already
(R113). -/
def restartCarriage (s : State) : State :=
  match s.frame.carriage with
  | .unreferenced | .halted | .parked => s
  | .standardizing => setCarriage .parked s
  | .parking | .traverse _ _ | .fixed _ | .probing _ => goPark s

/-- Every other block at its restart values, the tables, slots, mask, lock and queues kept (R24, R40, R48, R52, R56, R66,
R79, R83, R113, R119, R124, R133, R150, R176, R188). -/
def restartBlocks (s : State) : State :=
  { s with
    conditioner := { s.conditioner with expected := none }
    standardize := ⟨false, 0, none⟩
    binning := ⟨none, none⟩
    closeOut := ⟨.idle, 0⟩
    profile := { s.profile with map := none, records := .const [], note := none, action := none, trend := [] }
    contexts := ⟨[], none⟩
    frame := { s.frame with scanOn := false, limits := none, fixedPoint := none, windows := .const [] }
    watch := .reset
    monitors := s.monitors.map (fun m => .fresh m.record)
    conditions := { s.conditions with flags := 0, summary := false, counters := .zero }
    mill := { s.mill with stream := none, decimation := 0, decimationCount := 0 } }

/-- RESTART (R186). -/
def restartCommand (_ : Unit) (s : State) : Answer := accept (restartCarriage (restartBlocks (abandonCollection s)))

end Sys2Proof.Machine
end

