-- ==== Sys2Proof/Machine/Events.lean ====
section
/-! DEFINITION. The events of the part, one meaning per row: resets and time, link arrivals, receivers and transmitters,
timer expiries, close-out phase completions. An event that cannot occur in a state leaves it as it is (log 1). -/
namespace Sys2Proof.Machine

/-- What a step answers: always a next state, since every row has an effect the spec gives. -/
abbrev Result := Host.Outcome State Fault Refusal

/-! ### Resets and time -/

/-- POWER_ON_RESET (R90 and the reset value of every block): State.reset, but for the model's own fields, the commands
that wait and the free-value counter (log 24). -/
def execPowerOnReset (s : State) : Result := .next { State.reset with pending := s.pending, choices := s.choices }

/-- A collection's timer after one tick. -/
def Collection.tick (c : Collection) : Collection := { c with timer := c.timer.tick }

/-- A stall timer after one tick. -/
def StallTimer.tick (t : StallTimer) : StallTimer := { t with timer := t.timer.tick }

/-- Every running timer after one tick (00_scope.md section 4; log 5). A run held from a hold-off expiry ends with the
millisecond of the expiry (log 36). -/
def tickTimers (s : State) : State :=
  { s with
    standardize := { s.standardize with collection := s.standardize.collection.map Collection.tick }
    frame := { s.frame with silence := s.frame.silence.map Timer.tick, stall := s.frame.stall.map StallTimer.tick }
    watch := { s.watch with
      probe := s.watch.probe.map Timer.tick, dwell := s.watch.dwell.map Timer.tick
      holdOff := s.watch.holdOff.map Timer.tick, heldRun := none } }

/-- MILLISECOND_TICK (R186): the 32-bit millisecond counter, which wraps, and the running timers. -/
def execMillisecondTick (s : State) : Result := .next { tickTimers s with clock := (s.clock + 1) % 4294967296 }

/-! ### Carriage link arrivals -/

/-- SAMPLE (R1). -/
def execSample (f : SampleFrame) (s : State) : Result := .next (settle (takeSample f s))

/-- HEAD_ANNOUNCE (R2). -/
def execHeadAnnounce (fitted : PerMeasured Bool) (s : State) : Result := .next (announce fitted (carriageDelivered s))

/-- Whether a drive status is a drive fault: fault = 1 or referenced = 0 (R92, R93). -/
def isDriveFault (d : DriveStatus) : Bool := d.fault || !d.referenced

/-- A drive fault outside UNREFERENCED and HALTED (R93, R112): HALTED entered, a collection abandoned without a condition,
then STOP sent (log 14), and DRIVE_FAULT raised. -/
def driveFault (s : State) : State := raise .driveFault (sendStop (abandonCollection (haltCarriage s)))

/-- A drive status taken by the frame controller (R92). -/
def takeDriveStatus (d : DriveStatus) (s : State) : State :=
  let s := { s with frame := { s.frame with lastDrive := some d } }
  match s.frame.carriage with
  | .unreferenced =>
    if d.fault then raise .driveFault (sendStop s)
    else if d.referenced then startSilence (goPark s)
    else s
  | .halted => raiseIf (isDriveFault d) .driveFault s
  | .parking | .parked | .standardizing | .traverse _ _ | .fixed _ | .probing _ =>
    if isDriveFault d then driveFault s else s

/-- DRIVE_STATUS (R92). -/
def execDriveStatus (d : DriveStatus) (s : State) : Result :=
  .next (settle (takeDriveStatus d (carriageDelivered s)))

/-- A PASS_UP payload joining the pass-up queue, or dropped at a full one (R192). -/
def queuePassUp (payload : List Byte) (s : State) : State :=
  if s.mill.passUp.length < Config.passCapacity then
    { s with mill := { s.mill with passUp := s.mill.passUp ++ [payload] } }
  else raise .linkError (countPassDropped s)

/-- PASS_UP (R192). -/
def execPassUp (payload : List Byte) (s : State) : Result := .next (settle (queuePassUp payload (carriageDelivered s)))

/-! ### Mill link arrival and receivers -/

/-- A mill-link frame has been delivered, and the receiver hunts for the next (R191; log 10). -/
def millDelivered (s : State) : State := { s with mill := { s.mill with receiver := .hunting } }

/-- A COMMAND frame joining the inbound queue, or discarded at a full one (R178). -/
def queueCommand (f : CommandFrame) (s : State) : State :=
  if s.handler.inbound.length < Config.inboundCapacity then
    { s with handler := { s.handler with inbound := s.handler.inbound ++ [f] } }
  else raise .linkError (countCommandDropped s)

/-- COMMAND (R178). -/
def execCommand (f : CommandFrame) (s : State) : Result := .next (settle (queueCommand f (millDelivered s)))

/-- The receiver of a link set (R191). -/
def setReceiver (l : Link) (r : Receiver) (s : State) : State :=
  match l with
  | .carriage => { s with port := { s.port with receiver := r } }
  | .mill => { s with mill := { s.mill with receiver := r } }

/-- The receiver of a link (R191). -/
def receiverOf (l : Link) (s : State) : Receiver :=
  match l with
  | .carriage => s.port.receiver
  | .mill => s.mill.receiver

/-- FRAME_CHECK_FAILURE (R191): counted on its link, LINK_ERROR raised, the receiver HUNTING; whichever check failed, the
effect is the same. -/
def execFrameCheckFailure (l : Link) (_failure : CheckFailure) (s : State) : Result :=
  .next (settle (raise .linkError (countCheckFailure l (setReceiver l .hunting s))))

/-- SYNC_PAIR_FOUND (R191): a HUNTING receiver enters COLLECTING. -/
def execSyncPairFound (l : Link) (s : State) : Result :=
  .next (if receiverOf l s = .hunting then setReceiver l .collecting s else s)

/-! ### Transmitters (R192, R193) -/

/-- The mill-link transmitter starting a frame (R191). -/
def startMill (kind : Byte) (payload : List Byte) (s : State) : State :=
  { s with mill := { s.mill with transmitter := s.mill.transmitter.start kind payload } }

/-- The arbiter takes the first non-empty source and starts its frame (R193); a response sent frees the handler (R177). -/
def arbitrate (s : State) : State :=
  match s.conditions.alarms, s.mill.response, s.mill.passUp, s.mill.reports, s.mill.stream with
  | a :: rest, _, _, _, _ => startMill 0x32#8 a.payload { s with conditions := { s.conditions with alarms := rest } }
  | [], some r, _, _, _ =>
    startMill 0x31#8 r.payload { s with
      mill := { s.mill with response := none }
      handler := { s.handler with current := none, phase := .ready } }
  | [], none, p :: rest, _, _ => startMill 0x04#8 p { s with mill := { s.mill with passUp := rest } }
  | [], none, [], f :: rest, _ => startMill 0x33#8 f.payload { s with mill := { s.mill with reports := rest } }
  | [], none, [], [], some f => startMill 0x34#8 f.payload { s with mill := { s.mill with stream := none } }
  | [], none, [], [], none => s

/-- MILL_TRANSMIT (R193): when the mill-link transmitter is idle. -/
def execMillTransmit (s : State) : Result := .next (if s.mill.transmitter.sending.isNone then arbitrate s else s)

/-- MILL_FRAME_COMPLETED (R193): the transmitter completes its frame and becomes idle. -/
def execMillFrameCompleted (s : State) : Result :=
  .next { s with mill := { s.mill with transmitter := { s.mill.transmitter with sending := none } } }

/-- CARRIAGE_TRANSMIT (R192): when the carriage transmitter is idle. -/
def execCarriageTransmit (s : State) : Result := .next { s with port := s.port.transmit }

/-- CARRIAGE_FRAME_COMPLETED (R192): the transmitter completes its frame and becomes idle. -/
def execCarriageFrameCompleted (s : State) : Result :=
  .next { s with port := { s.port with transmitter := { s.port.transmitter with sending := none } } }

/-! ### Timer expiries -/

/-- A collection ended by silence: abandoned with STD_ABORT (R37). -/
def abortCollection (s : State) : State :=
  match s.standardize.collection with
  | none => s
  | some _ => raise .stdAbort (abandonCollection s)

/-- The halt of a silence or a stall: HALTED entered, STOP handed over, the condition raised (R110, R111, R112), and a
collection, which only a silence can find, ended with STD_ABORT after it (R37). -/
def haltFor (c : Condition) (s : State) : State := abortCollection (raise c (sendStop (haltCarriage s)))

/-- The silence timer's expiry taken (R110). -/
def silenceExpires (s : State) : State :=
  let s := { s with frame := { s.frame with silence := none } }
  match s.frame.carriage with
  | .parking | .standardizing | .traverse _ _ | .fixed _ | .probing _ => haltFor .carriageSilent s
  | .parked => raise .carriageSilent s
  | .unreferenced | .halted => s

/-- SILENCE_TIMER_EXPIRY (R110). -/
def execSilenceTimerExpiry (s : State) : Result :=
  .next (if timerDue s.frame.silence then settle (silenceExpires s) else s)

/-- Whether a MOVE has stalled: its current distance is greater than the reference distance minus 4 (R111). -/
def hasStalled (reference : Option Nat) (current : Nat) : Bool :=
  match reference with
  | some r => decide (r < current + Config.stallProgress)
  | none => false

/-- The stall timer's expiry taken (R111). -/
def stallExpires (t : StallTimer) (s : State) : State :=
  match s.frame.lastPosition, s.frame.target with
  | some p, some m =>
    let d := distance p m.position
    if hasStalled t.reference d then haltFor .driveStall s
    else { s with frame := { s.frame with stall := some ⟨.start s.tables.frame.stallPeriod, some d⟩ } }
  | _, _ => { s with frame := { s.frame with stall := some ⟨.start s.tables.frame.stallPeriod, t.reference⟩ } }

/-- STALL_TIMER_EXPIRY (R111). -/
def execStallTimerExpiry (s : State) : Result :=
  .next (match s.frame.stall with
    | some t => if t.timer.due then settle (stallExpires t s) else s
    | none => s)

/-- STD_TIMER_EXPIRY (R36): the standardize ends by timeout. -/
def execStdTimerExpiry (s : State) : Result :=
  .next (match s.standardize.collection with
    | some c => if c.timer.due then settle (standardizeEnded (raise .stdAbort (abandonCollection s))) else s
    | none => s)

/-- PROBE_TIMER_EXPIRY (R142). -/
def execProbeTimerExpiry (s : State) : Result :=
  .next (if timerDue s.watch.probe then probeRequest { s with watch := { s.watch with probe := none } } else s)

/-- PROBE_DWELL_EXPIRY (R145): sheet run count 0, a park request, and the probe timer started. -/
def execProbeDwellExpiry (s : State) : Result :=
  .next (if timerDue s.watch.dwell then
      startProbeTimer (parkRequest { s with watch := { s.watch with dwell := none, sheetRun := 0 } })
    else s)

/-- The end of a break (R147): SHEET_ON with the break run count 0, RESTORED raised, then park request, standardize request
and start request as the settings say. A run that stood is held for a declaration of the same moment (R148; log 36). -/
def endBreak (s : State) : State :=
  let held := if detectorActive s then some s.watch.breakRun else none
  let s := quietRuns { s with watch := { s.watch with state := .sheetOn, breakRun := 0, holdOff := none } }
  let s := raise .restored s
  let s := if parkMode s then parkRequest s else s
  let s := if s.tables.sheet.standardizeAfter then setRequest s else s
  let s := if s.tables.sheet.autoResume then startRequest s else s
  { s with watch := { s.watch with heldRun := held } }

/-- HOLD_OFF_EXPIRY (R147). -/
def execHoldOffExpiry (s : State) : Result := .next (if timerDue s.watch.holdOff then settle (endBreak s) else s)

/-! ### Close-out phases -/

/-- The close-out engine set to a phase. -/
def setEngine (e : Engine) (s : State) : State := { s with closeOut := { s.closeOut with engine := e } }

/-- MEANS_COMPLETE (R69). -/
def execMeansComplete (s : State) : Result :=
  .next (match s.closeOut.engine with
    | .means bank p => setEngine (.filter bank p (computeMeans bank p)) s
    | _ => s)

/-- FILTER completed: the records written at once, SHORT_SCAN raised if a profiled channel is SHORT (R71 to R75). -/
def completeFilter (bank : Bank) (p : ClosingParams) (m : MeansResults) (s : State) : State :=
  raiseIf (anyShort m) .shortScan
    (setEngine (.stats bank p m) { s with profile := filterProfile p m s.profile })

/-- FILTER_COMPLETE (R75). -/
def execFilterComplete (s : State) : Result :=
  .next (match s.closeOut.engine with
    | .filter bank p m => settle (completeFilter bank p m s)
    | _ => s)

/-- STATS_COMPLETE (R77). -/
def execStatsComplete (s : State) : Result :=
  .next (match s.closeOut.engine with
    | .stats bank p m => setEngine (.monitors bank p m (computeStats m s.profile.records)) s
    | _ => s)

/-- MONITORS completed: every evaluated monitor written at once, MON_TRIP and MON_INVALID raised once each if there was
cause (R161). -/
def completeMonitors (bank : Bank) (p : ClosingParams) (m : MeansResults) (st : StatsResults) (s : State) : State :=
  let results := handedOver m st s.profile.records
  let mons := s.monitors.map (Monitor.evaluate (nextScan s) results)
  let s' := setEngine (.report bank p m st (monitorResults results mons)) { s with monitors := mons }
  raiseIf (mons.any (invalidNow results)) .monInvalid
    (raiseIf ((List.zipWith tripsNow s.monitors mons).any id) .monTrip s')

/-- MONITORS_COMPLETE (R161). -/
def execMonitorsComplete (s : State) : Result :=
  .next (match s.closeOut.engine with
    | .monitors bank p m st => settle (completeMonitors bank p m st s)
    | _ => s)

/-- REPORT completed (R83, R85, R87): scan number, last good edges, trend record, report, note taken, counter; then IDLE,
and a waiting profile action applied (R86). -/
def completeReport (bank : Bank) (p : ClosingParams) (m : MeansResults) (st : StatsResults) (mons : List MonitorResult)
    (s : State) : State :=
  let scan := nextScan s
  let trend := trendRecord scan s.profile.note p m st
  let s := placeReport (profileReport scan bank p m st mons s.profile) s
  let s := { s with
    closeOut := ⟨.idle, scan⟩
    binning := { s.binning with
      lastGood := if p.edges.lost then s.binning.lastGood else some ⟨p.edges.front, p.edges.back⟩ }
    profile := { s.profile with note := none, trend := appendTrend s.profile.trend trend }
    standardize := { s.standardize with counter := saturate 255 (s.standardize.counter + 1) } }
  checkDue (applyPending s)

/-- REPORT_COMPLETE (R85). -/
def execReportComplete (s : State) : Result :=
  .next (match s.closeOut.engine with
    | .report bank p m st mons => completeReport bank p m st mons s
    | _ => s)

end Sys2Proof.Machine
end

