-- ==== Sys2Proof/Machine/Commands.lean ====
section
/-! DEFINITION. The meanings of the rows that the command handler takes from its queue: each is the handler's one procedure
(serve: R177, R179, R180) over the row's argument form and its owner's rule. -/
namespace Sys2Proof.Machine

/-- READ_STATUS (R185). -/
def execReadStatus (s : State) : Result := .next (serve .readStatus noArgs readStatus s)

/-- READ_TABLE (R182). -/
def execReadTable (s : State) : Result := .next (serve .readTable readArgs readTable s)

/-- WRITE_TABLE_CURVE (R10, R18). -/
def execWriteTableCurve (s : State) : Result := .next (serve .writeCurve (afterRegion curveArgs) writeCurve s)

/-- WRITE_TABLE_BIAS (R12, R18). -/
def execWriteTableBias (s : State) : Result := .next (serve .writeBias (afterRegion biasArgs) writeBias s)

/-- WRITE_TABLE_STDF (R18). -/
def execWriteTableStdf (s : State) : Result := .next (serve .writeStdf (afterRegion stdfArgs) writeStdf s)

/-- WRITE_TABLE_MAP (R43). -/
def execWriteTableMap (s : State) : Result := .next (serve .writeMap (afterRegion mapArgs) writeMap s)

/-- WRITE_TABLE_MONITOR (R151). -/
def execWriteTableMonitor (s : State) : Result := .next (serve .writeMonitor (afterRegion monitorArgs) writeMonitor s)

/-- WRITE_TABLE_SHEET (R132). -/
def execWriteTableSheet (s : State) : Result := .next (serve .writeSheet (afterRegion sheetArgs) writeSheet s)

/-- WRITE_TABLE_FRAME (R89). -/
def execWriteTableFrame (s : State) : Result := .next (serve .writeFrame (afterRegion frameArgs) writeFrame s)

/-- WRITE_TABLE_CHANNEL (R6, R23). -/
def execWriteTableChannel (s : State) : Result := .next (serve .writeChannel (afterRegion channelArgs) writeChannel s)

/-- WRITE_TABLE_SLOT_HEADER (R129). -/
def execWriteTableSlotHeader (s : State) : Result := .next (serve .writeSlotHeader (afterRegion slotHeaderArgs) writeSlotHeader s)

/-- WRITE_TABLE_SLOT_IMAGE (R130). -/
def execWriteTableSlotImage (s : State) : Result := .next (serve .writeSlotImage (afterRegion slotImageArgs) writeSlotImage s)

/-- LOCK_CALIBRATION (R21). -/
def execLockCalibration (s : State) : Result := .next (serve .lockCalibration noArgs lockCalibration s)

/-- PUSH_CONTEXT (R114). -/
def execPushContext (s : State) : Result := .next (settle (serve .pushContext contextArgs pushContext s))

/-- FLUSH_QUEUE (R116). -/
def execFlushQueue (s : State) : Result := .next (serve .flushQueue noArgs flushQueue s)

/-- START_SCAN (R97). -/
def execStartScan (s : State) : Result := .next (serve .startScan noArgs startCommand s)

/-- STOP_SCAN (R102). -/
def execStopScan (s : State) : Result := .next (serve .stopScan noArgs stopCommand s)

/-- PARK (R96). -/
def execPark (s : State) : Result := .next (serve .park noArgs parkCommand s)

/-- RESUME (R107). -/
def execResume (s : State) : Result := .next (serve .resume noArgs resumeCommand s)

/-- FIXED_POINT (R104). -/
def execFixedPoint (s : State) : Result := .next (serve .fixedPoint twoBytes fixedPointCommand s)

/-- STANDARDIZE (R25). -/
def execStandardize (s : State) : Result := .next (serve .standardize noArgs standardizeCommand s)

/-- READ_FIXED (R106). -/
def execReadFixed (s : State) : Result := .next (serve .readFixed oneByte readFixed s)

/-- READ_PROFILE (R81). -/
def execReadProfile (s : State) : Result := .next (serve .readProfile oneByte readProfile s)

/-- READ_TREND (R84). -/
def execReadTrend (s : State) : Result := .next (serve .readTrend oneByte readTrend s)

/-- SAVE_PROFILE (R126). -/
def execSaveProfile (s : State) : Result := .next (serve .saveProfile slotTag saveProfile s)

/-- RESTORE_PROFILE (R127). -/
def execRestoreProfile (s : State) : Result := .next (serve .restoreProfile oneByte restoreProfile s)

/-- CLEAR_PROFILE (R128). -/
def execClearProfile (s : State) : Result := .next (serve .clearProfile noArgs clearProfile s)

/-- SHEET_NOTICE (R136). -/
def execSheetNotice (s : State) : Result := .next (settle (serve .sheetNotice oneByte sheetNotice s))

/-- ACK_ALARM (R170). -/
def execAckAlarm (s : State) : Result := .next (serve .ackAlarm noArgs ackAlarm s)

/-- CLEAR_CONDITIONS (R171). -/
def execClearConditions (s : State) : Result := .next (serve .clearConditions threeBytes clearConditions s)

/-- SET_MASK (R172). -/
def execSetMask (s : State) : Result := .next (serve .setMask threeBytes setMask s)

/-- CLEAR_COUNTERS (R175). -/
def execClearCounters (s : State) : Result := .next (serve .clearCounters noArgs clearCounters s)

/-- SET_STREAM (R188). -/
def execSetStream (s : State) : Result := .next (serve .setStream twoBytes setStream s)

/-- PASS_DOWN (R190). -/
def execPassDown (s : State) : Result := .next (settle (serve .passDown passPayload passDown s))

/-- RESTART (R186). -/
def execRestart (s : State) : Result := .next (serve .restart noArgs restartCommand s)

/-- UNKNOWN_COMMAND_CODE (R179 step 1): no argument form, so always MALFORMED. -/
def execUnknownCommandCode (s : State) : Result := .next (serve .unknownCode (fun _ => none) (fun (_ : Unit) t => accept t) s)

/-- WRITE_TABLE_UNKNOWN_REGION (R183). -/
def execWriteTableUnknownRegion (s : State) : Result := .next (serve .writeUnknownRegion anyRegion writeUnknownRegion s)

end Sys2Proof.Machine
end

