-- ==== Sys2Proof/Machine/Dispatch.lean ====
section
/-! DEFINITION. One arm per row of spec/opcode_table.json, each a direct call of the row's meaning. -/
namespace Sys2Proof.Machine

def exec (i : Instr) (s : State) : Host.Outcome State Fault Refusal :=
  match i with
  | .powerOnReset => Sys2Proof.Machine.execPowerOnReset s
  | .sample f => Sys2Proof.Machine.execSample f s
  | .headAnnounce fitted => Sys2Proof.Machine.execHeadAnnounce fitted s
  | .driveStatus d => Sys2Proof.Machine.execDriveStatus d s
  | .passUp payload => Sys2Proof.Machine.execPassUp payload s
  | .command f => Sys2Proof.Machine.execCommand f s
  | .frameCheckFailure link failure => Sys2Proof.Machine.execFrameCheckFailure link failure s
  | .millTransmit => Sys2Proof.Machine.execMillTransmit s
  | .carriageTransmit => Sys2Proof.Machine.execCarriageTransmit s
  | .silenceTimerExpiry => Sys2Proof.Machine.execSilenceTimerExpiry s
  | .stallTimerExpiry => Sys2Proof.Machine.execStallTimerExpiry s
  | .stdTimerExpiry => Sys2Proof.Machine.execStdTimerExpiry s
  | .probeTimerExpiry => Sys2Proof.Machine.execProbeTimerExpiry s
  | .probeDwellExpiry => Sys2Proof.Machine.execProbeDwellExpiry s
  | .holdOffExpiry => Sys2Proof.Machine.execHoldOffExpiry s
  | .meansComplete => Sys2Proof.Machine.execMeansComplete s
  | .filterComplete => Sys2Proof.Machine.execFilterComplete s
  | .statsComplete => Sys2Proof.Machine.execStatsComplete s
  | .monitorsComplete => Sys2Proof.Machine.execMonitorsComplete s
  | .reportComplete => Sys2Proof.Machine.execReportComplete s
  | .readStatus => Sys2Proof.Machine.execReadStatus s
  | .readTable => Sys2Proof.Machine.execReadTable s
  | .writeTableCurve => Sys2Proof.Machine.execWriteTableCurve s
  | .writeTableBias => Sys2Proof.Machine.execWriteTableBias s
  | .writeTableStdf => Sys2Proof.Machine.execWriteTableStdf s
  | .writeTableMap => Sys2Proof.Machine.execWriteTableMap s
  | .writeTableMonitor => Sys2Proof.Machine.execWriteTableMonitor s
  | .writeTableSheet => Sys2Proof.Machine.execWriteTableSheet s
  | .writeTableFrame => Sys2Proof.Machine.execWriteTableFrame s
  | .writeTableChannel => Sys2Proof.Machine.execWriteTableChannel s
  | .writeTableSlotHeader => Sys2Proof.Machine.execWriteTableSlotHeader s
  | .writeTableSlotImage => Sys2Proof.Machine.execWriteTableSlotImage s
  | .lockCalibration => Sys2Proof.Machine.execLockCalibration s
  | .pushContext => Sys2Proof.Machine.execPushContext s
  | .flushQueue => Sys2Proof.Machine.execFlushQueue s
  | .startScan => Sys2Proof.Machine.execStartScan s
  | .stopScan => Sys2Proof.Machine.execStopScan s
  | .park => Sys2Proof.Machine.execPark s
  | .resume => Sys2Proof.Machine.execResume s
  | .fixedPoint => Sys2Proof.Machine.execFixedPoint s
  | .standardize => Sys2Proof.Machine.execStandardize s
  | .readFixed => Sys2Proof.Machine.execReadFixed s
  | .readProfile => Sys2Proof.Machine.execReadProfile s
  | .readTrend => Sys2Proof.Machine.execReadTrend s
  | .saveProfile => Sys2Proof.Machine.execSaveProfile s
  | .restoreProfile => Sys2Proof.Machine.execRestoreProfile s
  | .clearProfile => Sys2Proof.Machine.execClearProfile s
  | .sheetNotice => Sys2Proof.Machine.execSheetNotice s
  | .ackAlarm => Sys2Proof.Machine.execAckAlarm s
  | .clearConditions => Sys2Proof.Machine.execClearConditions s
  | .setMask => Sys2Proof.Machine.execSetMask s
  | .clearCounters => Sys2Proof.Machine.execClearCounters s
  | .setStream => Sys2Proof.Machine.execSetStream s
  | .passDown => Sys2Proof.Machine.execPassDown s
  | .restart => Sys2Proof.Machine.execRestart s
  | .millisecondTick => Sys2Proof.Machine.execMillisecondTick s
  | .syncPairFound link => Sys2Proof.Machine.execSyncPairFound link s
  | .millFrameCompleted => Sys2Proof.Machine.execMillFrameCompleted s
  | .carriageFrameCompleted => Sys2Proof.Machine.execCarriageFrameCompleted s
  | .unknownCommandCode => Sys2Proof.Machine.execUnknownCommandCode s
  | .writeTableUnknownRegion => Sys2Proof.Machine.execWriteTableUnknownRegion s

end Sys2Proof.Machine
end

