-- ==== Sys2Proof/Safety.lean ====
section
/-! DEFINITION. What counts as a safe run: no step faults or is refused, and the invariants that tie the blocks of the part
together hold. Each invariant stands on its own; the forms in which statements speak of the command handler stand here
too. -/
namespace Sys2Proof.Machine

/-! ### Steps that stop -/

/-- A step that is neither a fault nor a refusal. -/
def Completes (o : Host.Outcome State Fault Refusal) : Prop := ∃ t, o = .next t

/-! ### The carriage and what goes with its state (chapters 1 to 5) -/

/-- The direction of TRAVERSE SCANNING, none in every other state. -/
def Carriage.scanningDirection : Carriage → Option Direction
  | .traverse .scanning d => some d
  | _ => none

/-- TRAVERSE with sub-state POSITIONING. -/
def Carriage.isPositioning : Carriage → Bool
  | .traverse .positioning _ => true
  | _ => false

/-- The states with a MOVE outstanding (R91, R94): on the way to park, to a limit, to a fixed point, to the probe
position. -/
def Carriage.hasMove : Carriage → Bool
  | .parking | .traverse _ _ | .fixed .moving | .probing .moving => true
  | .unreferenced | .parked | .standardizing | .fixed .dwelling | .probing .dwelling | .halted => false

/-- The states in which the scan-on flag may be set (R96, R97, R102, R104, R109, R112). -/
def Carriage.mayBeScanOn : Carriage → Bool
  | .parking | .standardizing | .traverse _ _ => true
  | .unreferenced | .parked | .fixed _ | .probing _ | .halted => false

/-- What the carriage state says of the other blocks: a traverse is open exactly in SCANNING and in its direction (R46,
R52), a collection runs exactly in STANDARDIZING (R29), a move target and a running stall timer stand exactly while a
MOVE is outstanding (R91), the silence timer is idle in UNREFERENCED and HALTED (R110), and in PARKED no standardize
request waits (R95). -/
abbrev CarriageCoupled (s : State) : Prop :=
  s.binning.openTraverse.map OpenTraverse.direction = s.frame.carriage.scanningDirection ∧
  s.standardize.collection.isSome = (s.frame.carriage == .standardizing) ∧
  s.frame.target.isSome = s.frame.carriage.hasMove ∧
  s.frame.stall.isSome = s.frame.target.isSome ∧
  (s.frame.silence.isSome = true → s.frame.carriage ≠ .unreferenced ∧ s.frame.carriage ≠ .halted) ∧
  (s.frame.carriage = .parked → s.standardize.request = false)

/-- The map that a context names is loaded (R114). -/
def mapLoaded (t : Tables) (c : Context) : Bool := (t.map c.map).isSome

/-- What scanning rests on: the scan-on flag stands only where it may and only with a governing context (R97, R107, R116),
an approach only under the scan-on flag (R98, R102), an open traverse only with a context in effect and limits (R99), and
every context held names a loaded map (R46, R114). -/
abbrev ScanGoverned (s : State) : Prop :=
  (s.frame.scanOn = true → (governing s).isSome = true ∧ s.frame.carriage.mayBeScanOn = true) ∧
  (s.frame.carriage.isPositioning = true → s.frame.scanOn = true) ∧
  (s.frame.carriage.isScanning = true → s.contexts.inEffect.isSome = true ∧ s.frame.limits.isSome = true) ∧
  s.contexts.queue.all (mapLoaded s.tables) = true ∧ s.contexts.inEffect.all (mapLoaded s.tables) = true

/-! ### The break watch (chapter 7) -/

/-- A run that is not being counted is 0 (R134, R146), a run is held in SHEET_ON alone and beside a count of 0 (log 36),
the hold-off timer runs exactly in THREADING (R144, R147), and the probe timers run in SHEET_OFF alone (R141, R143,
R144). -/
abbrev WatchQuiet (s : State) : Prop :=
  (detectorActive s = false → s.watch.breakRun = 0) ∧
  (s.watch.heldRun.isSome = true → s.watch.state = .sheetOn ∧ s.watch.breakRun = 0 ∧
    (detectorActive s = true ∨ s.frame.carriage = .parking)) ∧
  (sheetCounting s = false → s.watch.sheetRun = 0) ∧
  s.watch.holdOff.isSome = (s.watch.state == .threading) ∧
  ((s.watch.probe.isSome || s.watch.dwell.isSome) = true → s.watch.state = .sheetOff)

/-! ### Capacities (R50, R70, R83, R105, R115, R150, R167, R174, R178, R188 to R193) -/

/-- Every counter is at most 65535 (R174). -/
def Counters.bounded (c : Counters) : Bool := c.list.all (fun n => decide (n ≤ Config.counterMax))

/-- No fixed-point window holds more than 64 values (R105). -/
def windowsBounded (w : PerProfile (List Nat)) : Bool :=
  ProfileChannel.all.all (fun c => decide ((w.get c).length ≤ Config.windowCapacity))

/-- The number of ABANDONED notices in the report buffer (R193). -/
def noticeCount (l : List ReportFrame) : Nat := l.countP (fun f => !f.isProfile)

/-- Every accumulator of a bank has counted at most 4095 values (R50). -/
def bankBounded (b : Bank) : Bool :=
  b.all (fun a => ProfileChannel.all.all (fun c => decide ((a.get c).count ≤ Config.accumulatorMax)))

/-- The CLOSING bank of a close-out in flight, and no accumulators while the engine is IDLE (4.1). -/
def Engine.bank : Engine → Bank
  | .idle => []
  | .means b _ | .filter b _ _ | .stats b _ _ | .monitors b _ _ _ | .report b _ _ _ _ => b

/-- No slice record has an age above 15 (R70). -/
def agesBounded (p : PerProfile (List SliceRecord)) : Bool :=
  ProfileChannel.all.all (fun c => (p.get c).all (fun r => decide (r.age ≤ 15)))

/-- The edge finder's run count stays below M, at most 15, until the run of M in LEFT (3.4, R54). -/
def EdgeFinder.bounded (e : EdgeFinder) : Bool := decide (e.runCount ≤ if e.phase = .left then 15 else 14)

/-- Every queue, ring, window and buffer within its capacity, eight monitors and four save slots, and no raising left
over. -/
abbrev QueuesBounded (s : State) : Prop :=
  s.handler.inbound.length ≤ Config.inboundCapacity ∧ s.conditions.alarms.length ≤ Config.alarmCapacity ∧
  s.contexts.queue.length ≤ Config.contextCapacity ∧ s.mill.passUp.length ≤ Config.passCapacity ∧
  s.port.passDown.length ≤ Config.passCapacity ∧ s.profile.trend.length ≤ Config.trendCapacity ∧
  windowsBounded s.frame.windows = true ∧ noticeCount s.mill.reports ≤ 1 ∧
  s.mill.reports.countP ReportFrame.isProfile ≤ 4 ∧
  s.monitors.length = 8 ∧ s.profile.slots.length = 4 ∧ s.conditions.raised = []

/-- Every count and number within its range: the counters, the standardize counter, the scan number, the clock, the frame
numbers, the accumulators, the monitor counts, the slice ages, the run counts with the settings that bound them, and the
decimation with its count. -/
abbrev CountsBounded (s : State) : Prop :=
  s.conditions.counters.bounded = true ∧ s.standardize.counter ≤ 255 ∧ s.closeOut.scanNumber ≤ 65535 ∧
  s.clock < 4294967296 ∧ s.mill.transmitter.next ≤ 255 ∧ s.port.transmitter.next ≤ 255 ∧
  s.binning.openTraverse.all (fun t => bankBounded t.bank && t.finder.bounded) = true ∧
  bankBounded s.closeOut.engine.bank = true ∧ s.monitors.all (fun m => decide (m.count ≤ 15)) = true ∧
  agesBounded s.profile.records = true ∧ s.watch.breakRun ≤ 255 ∧ s.watch.heldRun.all (fun k => decide (k ≤ 255)) = true ∧
  s.watch.sheetRun ≤ 255 ∧
  s.tables.sheet.nBreak ≤ 255 ∧ s.tables.sheet.m ≤ 15 ∧
  s.mill.decimation ≤ 255 ∧ s.mill.decimationCount ≤ 254

/-- Everything that is counted or queued stands within its range (R26, R50, R70, R83, R105, R115, R150, R167, R174, R178,
R188, R190 to R193; 3.4, 7.1, 8.1). -/
abbrev WithinCapacity (s : State) : Prop := QueuesBounded s ∧ CountsBounded s

/-! ### The command handler (R177) -/

/-- The handler is READY with nothing in hand and an empty response slot, or it has ANSWERED its current command and the
response slot holds that command's response (R177, R180). -/
abbrev HandlerAnswers (s : State) : Prop :=
  match s.handler.phase, s.handler.current, s.mill.response with
  | .ready, none, none => True
  | .answered, some f, some r => r.sequence = f.sequence ∧ r.code = f.code
  | _, _, _ => False

/-! ### The tables (R10, R12, R17, R18, R43, R132, R184) -/

/-- A curve record that R10 admits for a channel of this maximum. -/
def Curve.valid (top : Nat) (c : Curve) : Bool :=
  between 2 12 (c.rest.length + 1) && strictlyRising ((c.first :: c.rest).map CurvePoint.r) &&
  (c.first :: c.rest).all (fun p => decide (p.r ≤ 65535) && decide (p.e ≤ top)) &&
  between 1 65535 c.rRef && decide (c.driftLimit ≤ 5000)

/-- The four curve records, each absent or valid (1.5). -/
def curvesValid (p : PerMeasured (Option Curve)) : Bool :=
  p.bw.all (Curve.valid measuredMax.bw) && p.mo.all (Curve.valid measuredMax.mo) &&
  p.ca.all (Curve.valid measuredMax.ca) && p.tr.all (Curve.valid measuredMax.tr)

/-- Eight bias entries with biases in range (R12). -/
def biasesValid (l : List BiasEntry) : Bool :=
  decide (l.length = 8) && l.all (fun b => decide (-2000 ≤ b.bias) && decide (b.bias ≤ 2000))

/-- Four factors in range (R17, R18). -/
def factorsValid (p : PerMeasured Nat) : Bool :=
  between 8192 32767 p.bw && between 8192 32767 p.mo && between 8192 32767 p.ca && between 8192 32767 p.tr

/-- A map record that R43 admits. -/
def MapRecord.valid (r : MapRecord) : Bool :=
  between 1 65535 r.id && between 8 480 r.sliceCount && decide (r.boundaries.length = r.sliceCount + 1) &&
  r.boundaries.all (fun b => decide (b ≤ Config.maxPosition)) && strictlyRising r.boundaries &&
  r.fixedRange.all (fun p => decide (p.1 ≤ p.2) && decide (p.2 < r.sliceCount))

/-- Both copies of a region pass a test, and both generations are 16-bit numbers (R17). -/
def Region.valid {α : Type} (test : α → Bool) (r : Region α) : Bool :=
  test r.staged && test r.inEffect && decide (r.stagedGen ≤ 65535) && decide (r.inEffectGen ≤ 65535)

/-- SHEET settings within their ranges (7.1, 3.4). -/
def SheetSettings.valid (t : SheetSettings) : Bool :=
  decide (t.trBreak ≤ 1000) && between 1 255 t.nBreak && between 5 600 t.probeInterval && between 1 30 t.probeDwell &&
  between 1 120 t.holdOff && decide (t.trPresent ≤ 1000) && between 1 15 t.m

/-- Table memory holds only what its rules admit, and a channel that is not fitted has stored enable 0 (R2, R6). -/
abbrev TablesValid (s : State) : Prop :=
  s.tables.curve.valid curvesValid = true ∧ s.tables.bias.valid biasesValid = true ∧
  s.tables.stdf.valid factorsValid = true ∧ s.tables.mapA.all MapRecord.valid = true ∧
  s.tables.mapB.all MapRecord.valid = true ∧ s.tables.sheet.valid = true ∧ validFrame s.tables.frame = true ∧
  (s.tables.enables.bw = true → s.conditioner.fitted.bw = true) ∧
  (s.tables.enables.mo = true → s.conditioner.fitted.mo = true) ∧
  (s.tables.enables.ca = true → s.conditioner.fitted.ca = true)

/-! ### Slices everywhere alike (R46, R48, R70, R125) -/

/-- Every profile channel's list has n members. -/
def allLengths {α : Type} (n : Nat) (p : PerProfile (List α)) : Bool :=
  ProfileChannel.all.all (fun c => decide ((p.get c).length = n))

/-- Every list that is present has n members. -/
def optLengths {α : Type} (n : Nat) (p : PerProfile (Option (List α))) : Bool :=
  ProfileChannel.all.all (fun c => (p.get c).all (fun l => decide (l.length = n)))

/-- A map record with one boundary more than slices (3.1). -/
def MapRecord.shaped (r : MapRecord) : Bool := decide (r.boundaries.length = r.sliceCount + 1)

/-- A bank and the map it was cleared for: an accumulator for every slice (R48). -/
def bankShaped (r : MapRecord) (b : Bank) : Bool := r.shaped && decide (b.length = r.sliceCount)

/-- Results of MEANS with an outcome for every slice (R67). -/
def MeansResults.shaped (n : Nat) (m : MeansResults) : Bool :=
  decide (m.excluded.length = n) &&
  ProfileChannel.all.all (fun c => (m.channels.get c).all (fun cm => decide (cm.slices.length = n)))

/-- A close-out in flight whose bank and results have its map's slices (4.1). -/
def Engine.shaped : Engine → Bool
  | .idle => true
  | .means b p => bankShaped p.map.record b
  | .filter b p m | .stats b p m | .monitors b p m _ | .report b p m _ _ =>
    bankShaped p.map.record b && m.shaped p.map.record.sliceCount

/-- A save slot whose images have its slice count (6.4). -/
def SaveSlot.shaped (x : SaveSlot) : Bool := optLengths x.sliceCount x.images

/-- Whatever is held per slice is held for exactly the slices of its map: records of the profile map, none without one,
banks, results and saved images (R48, R67, R70, R125). -/
abbrev SlicesAgree (s : State) : Prop :=
  s.tables.mapA.all MapRecord.shaped = true ∧ s.tables.mapB.all MapRecord.shaped = true ∧
  s.binning.openTraverse.all (fun t => bankShaped t.map.record t.bank) = true ∧
  s.closeOut.engine.shaped = true ∧
  allLengths ((s.profile.map.map MapIdentity.sliceCount).getD 0) s.profile.records = true ∧
  s.profile.slots.all (fun x => x.all SaveSlot.shaped) = true

/-! ### Forms of statements about commands -/

/-- The command handler is READY and `f` is the oldest frame of its queue, `rest` the frames after it (R177). -/
def AtHand (f : CommandFrame) (rest : List CommandFrame) (s : State) : Prop :=
  s.handler.phase = .ready ∧ s.handler.inbound = f :: rest

/-- The state in which the handler has taken `f` from its queue and executes it (R177). -/
def State.taken (s : State) (f : CommandFrame) (rest : List CommandFrame) : State :=
  { s with handler := ⟨rest, some f, .executing⟩ }

/-- The state in which the handler has answered `f`: it has left the queue and is the current command, and the response
slot holds status and result with its sequence and code echoed (R177, R180). -/
def State.answered (s : State) (f : CommandFrame) (rest : List CommandFrame) (status : Status) (result : List Byte) :
    State :=
  { s with
    handler := ⟨rest, some f, .answered⟩
    mill := { s.mill with response := some ⟨f.sequence, f.code, status, result⟩ } }

/-- What a MOVE leaves that goes with a change of the carriage to a state on the way somewhere, in which no run is counted
(R91, R134, R146): the MOVE handed to the port, the move target, the stall timer with its reference distance, and the
state itself. -/
def State.moving (s : State) (c : Carriage) (target speed : Nat) : State :=
  { s with
    port := s.port.handDrive (.move target speed)
    frame := { s.frame with
      carriage := c
      target := some ⟨target, speed⟩
      stall := some ⟨⟨s.tables.frame.stallPeriod, 0⟩, s.frame.lastPosition.map (fun p => (target - p) + (p - target))⟩ }
    watch := { s.watch with breakRun := 0, heldRun := none, sheetRun := 0 } }

/-- What a halt leaves with no traverse open and no collection running (R112, R166): HALTED with STOP handed over, no MOVE
outstanding, the timers idle, scan-on clear, the expectation absent, and the condition taken by the condition unit. -/
def State.haltedBy (s : State) (c : Condition) : State :=
  { s with
    port := s.port.handDrive .stop
    frame := { s.frame with carriage := .halted, scanOn := false, target := none, silence := none, stall := none }
    conditioner := { s.conditioner with expected := none }
    watch := { s.watch with breakRun := 0, heldRun := none, sheetRun := 0 }
    conditions := s.conditions.take { alarmNow c s with carriage := .halted }
    choices := s.choices + 1 }

/-- The command of each row that the handler takes from its queue. -/
def CommandRow.command : CommandRow → Instr
  | .readStatus => .readStatus
  | .readTable => .readTable
  | .writeCurve => .writeTableCurve
  | .writeBias => .writeTableBias
  | .writeStdf => .writeTableStdf
  | .writeMap => .writeTableMap
  | .writeMonitor => .writeTableMonitor
  | .writeSheet => .writeTableSheet
  | .writeFrame => .writeTableFrame
  | .writeChannel => .writeTableChannel
  | .writeSlotHeader => .writeTableSlotHeader
  | .writeSlotImage => .writeTableSlotImage
  | .writeUnknownRegion => .writeTableUnknownRegion
  | .lockCalibration => .lockCalibration
  | .pushContext => .pushContext
  | .flushQueue => .flushQueue
  | .startScan => .startScan
  | .stopScan => .stopScan
  | .park => .park
  | .resume => .resume
  | .fixedPoint => .fixedPoint
  | .standardize => .standardize
  | .readFixed => .readFixed
  | .readProfile => .readProfile
  | .readTrend => .readTrend
  | .saveProfile => .saveProfile
  | .restoreProfile => .restoreProfile
  | .clearProfile => .clearProfile
  | .sheetNotice => .sheetNotice
  | .ackAlarm => .ackAlarm
  | .clearConditions => .clearConditions
  | .setMask => .setMask
  | .clearCounters => .clearCounters
  | .setStream => .setStream
  | .passDown => .passDown
  | .restart => .restart
  | .unknownCode => .unknownCommandCode

/-- Whether the arguments of a row have its form: the number of bytes and lists of the counts stated (R179 step 1, tables
11-8 to 11-10). An unknown code has no form. -/
def CommandRow.wellFormedArgs (row : CommandRow) (args : List Byte) : Bool :=
  match row with
  | .readTable => (readArgs args).isSome
  | .writeCurve => (afterRegion curveArgs args).isSome
  | .writeBias => (afterRegion biasArgs args).isSome
  | .writeStdf => (afterRegion stdfArgs args).isSome
  | .writeMap => (afterRegion mapArgs args).isSome
  | .writeMonitor => (afterRegion monitorArgs args).isSome
  | .writeSheet => (afterRegion sheetArgs args).isSome
  | .writeFrame => (afterRegion frameArgs args).isSome
  | .writeChannel => (afterRegion channelArgs args).isSome
  | .writeSlotHeader => (afterRegion slotHeaderArgs args).isSome
  | .writeSlotImage => (afterRegion slotImageArgs args).isSome
  | .writeUnknownRegion => (anyRegion args).isSome
  | .pushContext => (contextArgs args).isSome
  | .fixedPoint | .setStream => (twoBytes args).isSome
  | .readFixed | .readProfile | .readTrend | .restoreProfile | .sheetNotice => (oneByte args).isSome
  | .saveProfile => (slotTag args).isSome
  | .clearConditions | .setMask => (threeBytes args).isSome
  | .passDown => (passPayload args).isSome
  | .readStatus | .lockCalibration | .flushQueue | .startScan | .stopScan | .park | .resume | .standardize
  | .clearProfile | .ackAlarm | .clearCounters | .restart => args.isEmpty
  | .unknownCode => false

/-- The argument byte of a number as it stands in the frame, counted from 0; 0 beyond the last (tables 11-8 to 11-10). -/
def argByte (f : CommandFrame) (k : Nat) : Nat := (f.args.getD k 0#8).toNat

/-- The 2-byte field that begins at an argument byte, most significant byte first (R195). -/
def argWord (f : CommandFrame) (k : Nat) : Nat := 256 * argByte f k + argByte f (k + 1)

/-- The argument bytes of PUSH_CONTEXT for a context (table 11-10). -/
def Context.bytes (c : Context) : List Byte :=
  be16 c.tag ++ [byte c.map.code] ++ be16 c.front ++ be16 c.back ++ be16 c.speed ++ [byte c.nmin] ++ be16 c.weight ++
  [byte c.staleLimit, byte c.quorum, byte c.edgeWidth, byte c.interval, bitByte c.tracking.isSome,
   byte (match c.action with
     | .keep => 0
     | .clear => 1
     | .restore _ => 2)] ++
  (match c.tracking with
   | some g => be16 g
   | none => []) ++
  (match c.action with
   | .restore k => [byte k]
   | .keep | .clear => [])

end Sys2Proof.Machine
end

