-- ==== Sys2Proof/Certificates/Slice0/Obligations.lean ====
section
/-! DEFINITION. The statements for the provers, from the numbered rules of spec/: the machine as a whole, its links, its
measurement chain, its carriage and timers, and the mill computer's commands. OBLIGATIONS.json names the rules each rests
on. -/

open Sys2Proof Sys2Proof.Machine

/-! ### The machine as a whole -/

/-- A step executes the command at the front of the queue on the state with the queue's rest. With none waiting it idles
(the model's choice, log 2). -/
def Obligations.StepRunsTheFrontCommand : Prop :=
  ∀ (c : Instr) (q : List Instr) (s : State),
    step (s.withPending (c :: q)) = exec c (s.withPending q) ∧ step (s.withPending []) = .next (s.withPending [])

/-- Power-on reset gives every block the values its chapter states. -/
def Obligations.PowerOnResetGivesTheResetValues : Prop :=
  ∀ s : State, ∃ t : State, exec .powerOnReset s = .next t ∧
    t.conditioner = ⟨none, ⟨false, false, false, false⟩⟩ ∧
    t.tables.curve = ⟨⟨none, none, none, none⟩, ⟨none, none, none, none⟩, 0, 0⟩ ∧
    t.tables.bias = ⟨List.replicate 8 ⟨false, .bw, 0⟩, List.replicate 8 ⟨false, .bw, 0⟩, 0, 0⟩ ∧
    t.tables.stdf = ⟨⟨16384, 16384, 16384, 16384⟩, ⟨16384, 16384, 16384, 16384⟩, 0, 0⟩ ∧
    t.tables.locked = false ∧ t.tables.mapA = none ∧ t.tables.mapB = none ∧
    t.tables.sheet = ⟨.park, 900, 8, 30, 3, 10, true, false, 700, 3⟩ ∧
    t.tables.frame = ⟨0, 8000, 400, 100, 2000, 256, 5000⟩ ∧ t.tables.enables = ⟨false, false, false⟩ ∧
    t.standardize = ⟨false, 0, none⟩ ∧ t.binning = ⟨none, none⟩ ∧ t.closeOut = ⟨.idle, 0⟩ ∧
    t.profile = ⟨none, ⟨[], [], [], []⟩, none, none, [none, none, none, none], []⟩ ∧
    t.frame = ⟨.unreferenced, false, none, none, none, none, none, none, none, ⟨[], [], [], []⟩⟩ ∧
    t.contexts = ⟨[], none⟩ ∧ t.watch = ⟨.sheetOn, none, 0, 0, none, none, none, none⟩ ∧
    t.monitors = List.replicate 8 ⟨⟨false, .bw, .scanAvg, 0, 0, 1, .quiet⟩, 0, .armed, none, none, none⟩ ∧
    t.conditions.flags = 0 ∧ t.conditions.summary = false ∧ t.conditions.counters = ⟨0, 0, 0, 0, 0, 0, 0, 0⟩ ∧
    t.conditions.alarms = [] ∧
    (∀ c : Condition, t.conditions.isUnmasked c = true ↔
      c ∈ [.sheetBreak, .restored, .carriageSilent, .driveStall, .driveFault]) ∧
    t.handler = ⟨[], none, .ready⟩ ∧ t.mill.receiver = .hunting ∧ t.mill.passUp = [] ∧ t.mill.reports = [] ∧
    t.mill.stream = none ∧ t.mill.decimation = 0 ∧ t.mill.decimationCount = 0 ∧ t.mill.transmitter.next = 0 ∧
    t.port.receiver = .hunting ∧ t.port.drive = none ∧ t.port.head = none ∧ t.port.passDown = [] ∧
    t.port.transmitter.next = 0 ∧ t.clock = 0

/-- RESTART keeps tables, slots, mask, alarm queue and the other queues, and clears the rest; a collection is given up with
HEAD_MODE NORMAL, and a carriage away from park is sent there. -/
def Obligations.RestartClearsAllButTablesAndQueues : Prop :=
  ∀ (f : CommandFrame) (rest : List CommandFrame) (s : State), AtHand f rest s → f.code = 0x1B#8 → f.args = [] →
    ∃ t : State, exec .restart s = .next t ∧
      t.conditioner = ⟨none, s.conditioner.fitted⟩ ∧ t.tables = s.tables ∧ t.standardize = ⟨false, 0, none⟩ ∧
      t.binning = ⟨none, none⟩ ∧ t.closeOut = ⟨.idle, 0⟩ ∧
      t.profile = ⟨none, ⟨[], [], [], []⟩, none, none, s.profile.slots, []⟩ ∧ t.contexts = ⟨[], none⟩ ∧
      t.watch = ⟨.sheetOn, none, 0, 0, none, none, none, none⟩ ∧
      t.monitors = s.monitors.map (fun m => ⟨m.record, 0, .armed, none, none, none⟩) ∧
      t.conditions = { s.conditions with
        flags := 0, summary := false, counters := ⟨0, 0, 0, 0, 0, 0, 0, 0⟩ } ∧
      t.handler = ⟨rest, some f, .answered⟩ ∧
      t.mill = { s.mill with
        stream := none, decimation := 0, decimationCount := 0, response := some ⟨f.sequence, 0x1B#8, .ok, []⟩ } ∧
      t.clock = s.clock ∧ t.pending = s.pending ∧ t.frame.scanOn = false ∧ t.frame.limits = none ∧
      t.frame.fixedPoint = none ∧
      t.frame.windows = ⟨[], [], [], []⟩ ∧ t.frame.lastPosition = s.frame.lastPosition ∧
      t.frame.lastDrive = s.frame.lastDrive ∧ t.frame.silence = s.frame.silence ∧
      let port := if s.standardize.collection.isSome then s.port.handHead .normal else s.port
      (match s.frame.carriage with
       | .unreferenced | .halted | .parked =>
         t.frame.carriage = s.frame.carriage ∧ t.port = port ∧ t.frame.target = s.frame.target ∧
         t.frame.stall = s.frame.stall
       | .standardizing =>
         t.frame.carriage = .parked ∧ t.port = port ∧ t.frame.target = s.frame.target ∧
         t.frame.stall = s.frame.stall
       | .parking | .traverse _ _ | .fixed _ | .probing _ =>
         t.frame.carriage = .parking ∧ t.port = port.handDrive (.move s.tables.frame.park 200) ∧
         t.frame.target = some ⟨s.tables.frame.park, 200⟩ ∧
         t.frame.stall.map StallTimer.timer = some ⟨s.tables.frame.stallPeriod, 0⟩)

/-- The millisecond tick advances the clock, which wraps, and every running timer (log 5), and changes no other state that the
spec gives the part. Of the model's own fields it ends a break run held from a hold-off expiry of the millisecond (log 36). -/
def Obligations.TickAdvancesTheClockAndTheTimers : Prop :=
  (∀ s : State, exec .millisecondTick s = .next { s with
      clock := (s.clock + 1) % 4294967296
      standardize := { s.standardize with
        collection := s.standardize.collection.map (fun c => { c with timer := c.timer.tick }) }
      frame := { s.frame with
        silence := s.frame.silence.map Timer.tick
        stall := s.frame.stall.map (fun t => { t with timer := t.timer.tick }) }
      watch := { s.watch with
        probe := s.watch.probe.map Timer.tick
        dwell := s.watch.dwell.map Timer.tick
        holdOff := s.watch.holdOff.map Timer.tick
        heldRun := none } }) ∧
  (∀ p e : Nat, e < p → Timer.tick ⟨p, e⟩ = ⟨p, e + 1⟩ ∧ Timer.due ⟨p, e⟩ = false) ∧
  (∀ p e : Nat, p ≤ e → Timer.tick ⟨p, e⟩ = ⟨p, e⟩ ∧ Timer.due ⟨p, e⟩ = true)

/-- The state after reset meets every invariant of Safety. -/
def Obligations.ResetMeetsTheInvariants : Prop :=
  CarriageCoupled State.reset ∧ ScanGoverned State.reset ∧ WatchQuiet State.reset ∧ WithinCapacity State.reset ∧
  HandlerAnswers State.reset ∧ TablesValid State.reset ∧ SlicesAgree State.reset

/-- Every step keeps the carriage state in step with the open traverse, the collection, the MOVE outstanding and the
timers. -/
def Obligations.StepKeepsCarriageCoupled : Prop :=
  ∀ s t : State, CarriageCoupled s → step s = .next t → CarriageCoupled t

/-- Every step keeps scanning governed by a context with a loaded map. -/
def Obligations.StepKeepsScanGoverned : Prop :=
  ∀ s t : State, ScanGoverned s → step s = .next t → ScanGoverned t

/-- Every step keeps the break watch quiet where it counts nothing (log 22), and its timers with its state. -/
def Obligations.StepKeepsWatchQuiet : Prop :=
  ∀ s t : State, WatchQuiet s → step s = .next t → WatchQuiet t

/-- Every step keeps within their ranges the queues, rings, windows, slots and the report buffer with its frames and notice;
the counters, the standardize counter, the scan number, the clock and the frame numbers; the accumulator counts, the monitor
counts, the slice ages, the break and sheet run counts and the held run (log 36) with N_BREAK, the edge finder's run count
with M, and the decimation with its count. -/
def Obligations.StepKeepsWithinCapacity : Prop :=
  ∀ s t : State, WithinCapacity s → step s = .next t → WithinCapacity t

/-- Every step keeps the handler either READY with nothing in hand or ANSWERED with its command's response placed. -/
def Obligations.StepKeepsHandlerAnswers : Prop :=
  ∀ s t : State, HandlerAnswers s → step s = .next t → HandlerAnswers t

/-- Every step keeps table memory within what its rules admit. -/
def Obligations.StepKeepsTablesValid : Prop :=
  ∀ s t : State, TablesValid s → step s = .next t → TablesValid t

/-- Every step keeps whatever is held per slice in as many entries as the map has slices. -/
def Obligations.StepKeepsSlicesAgree : Prop :=
  ∀ s t : State, SlicesAgree s → step s = .next t → SlicesAgree t

/-- Power-on reset apart, staged curves and bias entries change by their own writes alone, not under the lock, and factors by
their write or by the reference sample that ends a collection with a passing participant, each change with one advance of the
staged generation; a copy in effect changes by a sample alone and becomes the staged copy with its generation (a commit). The
premises, that a collection runs in STANDARDIZING alone and that S is at least 16, are kept by every step
(StepKeepsCarriageCoupled, StepKeepsTablesValid). -/
def Obligations.CalibrationChangesByItsOwnRoutesAlone : Prop :=
  ∀ (i : Instr) (s t : State), CarriageCoupled s → 16 ≤ s.tables.frame.s → i ≠ .powerOnReset → exec i s = .next t →
    (t.tables.curve.staged ≠ s.tables.curve.staged → i = .writeTableCurve ∧ s.tables.locked = false ∧
      t.tables.curve.stagedGen = nextGeneration s.tables.curve.stagedGen s.tables.curve.inEffectGen) ∧
    (t.tables.bias.staged ≠ s.tables.bias.staged → i = .writeTableBias ∧ s.tables.locked = false ∧
      t.tables.bias.stagedGen = nextGeneration s.tables.bias.stagedGen s.tables.bias.inEffectGen) ∧
    (t.tables.stdf.staged ≠ s.tables.stdf.staged →
      ((i = .writeTableStdf ∧ s.tables.locked = false) ∨
        ∃ f c, i = .sample f ∧ f.reference = true ∧ s.standardize.collection = some c ∧ c.target ≤ c.count + 1 ∧
          ∃ r ∈ resultList (c.add f).results, r.isPass = true) ∧
      t.tables.stdf.stagedGen = nextGeneration s.tables.stdf.stagedGen s.tables.stdf.inEffectGen) ∧
    (t.tables.curve.inEffect ≠ s.tables.curve.inEffect → (∃ f, i = .sample f) ∧
      t.tables.curve.inEffect = s.tables.curve.staged ∧ t.tables.curve.inEffectGen = s.tables.curve.stagedGen) ∧
    (t.tables.bias.inEffect ≠ s.tables.bias.inEffect → (∃ f, i = .sample f) ∧
      t.tables.bias.inEffect = s.tables.bias.staged ∧ t.tables.bias.inEffectGen = s.tables.bias.stagedGen) ∧
    (t.tables.stdf.inEffect ≠ s.tables.stdf.inEffect → (∃ f, i = .sample f) ∧
      ((t.tables.stdf.inEffect = s.tables.stdf.staged ∧ t.tables.stdf.inEffectGen = s.tables.stdf.stagedGen) ∨
        (t.tables.stdf.inEffect = t.tables.stdf.staged ∧ t.tables.stdf.inEffectGen = t.tables.stdf.stagedGen)))

/-- What a command cannot change. The calibration lock, once set, and the SHEET settings, once LATCHED, stay; a flag stays
set until CLEAR_CONDITIONS or RESTART, the pending summary until ACK_ALARM or RESTART; the save slots change by SAVE_PROFILE
and the two slot writes alone, the mask by SET_MASK, the monitor records by MONITOR writes, the context in effect by a sample
(a traverse opening) or RESTART: all of it power-on reset apart. -/
def Obligations.HeldStateChangesByItsOwnersAlone : Prop :=
  (∀ (i : Instr) (s t : State), i ≠ .powerOnReset → exec i s = .next t →
    (s.tables.locked = true → t.tables.locked = true) ∧
    (s.tables.sheet.mode = .latched → t.tables.sheet = s.tables.sheet)) ∧
  (∀ (i : Instr) (s t : State), exec i s = .next t → i ≠ .powerOnReset → i ≠ .restart →
    (i ≠ .clearConditions → ∀ c : Condition, s.conditions.flag c = true → t.conditions.flag c = true) ∧
    (i ≠ .ackAlarm → s.conditions.summary = true → t.conditions.summary = true)) ∧
  (∀ (i : Instr) (s t : State), i ≠ .powerOnReset → exec i s = .next t →
    (t.profile.slots ≠ s.profile.slots → i = .saveProfile ∨ i = .writeTableSlotHeader ∨ i = .writeTableSlotImage) ∧
    (t.conditions.unmasked ≠ s.conditions.unmasked → i = .setMask) ∧
    (t.monitors.map Monitor.record ≠ s.monitors.map Monitor.record → i = .writeTableMonitor) ∧
    (t.contexts.inEffect ≠ s.contexts.inEffect → i = .restart ∨ ∃ f, i = .sample f))

/-! ### The links (chapter 11) -/

/-- The receiver recovers, from the bytes of the frame that carries a well-formed event, the sync pair and that event, and
goes on with the bytes after the frame. -/
def Obligations.ReceiverRecoversEveryFrame : Prop :=
  ∀ (i : Instr) (link : Link) (kind sequence : Byte) (payload tail : List Byte) (n : Nat),
    i.wellFormed = true → i.frame = some (link, kind, payload) → (∀ f, i = .command f → sequence = f.sequence) →
    receive link (n + 1) (wire kind sequence payload ++ tail) = .syncPairFound link :: i :: receive link n tail

/-- SYNC_PAIR_FOUND puts a HUNTING receiver into COLLECTING and does nothing to one that collects (the model's choice, log
1); the two COMPLETED rows make their transmitter idle; a frame that fails a check adds one to its link's counter,
saturating, raises LINK_ERROR and leaves the receiver HUNTING. Nothing else changes. -/
def Obligations.ReceiversAndTransmittersChangeState : Prop :=
  (∀ s : State,
    (s.port.receiver = .hunting →
      exec (.syncPairFound .carriage) s = .next { s with port := { s.port with receiver := .collecting } }) ∧
    (s.mill.receiver = .hunting →
      exec (.syncPairFound .mill) s = .next { s with mill := { s.mill with receiver := .collecting } }) ∧
    (s.port.receiver = .collecting → exec (.syncPairFound .carriage) s = .next s) ∧
    (s.mill.receiver = .collecting → exec (.syncPairFound .mill) s = .next s) ∧
    exec .carriageFrameCompleted s = .next { s with
      port := { s.port with transmitter := ⟨none, s.port.transmitter.next⟩ } } ∧
    exec .millFrameCompleted s = .next { s with
      mill := { s.mill with transmitter := ⟨none, s.mill.transmitter.next⟩ } }) ∧
  (∀ (c : CheckFailure) (s : State), s.conditions.raised = [] →
    exec (.frameCheckFailure .carriage c) s = .next { s with
      port := { s.port with receiver := .hunting }
      choices := s.choices + 1
      conditions := ConditionUnit.take { s.conditions with counters := { s.conditions.counters with
        carriageFailures := min 65535 (s.conditions.counters.carriageFailures + 1) } } (alarmNow .linkError s) } ∧
    exec (.frameCheckFailure .mill c) s = .next { s with
      mill := { s.mill with receiver := .hunting }
      choices := s.choices + 1
      conditions := ConditionUnit.take { s.conditions with counters := { s.conditions.counters with
        millFailures := min 65535 (s.conditions.counters.millFailures + 1) } } (alarmNow .linkError s) })

/-- A COMMAND frame joins the inbound queue as its newest member when it holds fewer than 8 frames, a PASS_UP payload the
pass-up queue when it holds fewer than 4; a full queue drops the arrival, the drop is counted and LINK_ERROR raised. That the
receiver is HUNTING after a delivery is the model's reading (log 10). -/
def Obligations.ArrivalsJoinTheirQueues : Prop :=
  (∀ (f : CommandFrame) (s : State), s.conditions.raised = [] →
    (s.handler.inbound.length < 8 → exec (.command f) s = .next { s with
      mill := { s.mill with receiver := .hunting }
      handler := { s.handler with inbound := s.handler.inbound ++ [f] } }) ∧
    (8 ≤ s.handler.inbound.length → exec (.command f) s = .next { s with
      mill := { s.mill with receiver := .hunting }
      choices := s.choices + 1
      conditions := ConditionUnit.take { s.conditions with counters := { s.conditions.counters with
        commandsDropped := min 65535 (s.conditions.counters.commandsDropped + 1) } } (alarmNow .linkError s) })) ∧
  (∀ (p : List Byte) (s : State), s.conditions.raised = [] →
    (s.mill.passUp.length < 4 → exec (.passUp p) s = .next { s with
      port := { s.port with receiver := .hunting }
      mill := { s.mill with passUp := s.mill.passUp ++ [p] } }) ∧
    (4 ≤ s.mill.passUp.length → exec (.passUp p) s = .next { s with
      port := { s.port with receiver := .hunting }
      choices := s.choices + 1
      conditions := ConditionUnit.take { s.conditions with counters := { s.conditions.counters with
        passDropped := min 65535 (s.conditions.counters.passDropped + 1) } } (alarmNow .linkError s) }))

/-- The arbiter of an idle mill-link transmitter takes the first non-empty source in the order alarm queue, response slot,
pass-up queue, report buffer, stream slot, removes the frame from it and starts it under the transmitter's next number; the
response sent frees the handler. With every source empty, or while a frame is being sent, nothing changes. -/
def Obligations.ArbiterTakesTheFirstNonEmptySource : Prop :=
  ∀ s : State,
    (∀ g, s.mill.transmitter.sending = some g → exec .millTransmit s = .next s) ∧
    (s.mill.transmitter.sending = none →
      (∀ a rest, s.conditions.alarms = a :: rest → exec .millTransmit s = .next { s with
        conditions := { s.conditions with alarms := rest }
        mill := { s.mill with transmitter :=
          ⟨some ⟨0x32#8, s.mill.transmitter.next, a.payload⟩, (s.mill.transmitter.next + 1) % 256⟩ } }) ∧
      (s.conditions.alarms = [] →
        (∀ r, s.mill.response = some r → exec .millTransmit s = .next { s with
          handler := ⟨s.handler.inbound, none, .ready⟩
          mill := { s.mill with
            response := none
            transmitter := ⟨some ⟨0x31#8, s.mill.transmitter.next, r.payload⟩, (s.mill.transmitter.next + 1) % 256⟩ } }) ∧
        (s.mill.response = none →
          (∀ p rest, s.mill.passUp = p :: rest → exec .millTransmit s = .next { s with
            mill := { s.mill with
              passUp := rest
              transmitter := ⟨some ⟨0x04#8, s.mill.transmitter.next, p⟩, (s.mill.transmitter.next + 1) % 256⟩ } }) ∧
          (s.mill.passUp = [] →
            (∀ g rest, s.mill.reports = g :: rest → exec .millTransmit s = .next { s with
              mill := { s.mill with
                reports := rest
                transmitter :=
                  ⟨some ⟨0x33#8, s.mill.transmitter.next, g.payload⟩, (s.mill.transmitter.next + 1) % 256⟩ } }) ∧
            (s.mill.reports = [] →
              (∀ x, s.mill.stream = some x → exec .millTransmit s = .next { s with
                mill := { s.mill with
                  stream := none
                  transmitter :=
                    ⟨some ⟨0x34#8, s.mill.transmitter.next, x.payload⟩, (s.mill.transmitter.next + 1) % 256⟩ } }) ∧
              (s.mill.stream = none → exec .millTransmit s = .next s))))))

/-- The carriage link port. A frame handed over while another is being sent takes its slot, from which it takes an unsent one;
handed to the idle transmitter it is sent at once under the transmitter's next number, behind a frame that still waits there
(log 9). CARRIAGE_TRANSMIT sends what waits at an idle transmitter: a filled slot, the earlier-handed one when both are
filled, and only with both empty the oldest pass-down payload. -/
def Obligations.CarriageTransmitterSendsSlotsBeforePassDown : Prop :=
  (∀ (p : CarriagePort) (f : DriveFrame) (m : HeadMode),
    let start : Byte → List Byte → Transmitter := fun kind payload =>
      ⟨some ⟨kind, p.transmitter.next, payload⟩, (p.transmitter.next + 1) % 256⟩
    let drive : DriveFrame → Transmitter := fun d => match d with
      | .move target speed => start 0x11#8 (be16 target ++ be16 speed)
      | .stop => start 0x12#8 []
    let head : HeadMode → Transmitter := fun k => start 0x13#8 [match k with
      | .normal => 0#8
      | .reference => 1#8]
    (p.transmitter.sending ≠ none →
      p.handDrive f = { p with drive := some f, driveEarlier := p.head.isNone } ∧
      p.handHead m = { p with head := some m, driveEarlier := p.drive.isSome }) ∧
    (p.transmitter.sending = none → p.drive = none → p.head = none →
      p.handDrive f = { p with driveEarlier := false, transmitter := drive f } ∧
      p.handHead m = { p with driveEarlier := false, transmitter := head m }) ∧
    (p.transmitter.sending = none → ∀ d, p.drive = some d → (p.head = none ∨ p.driveEarlier = true) →
      p.handDrive f = { p with drive := some f, driveEarlier := p.head.isNone, transmitter := drive d } ∧
      p.handHead m = { p with drive := none, head := some m, driveEarlier := false, transmitter := drive d }) ∧
    (p.transmitter.sending = none → ∀ k, p.head = some k → (p.drive = none ∨ p.driveEarlier = false) →
      p.handDrive f = { p with drive := some f, head := none, driveEarlier := true, transmitter := head k } ∧
      p.handHead m = { p with head := some m, driveEarlier := p.drive.isSome, transmitter := head k })) ∧
  (∀ s : State,
    (∀ g, s.port.transmitter.sending = some g → exec .carriageTransmit s = .next s) ∧
    (s.port.transmitter.sending = none →
      (∀ target speed, s.port.drive = some (.move target speed) → (s.port.head = none ∨ s.port.driveEarlier = true) →
        exec .carriageTransmit s = .next { s with port := { s.port with
          drive := none, driveEarlier := false
          transmitter := ⟨some ⟨0x11#8, s.port.transmitter.next, be16 target ++ be16 speed⟩,
            (s.port.transmitter.next + 1) % 256⟩ } }) ∧
      (s.port.drive = some .stop → (s.port.head = none ∨ s.port.driveEarlier = true) →
        exec .carriageTransmit s = .next { s with port := { s.port with
          drive := none, driveEarlier := false
          transmitter := ⟨some ⟨0x12#8, s.port.transmitter.next, []⟩, (s.port.transmitter.next + 1) % 256⟩ } }) ∧
      (∀ m, s.port.head = some m → (s.port.drive = none ∨ s.port.driveEarlier = false) →
        exec .carriageTransmit s = .next { s with port := { s.port with
          head := none, driveEarlier := false
          transmitter := ⟨some ⟨0x13#8, s.port.transmitter.next, [match m with
            | .normal => 0#8
            | .reference => 1#8]⟩, (s.port.transmitter.next + 1) % 256⟩ } }) ∧
      (s.port.drive = none → s.port.head = none →
        (∀ p rest, s.port.passDown = p :: rest → exec .carriageTransmit s = .next { s with port := { s.port with
          passDown := rest
          transmitter := ⟨some ⟨0x14#8, s.port.transmitter.next, p⟩, (s.port.transmitter.next + 1) % 256⟩ } }) ∧
        (s.port.passDown = [] → exec .carriageTransmit s = .next s))))

/-! ### The condition unit (chapter 9) -/

/-- What the condition unit does with a raising: nothing when the flag is set; the flag alone when the condition is
masked; flag, pending summary and an ALARM frame queued as the newest when it is unmasked and the queue has room; and at a
full queue flag and summary, the frame dropped and counted, and LINK_ERROR raised. At the end of a step it has taken every
raising of the step once, in an order the spec leaves open (log 7): the flag of each is set, LINK_ERROR apart no other
flag is, and nothing outside the condition unit changes but the model's free-value counter. An alarm shows the raising
block's own fields as that block left them, and the fields of the frame controller and of the break watch, where they are
other blocks, each as at one moment from the raise to the end of the step, which one is left open (log 7). -/
def Obligations.RaisingSetsFlagAndAlarms : Prop :=
  (∀ (a : AlarmFrame) (u : ConditionUnit),
    (u.flag a.condition = true → u.take a = u) ∧
    (u.flag a.condition = false → u.isUnmasked a.condition = false →
      u.take a = { u with flags := u.flags ||| 1#17 <<< a.condition.number }) ∧
    (u.flag a.condition = false → u.isUnmasked a.condition = true → u.alarms.length < 8 →
      u.take a = { u with
        flags := u.flags ||| 1#17 <<< a.condition.number, summary := true, alarms := u.alarms ++ [a] }) ∧
    (u.flag a.condition = false → u.isUnmasked a.condition = true → 8 ≤ u.alarms.length →
      (u.take a).flag a.condition = true ∧ (u.take a).flag .linkError = true ∧ (u.take a).summary = true ∧
      (u.take a).alarms = u.alarms ∧ (u.take a).unmasked = u.unmasked ∧
      (∀ c : Condition, c ≠ a.condition → c ≠ .linkError → (u.take a).flag c = u.flag c) ∧
      (u.take a).counters.alarmsDropped =
        min 65535 (u.counters.alarmsDropped +
          (if a.condition ≠ .linkError ∧ u.flag .linkError = false ∧ u.isUnmasked .linkError = true then 2 else 1)))) ∧
  (∀ s : State,
    (s.conditions.raised = [] → settle s = s) ∧
    settle s = { s with conditions := (settle s).conditions, choices := (settle s).choices } ∧
    (settle s).conditions.raised = [] ∧ (settle s).conditions.unmasked = s.conditions.unmasked ∧
    (∀ a ∈ s.conditions.raised, (settle s).conditions.flag a.condition = true) ∧
    (∀ c : Condition, s.conditions.flag c = true → (settle s).conditions.flag c = true) ∧
    (∀ c : Condition, c ≠ .linkError → (settle s).conditions.flag c = true →
      s.conditions.flag c = true ∨ ∃ a ∈ s.conditions.raised, a.condition = c) ∧
    ∃ l : List (Raising × AlarmFrame), (l.map Prod.fst).Perm s.conditions.raised ∧
      (settle s).conditions = (l.map Prod.snd).foldl ConditionUnit.take { s.conditions with raised := [] } ∧
      ∀ r a, (r, a) ∈ l →
        let moments : List View := ⟨r.alarm.carriage, r.alarm.position, r.alarm.breakState⟩ :: r.later ++
          [⟨s.frame.carriage.kind, s.frame.lastPosition, s.watch.state⟩]
        a.condition = r.alarm.condition ∧ a.timestamp = r.alarm.timestamp ∧ a.scanNumber = r.alarm.scanNumber ∧
        (∃ v ∈ moments, v.carriage = a.carriage ∧ v.position = a.position) ∧
        (∃ v ∈ moments, v.breakState = a.breakState) ∧
        (a.condition = .sheetBreak ∨ a.condition = .restored → a.breakState = r.alarm.breakState) ∧
        (a.condition = .carriageSilent ∨ a.condition = .driveStall ∨ a.condition = .driveFault →
          a.carriage = r.alarm.carriage ∧ a.position = r.alarm.position))

/-! ### Sample conditioning and calibration (chapter 1) -/

/-- HEAD_ANNOUNCE replaces the fitted set and adjusts the stored enables: 1 for a channel newly fitted, 0 for one that is not
fitted, unchanged for one fitted before and after. Nothing else changes but the receiver (log 10). -/
def Obligations.HeadAnnounceSetsFittedAndEnables : Prop :=
  ∀ (n : PerMeasured Bool) (s : State), ∃ e : Enables,
    exec (.headAnnounce n) s = .next { s with
      conditioner := { s.conditioner with fitted := n }
      tables := { s.tables with enables := e }
      port := { s.port with receiver := .hunting } } ∧
    (n.bw = false → e.bw = false) ∧ (n.bw = true → s.conditioner.fitted.bw = false → e.bw = true) ∧
    (n.bw = true → s.conditioner.fitted.bw = true → e.bw = s.tables.enables.bw) ∧
    (n.mo = false → e.mo = false) ∧ (n.mo = true → s.conditioner.fitted.mo = false → e.mo = true) ∧
    (n.mo = true → s.conditioner.fitted.mo = true → e.mo = s.tables.enables.mo) ∧
    (n.ca = false → e.ca = false) ∧ (n.ca = true → s.conditioner.fitted.ca = false → e.ca = true) ∧
    (n.ca = true → s.conditioner.fitted.ca = true → e.ca = s.tables.enables.ca)

/-- A SAMPLE is taken in every state. The conditioner acts first, then binning unit and edge finder (log 8), then frame
controller, break watch, standardize unit and stream, each once, in an order the spec leaves open (log 6), then the
condition unit, for which the end of each and the new last position are moments of the step (log 7). Whatever the order,
the expectation becomes its sequence plus 1, the gap total grows by the gap it reveals, which raises SAMPLE_GAP, a FAULTED
measured channel raises HEAD_FAULT and a CLAMPED channel RANGE, the last position becomes its position, and with a
decimation of n the stream counts it and offers every nth sample to the stream slot, where an unsent one is replaced and
counted. What the sample does not touch stays. That the receiver is HUNTING after it is the model's reading (log 10). -/
def Obligations.SampleIsTrackedInEveryState : Prop :=
  (∀ (f : SampleFrame) (s : State),
    let gap := match s.conditioner.expected with
      | none => false
      | some e => decide (e ≠ f.sequence)
    let x := conditionFrame s.tables s.conditioner.fitted f gap
    let start : State := { s with choices := s.choices + 1, port := { s.port with receiver := .hunting } }
    (∃ order : List Consumer, order.Perm [.frameController, .breakWatch, .standardizeUnit, .stream] ∧
      exec (.sample f) s = .next (settle
        (order.foldl (fun u c =>
          let v := match c with
            | .frameController => frameTakes x (noteMoment { viewNow u with position := some f.position } u)
            | .breakWatch => watchTakes x u
            | .standardizeUnit => standardizeTakes x u
            | .stream => streamTakes x u
          noteMoment (viewNow v) v) (binningTakes x (conditionerTakes f start))))) ∧
    ∃ t : State, exec (.sample f) s = .next t ∧
      t.conditioner = ⟨some ((f.sequence + 1) % 256), s.conditioner.fitted⟩ ∧
      t.frame.lastPosition = some f.position ∧ t.frame.lastDrive = s.frame.lastDrive ∧ t.port.receiver = .hunting ∧
      (match s.conditioner.expected with
       | none => t.conditions.counters.gapTotal = s.conditions.counters.gapTotal
       | some e =>
         if e = f.sequence then t.conditions.counters.gapTotal = s.conditions.counters.gapTotal
         else
           t.conditions.counters.gapTotal =
             min 65535 (s.conditions.counters.gapTotal + (((f.sequence : Int) - e) % 256).toNat) ∧
           t.conditions.flag .sampleGap = true) ∧
      (s.conditions.raised = [] →
        (t.conditions.flag .headFault = true ↔ s.conditions.flag .headFault = true ∨
          x.bw = .faulted ∨ x.mo = .faulted ∨ x.ca = .faulted ∨ x.tr = .faulted) ∧
        (t.conditions.flag .range = true ↔ s.conditions.flag .range = true ∨
          ∃ v, x.bw = .clamped v ∨ x.mo = .clamped v ∨ x.ca = .clamped v ∨ x.tr = .clamped v ∨ x.dw = .clamped v)) ∧
      (let dropped := t.conditions.counters.streamDropped
       (s.mill.decimation = 0 → t.mill.stream = s.mill.stream ∧ t.mill.decimationCount = s.mill.decimationCount ∧
         dropped = s.conditions.counters.streamDropped) ∧
       (s.mill.decimationCount + 1 < s.mill.decimation → t.mill.stream = s.mill.stream ∧
         t.mill.decimationCount = s.mill.decimationCount + 1 ∧ dropped = s.conditions.counters.streamDropped) ∧
       (s.mill.decimation ≠ 0 → s.mill.decimation ≤ s.mill.decimationCount + 1 →
         (∃ direction, t.mill.stream = some ⟨x, direction, s.clock⟩) ∧ t.mill.decimationCount = 0 ∧
         dropped = if s.mill.stream = none then s.conditions.counters.streamDropped
           else min 65535 (s.conditions.counters.streamDropped + 1))) ∧
      t.tables.mapA = s.tables.mapA ∧ t.tables.mapB = s.tables.mapB ∧ t.tables.sheet = s.tables.sheet ∧
      t.tables.frame = s.tables.frame ∧ t.tables.enables = s.tables.enables ∧ t.tables.locked = s.tables.locked ∧
      t.handler = s.handler ∧ t.monitors = s.monitors ∧ t.clock = s.clock ∧ t.pending = s.pending ∧
      t.conditions.unmasked = s.conditions.unmasked ∧ t.mill.response = s.mill.response ∧
      t.mill.passUp = s.mill.passUp ∧ t.mill.transmitter = s.mill.transmitter ∧
      t.mill.decimation = s.mill.decimation ∧ t.mill.receiver = s.mill.receiver ∧
      t.port.passDown = s.port.passDown ∧
      (s.port.transmitter.sending ≠ none → t.port.transmitter = s.port.transmitter) ∧
      t.profile.slots = s.profile.slots ∧ t.profile.trend = s.profile.trend ∧
      t.closeOut.scanNumber = s.closeOut.scanNumber ∧ t.binning.lastGood = s.binning.lastGood) ∧
  (∀ (x : Sample) (s : State), s.mill.decimation ≠ 0 → s.mill.decimation ≤ s.mill.decimationCount + 1 →
    (streamTakes x s).mill =
      { s.mill with stream := some ⟨x, s.frame.carriage.direction, s.clock⟩, decimationCount := 0 })

/-- A measured channel's class (R7): ABSENT when it is not fitted, not enabled or without a curve in effect; else FAULTED
when its ready bit is clear; else its value through normalization, curve and bias, CLAMPED exactly when a step limited it
(R8). -/
def Obligations.MeasuredChannelClasses : Prop :=
  ∀ (t : Tables) (fitted : PerMeasured Bool) (f : SampleFrame) (gap : Bool),
    let x := conditionFrame t fitted f gap
    ((fitted.bw = false ∨ t.enables.bw = false ∨ t.curve.inEffect.bw = none) → x.bw = .absent) ∧
    ((fitted.mo = false ∨ t.enables.mo = false ∨ t.curve.inEffect.mo = none) → x.mo = .absent) ∧
    ((fitted.ca = false ∨ t.enables.ca = false ∨ t.curve.inEffect.ca = none) → x.ca = .absent) ∧
    ((fitted.tr = false ∨ t.curve.inEffect.tr = none) → x.tr = .absent) ∧
    (∀ c, fitted.bw = true → t.enables.bw = true → t.curve.inEffect.bw = some c →
      x.bw = if f.ready.bw then
          let r := normalize t.stdf.inEffect.bw f.raw.bw
          let v := biasStep t.bias.inEffect .bw (c.apply r.1).1
          if r.2 || (c.apply r.1).2 || v.2 then .clamped v.1 else .normal v.1
        else .faulted) ∧
    (∀ c, fitted.mo = true → t.enables.mo = true → t.curve.inEffect.mo = some c →
      x.mo = if f.ready.mo then
          let r := normalize t.stdf.inEffect.mo f.raw.mo
          let v := biasStep t.bias.inEffect .mo (c.apply r.1).1
          if r.2 || (c.apply r.1).2 || v.2 then .clamped v.1 else .normal v.1
        else .faulted) ∧
    (∀ c, fitted.ca = true → t.enables.ca = true → t.curve.inEffect.ca = some c →
      x.ca = if f.ready.ca then
          let r := normalize t.stdf.inEffect.ca f.raw.ca
          let v := biasStep t.bias.inEffect .ca (c.apply r.1).1
          if r.2 || (c.apply r.1).2 || v.2 then .clamped v.1 else .normal v.1
        else .faulted) ∧
    (∀ c, fitted.tr = true → t.curve.inEffect.tr = some c →
      x.tr = if f.ready.tr then
          let r := normalize t.stdf.inEffect.tr f.raw.tr
          if r.2 || (c.apply r.1).2 then .clamped (c.apply r.1).1 else .normal (c.apply r.1).1
        else .faulted)

/-- Normalization rounds raw × q / 16384 half up and limits it to 65535. The curve result by its cases: below the first point,
above the last, at the last, and within an interval, where it is rounded half away from zero, is not CLAMPED and lies between
the two points' values. -/
def Obligations.NormalizationAndCurve : Prop :=
  ((∀ q raw : Nat,
    normalize q raw = (min 65535 ((raw * q * 2 + 16384) / 32768), decide (65535 < (raw * q * 2 + 16384) / 32768))) ∧
  (∀ q : Nat, normalize q 0 = (0, false)) ∧
  (∀ raw : Nat, raw ≤ 65535 → (normalize 8192 raw).1 ≤ 32768 ∧ (normalize 8192 raw).2 = false) ∧
  (∀ raw : Nat, 32768 < raw → normalize 32767 raw = (65535, true)) ∧
  (∀ q : Nat, 16384 < q → normalize q 65535 = (65535, true))) ∧
  (∀ (c : Curve) (r : Nat), strictlyRising ((c.first :: c.rest).map CurvePoint.r) = true →
    (r < c.first.r → c.apply r = (c.first.e, true)) ∧
    (∀ p, (c.first :: c.rest).getLast? = some p → p.r < r → c.apply r = (p.e, true)) ∧
    (∀ p, (c.first :: c.rest).getLast? = some p → r = p.r → c.apply r = (p.e, false)) ∧
    (∀ (k : Nat) (p q : CurvePoint), (c.first :: c.rest)[k]? = some p → (c.first :: c.rest)[k + 1]? = some q →
      p.r ≤ r → r < q.r →
      ((c.apply r).1 : Int) = p.e + roundHalfAway (((r : Int) - p.r) * ((q.e : Int) - p.e)) (q.r - p.r) ∧
      (c.apply r).2 = false ∧ min p.e q.e ≤ (c.apply r).1 ∧ (c.apply r).1 ≤ max p.e q.e))

/-- The bias step: the first enabled entry that names the channel is applied, and the biased value is limited to 0 and the
channel maximum. Dry weight: FAULTED if BW or MO is; else ABSENT if BW or MO is; else BW × (10000 − MO) / 10000 rounded half
up, through DW's own bias step, CLAMPED if BW or MO is or the bias step clamps; before its bias it never exceeds BW. The
conditioned sample carries that dry weight of its own BW and MO, under the bias entries in effect. -/
def Obligations.BiasAndDryWeight : Prop :=
  (∀ (ch : ProfileChannel) (e : Nat),
    (∀ entries : List BiasEntry, (∀ b ∈ entries, b.enabled = true → b.channel ≠ ch) →
      biasStep entries ch e = (e, false)) ∧
    (∀ (before after : List BiasEntry) (b : BiasEntry), (∀ x ∈ before, x.enabled = true → x.channel ≠ ch) →
      b.enabled = true → b.channel = ch →
      ((e : Int) + b.bias < 0 → biasStep (before ++ b :: after) ch e = (0, true)) ∧
      ((ch.max : Int) < e + b.bias → biasStep (before ++ b :: after) ch e = (ch.max, true)) ∧
      (0 ≤ (e : Int) + b.bias → (e : Int) + b.bias ≤ ch.max →
        biasStep (before ++ b :: after) ch e = (((e : Int) + b.bias).toNat, false)))) ∧
  (∀ (entries : List BiasEntry) (bw mo : Conditioned),
    (bw = .faulted ∨ mo = .faulted → dryWeight entries bw mo = .faulted) ∧
    (bw ≠ .faulted → mo ≠ .faulted → (bw = .absent ∨ mo = .absent) → dryWeight entries bw mo = .absent) ∧
    (∀ w m : Nat, bw.usable = some w → mo.usable = some m →
      let d := (2 * (w * (10000 - m)) + 10000) / 20000
      let v := biasStep entries .dw d
      dryWeight entries bw mo = (if bw.isClamped || mo.isClamped || v.2 then .clamped v.1 else .normal v.1) ∧ d ≤ w)) ∧
  (∀ (t : Tables) (fitted : PerMeasured Bool) (f : SampleFrame) (gap : Bool),
    let x := conditionFrame t fitted f gap
    x.dw = dryWeight t.bias.inEffect x.bw x.mo)

/-- Every conditioned value lies between 0 and its channel's maximum, whatever the factors, the bias entries, the fitted set
and the frame, for every curve that a write can have put in effect. -/
def Obligations.ConditionedValuesLieInRange : Prop :=
  ∀ (t : Tables) (fitted : PerMeasured Bool) (f : SampleFrame) (gap : Bool), curvesValid t.curve.inEffect = true →
    let x := conditionFrame t fitted f gap
    (∀ v, x.bw.usable = some v → v ≤ 65535) ∧ (∀ v, x.mo.usable = some v → v ≤ 10000) ∧
    (∀ v, x.ca.usable = some v → v ≤ 65535) ∧ (∀ v, x.tr.usable = some v → v ≤ 1000) ∧
    (∀ v, x.dw.usable = some v → v ≤ 65535)

/-- A staged generation advances by one, wrapping, and by one more when that would be the in-effect one; a commit makes each
region's in-effect copy and generation those of its staged copy when the generations differ and leaves it otherwise. -/
def Obligations.GenerationsAdvanceAndCommit : Prop :=
  (∀ st ie : Nat, st < 65536 → ie < 65536 →
    nextGeneration st ie ≠ ie ∧ nextGeneration st ie < 65536 ∧
    (nextGeneration st ie = (st + 1) % 65536 ∨
      ((st + 1) % 65536 = ie ∧ nextGeneration st ie = (st + 2) % 65536))) ∧
  (∀ s : State,
    commit s = { s with tables := { s.tables with
      curve := (commit s).tables.curve, bias := (commit s).tables.bias, stdf := (commit s).tables.stdf } } ∧
    (s.tables.curve.stagedGen = s.tables.curve.inEffectGen → (commit s).tables.curve = s.tables.curve) ∧
    (s.tables.curve.stagedGen ≠ s.tables.curve.inEffectGen → (commit s).tables.curve =
      ⟨s.tables.curve.staged, s.tables.curve.staged, s.tables.curve.stagedGen, s.tables.curve.stagedGen⟩) ∧
    (s.tables.bias.stagedGen = s.tables.bias.inEffectGen → (commit s).tables.bias = s.tables.bias) ∧
    (s.tables.bias.stagedGen ≠ s.tables.bias.inEffectGen → (commit s).tables.bias =
      ⟨s.tables.bias.staged, s.tables.bias.staged, s.tables.bias.stagedGen, s.tables.bias.stagedGen⟩) ∧
    (s.tables.stdf.stagedGen = s.tables.stdf.inEffectGen → (commit s).tables.stdf = s.tables.stdf) ∧
    (s.tables.stdf.stagedGen ≠ s.tables.stdf.inEffectGen → (commit s).tables.stdf =
      ⟨s.tables.stdf.staged, s.tables.stdf.staged, s.tables.stdf.stagedGen, s.tables.stdf.stagedGen⟩))

/-! ### Standardization (chapter 2) -/

/-- A participant's result: it fails for coverage below half the target count or at a reference mean of 0, for drift above
its limit, and else passes with its factor limited to 8192 to 32767. -/
def Obligations.ParticipantResultByCoverageDriftAndFactor : Prop :=
  ∀ (target : Nat) (p : Participant),
    let mean := (2 * p.sum + p.valid) / (2 * p.valid)
    let drift := (mean - p.rRef + (p.rRef - mean)) * 10000 / p.rRef
    let q := (2 * (p.rRef * 16384) + mean) / (2 * mean)
    (p.valid < (target + 1) / 2 → p.result target = .failsCoverage) ∧
    ((target + 1) / 2 ≤ p.valid → mean = 0 → p.result target = .failsCoverage) ∧
    ((target + 1) / 2 ≤ p.valid → mean ≠ 0 → p.driftLimit < drift → p.result target = .failsDrift) ∧
    ((target + 1) / 2 ≤ p.valid → mean ≠ 0 → drift ≤ p.driftLimit →
      p.result target = .passes (if q < 8192 then 8192 else if 32767 < q then 32767 else q))

/-- The standardize unit and a sample: one without the reference flag is ignored; a reference sample before the S-th adds the
ready participants' raw counts; the S-th ends the collection, sends HEAD_MODE NORMAL, stages the passing factors with one
advance of the generation, raises STD_ABORT and STD_DRIFT once each for their causes, sets the counter to 0, clears the
request, and tells the frame controller, which approaches or enters PARKED, and so the break watch, which in PARK or LATCHED
mode goes from BREAK to SHEET_OFF. -/
def Obligations.ReferenceSamplesCountAndComplete : Prop :=
  ∀ (x : Sample) (c : Collection) (s : State), s.standardize.collection = some c →
    (x.frame.reference = false → standardizeTakes x s = s) ∧
    (x.frame.reference = true → c.count + 1 < c.target →
      standardizeTakes x s = { s with standardize := { s.standardize with collection := some { c with
        count := c.count + 1
        participants :=
          ⟨c.participants.bw.map (fun p => if x.frame.ready.bw then
              { p with sum := p.sum + x.frame.raw.bw, valid := p.valid + 1 } else p),
           c.participants.mo.map (fun p => if x.frame.ready.mo then
              { p with sum := p.sum + x.frame.raw.mo, valid := p.valid + 1 } else p),
           c.participants.ca.map (fun p => if x.frame.ready.ca then
              { p with sum := p.sum + x.frame.raw.ca, valid := p.valid + 1 } else p),
           c.participants.tr.map (fun p => if x.frame.ready.tr then
              { p with sum := p.sum + x.frame.raw.tr, valid := p.valid + 1 } else p)⟩ } } }) ∧
    (x.frame.reference = true → c.target ≤ c.count + 1 →
      let r := (c.add x.frame).results
      let counted (ready : Bool) (raw : Nat) (p : Participant) : Participant :=
        if ready then { p with sum := p.sum + raw, valid := p.valid + 1 } else p
      let t := standardizeTakes x s
      let home := s.port.handHead .normal
      t = { s with
        tables := { s.tables with stdf := t.tables.stdf }
        standardize := ⟨false, 0, none⟩
        frame := t.frame, port := t.port
        watch := if s.watch.state = .broken ∧ s.tables.sheet.mode ≠ .report then
            { s.watch with
              state := .sheetOff, breakRun := 0, heldRun := none, sheetRun := 0
              probe := some ⟨1000 * s.tables.sheet.probeInterval, 0⟩ }
          else { s.watch with breakRun := 0, heldRun := none, sheetRun := 0 }
        conditions := { s.conditions with raised := t.conditions.raised } } ∧
      r.bw = c.participants.bw.map (fun p => (counted x.frame.ready.bw x.frame.raw.bw p).result c.target) ∧
      r.mo = c.participants.mo.map (fun p => (counted x.frame.ready.mo x.frame.raw.mo p).result c.target) ∧
      r.ca = c.participants.ca.map (fun p => (counted x.frame.ready.ca x.frame.raw.ca p).result c.target) ∧
      r.tr = c.participants.tr.map (fun p => (counted x.frame.ready.tr x.frame.raw.tr p).result c.target) ∧
      (s.frame.scanOn = false → t.frame = { s.frame with carriage := .parked } ∧ t.port = home) ∧
      (∀ g, s.frame.scanOn = true → governing s = some g →
        let front := (limitsOf s.tables.frame.minimumWidth g s.binning.lastGood).front
        t.frame.carriage = .traverse .positioning .fwd ∧ t.frame.target = some ⟨front, g.speed⟩ ∧
        t.port = home.handDrive (.move front g.speed)) ∧
      (∀ q, r.bw = some (.passes q) → t.tables.stdf.staged.bw = q) ∧
      ((∀ q, r.bw ≠ some (.passes q)) → t.tables.stdf.staged.bw = s.tables.stdf.staged.bw) ∧
      (∀ q, r.mo = some (.passes q) → t.tables.stdf.staged.mo = q) ∧
      ((∀ q, r.mo ≠ some (.passes q)) → t.tables.stdf.staged.mo = s.tables.stdf.staged.mo) ∧
      (∀ q, r.ca = some (.passes q) → t.tables.stdf.staged.ca = q) ∧
      ((∀ q, r.ca ≠ some (.passes q)) → t.tables.stdf.staged.ca = s.tables.stdf.staged.ca) ∧
      (∀ q, r.tr = some (.passes q) → t.tables.stdf.staged.tr = q) ∧
      ((∀ q, r.tr ≠ some (.passes q)) → t.tables.stdf.staged.tr = s.tables.stdf.staged.tr) ∧
      ((∃ a ∈ resultList r, a.isPass = true) →
        t.tables.stdf.stagedGen = nextGeneration s.tables.stdf.stagedGen s.tables.stdf.inEffectGen ∧
        t.tables.stdf.inEffect = s.tables.stdf.inEffect ∧ t.tables.stdf.inEffectGen = s.tables.stdf.inEffectGen) ∧
      ((∀ a ∈ resultList r, a.isPass = false) → t.tables.stdf = s.tables.stdf) ∧
      t.conditions.raised.map Raising.condition = s.conditions.raised.map Raising.condition ++
        (if some .failsCoverage ∈ [r.bw, r.mo, r.ca, r.tr] then [.stdAbort] else []) ++
        (if some .failsDrift ∈ [r.bw, r.mo, r.ca, r.tr] then [.stdDrift] else []))

/-! ### Slices, edges and exclusion (chapter 3) -/

/-- A position belongs to slice k of a map exactly when b_k ≤ p < b_{k+1}. A sample is binned for each profile channel on its
own: a usable value is added to its slice's sum and count, or sets the saturated mark at a count of 4095; a reference sample,
a position outside the map, an unusable value and a sample with no traverse open add nothing. -/
def Obligations.SampleIsBinnedIntoItsSlice : Prop :=
  (∀ (r : MapRecord) (p : Nat), strictlyRising r.boundaries = true →
    (∀ k : Nat, r.sliceOf p = some k ↔
      ∃ a b, r.boundaries[k]? = some a ∧ r.boundaries[k + 1]? = some b ∧ a ≤ p ∧ p < b) ∧
    (∀ b, r.boundaries.head? = some b → p < b → r.sliceOf p = none) ∧
    (∀ b, r.boundaries.getLast? = some b → b ≤ p → r.sliceOf p = none)) ∧
  ((∀ (x : Sample) (s : State), s.binning.openTraverse = none → binningTakes x s = s) ∧
  (∀ (x : Sample) (s : State) (o : OpenTraverse), s.binning.openTraverse = some o →
    binningTakes x s = { s with binning := { s.binning with openTraverse := some { o with
      bank := binBank o.map.record x o.bank, finder := o.finder.take s.tables.sheet x } } }) ∧
  (∀ (r : MapRecord) (x : Sample) (b : Bank), x.frame.reference = true ∨ r.sliceOf x.frame.position = none →
    binBank r x b = b) ∧
  (∀ (r : MapRecord) (x : Sample) (b : Bank) (k : Nat), x.frame.reference = false →
    r.sliceOf x.frame.position = some k →
    ∀ (j : Nat) (c : ProfileChannel), ((binBank r x b)[j]?).map (fun a => a.get c) =
      (b[j]?).map (fun a =>
        if j ≠ k then a.get c
        else match (x.profileValue c).usable with
          | none => a.get c
          | some v =>
            if (a.get c).count < 4095 then ⟨(a.get c).sum + v, (a.get c).count + 1, (a.get c).saturated⟩
            else ⟨(a.get c).sum, (a.get c).count, true⟩)))

/-- The edge finder and one sample of the open traverse: a reference sample is passed over but for its gap; a sheet sample
short of the run counts on; clear and unusable samples end or keep the run as the phase has it; in LEFT nothing changes. That
the gap resets the run also at a reference sample, and not in LEFT, is the model's reading (log 22). -/
def Obligations.EdgeFinderTakesOneSample : Prop :=
  ∀ (t : SheetSettings) (x : Sample) (e : EdgeFinder),
    (e.phase = .left → e.take t x = e) ∧
    (e.phase ≠ .left → x.afterGap = true →
      e.take t x = EdgeFinder.take t { x with afterGap := false } { e with runCount := 0, runStart := none }) ∧
    (x.afterGap = false → x.frame.reference = true → e.take t x = e) ∧
    (x.afterGap = false → x.frame.reference = false → e.phase = .seeking →
      (x.tr.usable = none → e.take t x = { e with runCount := 0, runStart := none }) ∧
      (∀ v, x.tr.usable = some v → t.trPresent ≤ v →
        e.take t x = { e with runCount := 0, runStart := none, clearSeen := true }) ∧
      (∀ v, x.tr.usable = some v → v < t.trPresent → e.runCount = 0 → 1 < t.m →
        e.take t x = { e with runCount := 1, runStart := some x.frame.position }) ∧
      (∀ v p, x.tr.usable = some v → v < t.trPresent → e.runCount ≠ 0 → e.runStart = some p → e.runCount + 1 < t.m →
        e.take t x = { e with runCount := e.runCount + 1 })) ∧
    (x.afterGap = false → x.frame.reference = false → e.phase = .onSheet →
      (x.tr.usable = none → e.take t x = { e with runCount := 0 }) ∧
      (∀ v, x.tr.usable = some v → v < t.trPresent →
        e.take t x = { e with lastSheet := some x.frame.position, runCount := 0 }) ∧
      (∀ v, x.tr.usable = some v → t.trPresent ≤ v → e.runCount + 1 < t.m →
        e.take t x = { e with runCount := e.runCount + 1 }))

/-- A run of M sheet samples from SEEKING finds the entering edge at the run's first position, flagged at-limit when no clear
sample was seen before; a run of M clear samples from ON_SHEET finds the leaving edge at the last sheet position. -/
def Obligations.RunsOfMFindTheEdges : Prop :=
  ∀ (t : SheetSettings) (e : EdgeFinder) (x : Sample) (xs : List Sample),
    e.runCount = 0 → (x :: xs).length = t.m →
    (∀ y ∈ x :: xs, y.frame.reference = false ∧ y.afterGap = false) →
    (e.phase = .seeking → (∀ y ∈ x :: xs, ∃ v, y.tr.usable = some v ∧ v < t.trPresent) →
      (x :: xs).foldl (fun e y => e.take t y) e =
        { e with
          phase := .onSheet, runCount := 0, runStart := none
          lastSheet := ((x :: xs).getLast?).map (fun y => y.frame.position)
          entering := some ⟨x.frame.position, !e.clearSeen⟩ }) ∧
    (e.phase = .onSheet → (∀ y ∈ x :: xs, ∃ v, y.tr.usable = some v ∧ t.trPresent ≤ v) →
      (x :: xs).foldl (fun e y => e.take t y) e =
        { e with phase := .left, runCount := t.m, leaving := e.lastSheet.map (fun p => ⟨p, false⟩) })

/-- The edges of a traverse at its closing: the map's span when TR is not fitted; the last good edges or the span, marked
lost, when no entering edge was found; else entering and leaving edge turned into front and back by the direction, with the
last sheet position, at-limit, as the leaving edge of a traverse that ends on the sheet. -/
def Obligations.EdgesAtTheClosing : Prop :=
  ∀ (lastGood : Option Span) (o : OpenTraverse),
    edgesAtClosing false lastGood o =
      ⟨o.map.record.boundaries.headD 0, o.map.record.boundaries.getLastD 0 - 1, false, false, false⟩ ∧
    (o.finder.phase = .seeking →
      (∀ g, lastGood = some g → edgesAtClosing true lastGood o = ⟨g.front, g.back, false, false, true⟩) ∧
      (lastGood = none → edgesAtClosing true lastGood o =
        ⟨o.map.record.boundaries.headD 0, o.map.record.boundaries.getLastD 0 - 1, false, false, true⟩)) ∧
    (∀ (e : EdgeMark) (p : Nat), o.finder.phase = .onSheet → o.finder.entering = some e →
      o.finder.lastSheet = some p → edgesAtClosing true lastGood o =
        match o.direction with
        | .fwd => ⟨e.position, p, e.atLimit, true, false⟩
        | .rev => ⟨p, e.position, true, e.atLimit, false⟩) ∧
    (∀ e l : EdgeMark, o.finder.phase = .left → o.finder.entering = some e → o.finder.leaving = some l →
      edgesAtClosing true lastGood o =
        match o.direction with
        | .fwd => ⟨e.position, l.position, e.atLimit, l.atLimit, false⟩
        | .rev => ⟨l.position, e.position, l.atLimit, e.atLimit, false⟩)

/-- A slice is excluded exactly when it is off the sheet, near an edge, or ruled out by the fixed excluded range; the slices
inside the edges form one unbroken run; the marks are one per slice. -/
def Obligations.ExclusionByTheThreeTests : Prop :=
  ∀ (r : MapRecord) (e : Edges) (w : Nat), strictlyRising r.boundaries = true →
    let inside : Nat → Prop := fun k =>
      ∃ a b, r.boundaries[k]? = some a ∧ r.boundaries[k + 1]? = some b ∧ e.front ≤ a ∧ b - 1 ≤ e.back
    (exclusion r e w).length = r.boundaries.length - 1 ∧
    (∀ i j k, inside i → inside j → i ≤ k → k ≤ j → inside k) ∧
    (∀ k, k + 1 < r.boundaries.length →
      ((exclusion r e w)[k]? = some true ↔
        (¬ inside k) ∨
        (∃ i j, inside i ∧ inside j ∧ (∀ n, inside n → i ≤ n ∧ n ≤ j) ∧
          ((i ≤ k ∧ k < i + w) ∨ (j < k + w ∧ k ≤ j))) ∨
        (∃ first last, r.fixedRange = some (first, last) ∧ first ≤ k ∧ k ≤ last)))

/-! ### Profile close-out (chapter 4) -/

/-- MEANS completes: every slice marked EXCLUDED, valid with its mean, or EMPTY; valid count, SHORT, scan average and
deviations for every profiled channel, and nothing but the engine's phase and results changed. -/
def Obligations.MeansMarksSlicesAndFindsAverages : Prop :=
  ∀ (s : State) (bank : Bank) (p : ClosingParams), s.closeOut.engine = .means bank p →
    ∃ m : MeansResults,
      exec .meansComplete s = .next { s with closeOut := { s.closeOut with engine := .filter bank p m } } ∧
      m.excluded = exclusion p.map.record p.edges p.edgeWidth ∧ m.eligible = m.excluded.count false ∧
      ∀ c : ProfileChannel,
        (p.profiled.get c = false → m.channels.get c = none) ∧
        (p.profiled.get c = true → ∃ cm : ChannelMeans, m.channels.get c = some cm ∧
          cm.valid = (cm.slices.filterMap SliceOutcome.mean?).length ∧
          (cm.short = true ↔ cm.valid = 0 ∨ cm.valid < (m.eligible * p.quorum + 99) / 100) ∧
          cm.average = (if cm.valid = 0 then none
            else some ((2 * (cm.slices.filterMap SliceOutcome.mean?).sum + cm.valid) / (2 * cm.valid))) ∧
          ∀ (k : Nat) (x : Bool) (a : PerProfile Accumulator), m.excluded[k]? = some x → bank[k]? = some a →
            cm.slices[k]? = some (
              if x then .excluded
              else if p.nmin ≤ (a.get c).count then
                let mean := (2 * (a.get c).sum + (a.get c).count) / (2 * (a.get c).count)
                .valid mean (if cm.short then none else cm.average.map (fun g => (mean : Int) - g))
              else .empty))

/-- The filter of one slice record. A valid slice of a channel that is not SHORT goes to 16d from UNSET, else moves by
(16d − F) × w / 256, halves upward, never past 16d, and wholly with w = 256; it becomes VALID, age 0, FRESH, with the slice
mean, and F stays within its bounds. An EMPTY slice is held and ages, and turns STALE past the stale limit; an excluded slice
keeps F, state and age; in a SHORT channel every record keeps them and only status and last mean follow the scan. -/
def Obligations.FilterWritesEverySliceByItsOutcome : Prop :=
  (∀ (w stale mean : Nat) (d : Int) (r : SliceRecord), w ≤ 256 →
    let r' := filterSlice w stale false (.valid mean (some d)) r
    r'.state = .valid ∧ r'.age = 0 ∧ r'.status = .fresh ∧ r'.lastMean = some mean ∧
    (r.state = .unset → r'.f = 16 * d) ∧
    (r.state ≠ .unset → r'.f = r.f + ((16 * d - r.f) * (w : Int) + 128) / 256 ∧
      min r.f (16 * d) ≤ r'.f ∧ r'.f ≤ max r.f (16 * d) ∧ (w = 256 → r'.f = 16 * d)) ∧
    (-65535 ≤ d → d ≤ 65535 → -1048560 ≤ r.f → r.f ≤ 1048560 → -1048560 ≤ r'.f ∧ r'.f ≤ 1048560)) ∧
  (∀ (w stale : Nat) (r : SliceRecord),
    (r.state = .unset → filterSlice w stale false .empty r = { r with status := .held, lastMean := none }) ∧
    (r.state ≠ .unset → filterSlice w stale false .empty r =
      { r with
        age := min 15 (r.age + 1), status := .held, lastMean := none
        state := if stale < min 15 (r.age + 1) then .stale else r.state }) ∧
    (∀ short : Bool, filterSlice w stale short .excluded r = { r with status := .excluded, lastMean := none }) ∧
    (∀ (mean : Nat) (d : Option Int), filterSlice w stale true (.valid mean d) r =
      { r with status := .unwritten, lastMean := some mean }) ∧
    filterSlice w stale true .empty r = { r with status := .unwritten, lastMean := none })

/-- FILTER completes: the traverse map is adopted if it is not the profile map, every profiled channel's records are filtered
at once, the others are left or stand as the adoption cleared them, and SHORT_SCAN is raised if a profiled channel is
SHORT. That the adoption falls with the writing is the model's reading (log 26), and that a first close-out after a reset
whose map the take has brought already does not adopt follows R121 against R79 (log 35). -/
def Obligations.FilterWritesTheProfileAtOnce : Prop :=
  ∀ (s : State) (bank : Bank) (p : ClosingParams) (m : MeansResults), s.closeOut.engine = .filter bank p m →
    s.conditions.raised = [] →
    let keeps := s.profile.map = some p.map.identity
    ∃ t : State, exec .filterComplete s = .next t ∧
      t = { s with
        closeOut := { s.closeOut with engine := .stats bank p m }
        profile := { s.profile with map := t.profile.map, records := t.profile.records, note := t.profile.note }
        conditions := t.conditions, choices := t.choices } ∧
      t.profile.map = some p.map.identity ∧
      (keeps → t.profile.note = s.profile.note) ∧ (¬ keeps → t.profile.note = some .cleared) ∧
      (∀ (c : ProfileChannel) (base : List SliceRecord), (keeps → base = s.profile.records.get c) →
        (¬ keeps → base = List.replicate p.map.record.sliceCount ⟨0, .unset, 0, .unwritten, none⟩) →
        (m.channels.get c = none → t.profile.records.get c = base) ∧
        (∀ cm, m.channels.get c = some cm → ∀ (k : Nat) (o : SliceOutcome) (r : SliceRecord),
          cm.slices[k]? = some o → base[k]? = some r →
          (t.profile.records.get c)[k]? = some (filterSlice p.weight p.staleLimit cm.short o r))) ∧
      ((∃ c cm, m.channels.get c = some cm ∧ cm.short = true) →
        t.conditions = s.conditions.take (alarmNow .shortScan s)) ∧
      ((∀ c cm, m.channels.get c = some cm → cm.short = false) → t.conditions = s.conditions)

/-- The successive approximation finds the largest whole number whose square does not exceed Q. STATS completes with the spread
and range of every profiled channel that is not SHORT, from the filtered values of its slices that are not excluded and
VALID, absent when there are none; nothing but the engine changes. -/
def Obligations.StatsGiveSpreadAndRange : Prop :=
  (∀ q : Nat, q < 2 ^ 42 → sigma16 q * sigma16 q ≤ q ∧ q < (sigma16 q + 1) * (sigma16 q + 1)) ∧
  ((∀ (s : State) (bank : Bank) (p : ClosingParams) (m : MeansResults), s.closeOut.engine = .stats bank p m →
    ∃ st : StatsResults,
      exec .statsComplete s = .next { s with closeOut := { s.closeOut with engine := .monitors bank p m st } } ∧
      ∀ c : ProfileChannel,
        (m.channels.get c = none → st.get c = none) ∧
        (∀ cm, m.channels.get c = some cm → cm.short = true → st.get c = none) ∧
        (∀ cm, m.channels.get c = some cm → cm.short = false →
          st.get c = statsOf (statsValues m.excluded (s.profile.records.get c)))) ∧
  (∀ (excluded : List Bool) (rs : List SliceRecord), statsValues excluded rs =
    (List.range rs.length).filterMap (fun k => match excluded[k]?, rs[k]? with
      | some false, some r => if r.state = .valid then some r.f else none
      | _, _ => none)) ∧
  statsOf [] = none ∧
  (∀ fs : List Int, fs ≠ [] →
    let mean := (2 * fs.sum + fs.length) / (2 * fs.length)
    let q := ((fs.map (fun f => (f - mean) * (f - mean))).sum / fs.length).toNat
    ∃ hi lo : Int, hi ∈ fs ∧ lo ∈ fs ∧ (∀ f ∈ fs, lo ≤ f ∧ f ≤ hi) ∧
      statsOf fs = some ⟨(4 * sigma16 q + 16) / 32, (2 * (hi - lo).toNat + 16) / 32⟩))

/-- The outcome of a monitor: its source picks the figure, which stands against its window and is UNORDERED when absent; a
SLICE monitor's watched slices, those of its range that exist and are not excluded, decide by the first case of their list that
holds, and the number of them above or below is its slices outside. BELOW and ABOVE count up, saturating at 15, and trip at P;
WITHIN clears the count and re-arms; UNORDERED leaves count and state. -/
def Obligations.MonitorOutcomeAndPersistence : Prop :=
  ((∀ low high : Int, figureOutcome low high none = .unordered) ∧
  (∀ (low high : Int) (v : Nat), low ≤ high →
    ((v : Int) < low → figureOutcome low high (some v) = .below) ∧
    (low ≤ (v : Int) → (v : Int) ≤ high → figureOutcome low high (some v) = .within) ∧
    (high < (v : Int) → figureOutcome low high (some v) = .above)) ∧
  (∀ (low high : Int) (rs : List SliceRecord), low ≤ high →
    let above : SliceRecord → Prop := fun r => r.state = .valid ∧ 16 * high < r.f
    let below : SliceRecord → Prop := fun r => r.state = .valid ∧ r.f < 16 * low
    let o := classesOutcome (rs.map (classifySlice low high))
    (rs = [] → o = .unordered) ∧
    ((∃ r ∈ rs, above r) → o = .above) ∧
    ((∀ r ∈ rs, ¬ above r) → (∃ r ∈ rs, below r) → o = .below) ∧
    ((∀ r ∈ rs, ¬ above r ∧ ¬ below r) → (∃ r ∈ rs, r.state ≠ .valid) → o = .unordered) ∧
    (rs ≠ [] → (∀ r ∈ rs, ¬ above r ∧ ¬ below r ∧ r.state = .valid) → o = .within))) ∧
  (∀ (r : MonitorRecord) (c : ChannelResults),
    (r.source = .scanAvg → monitorOutcome r c = (figureOutcome r.low r.high c.average, none)) ∧
    (r.source = .spread → monitorOutcome r c = (figureOutcome r.low r.high (c.stats.map (fun x => x.spread)), none)) ∧
    (r.source = .range → monitorOutcome r c = (figureOutcome r.low r.high (c.stats.map (fun x => x.range)), none)) ∧
    (∀ first last : Nat, r.source = .slice first last →
      let watched := ((List.range c.records.length).filter (fun k =>
        decide (first ≤ k ∧ k ≤ last ∧ c.excluded[k]? = some false))).filterMap (fun k => c.records[k]?)
      monitorOutcome r c = (classesOutcome (watched.map (classifySlice r.low r.high)),
        some (watched.countP (fun w => decide (w.state = .valid ∧ (16 * r.high < w.f ∨ w.f < 16 * r.low))))))) ∧
  (∀ (m : Monitor) (scan : Nat) (outside : Option Nat),
    (∀ o : MonitorOutcome, o = .below ∨ o = .above → m.after scan o outside =
      { m with
        count := min 15 (m.count + 1)
        state := if m.record.persistence ≤ min 15 (m.count + 1) then .tripped else m.state
        lastOutcome := some o, lastScan := some scan, slicesOutside := outside }) ∧
    m.after scan .within outside = { m with
      count := 0, state := .armed, lastOutcome := some .within, lastScan := some scan, slicesOutside := outside } ∧
    m.after scan .unordered outside = { m with
      lastOutcome := some .unordered, lastScan := some scan, slicesOutside := outside })

/-- MONITORS completes: exactly the enabled monitors on profiled channels that are not SHORT are evaluated, with the scan
number that the REPORT will carry, and written at once; the engine gets of each of them number, channel, outcome and state, in
monitor order; MON_TRIP is raised exactly when a monitor went from ARMED to TRIPPED, MON_INVALID exactly when an evaluated
STRICT monitor came out UNORDERED. -/
def Obligations.MonitorsAreEvaluatedAtOnce : Prop :=
  ∀ (s : State) (bank : Bank) (p : ClosingParams) (m : MeansResults) (st : StatsResults),
    s.closeOut.engine = .monitors bank p m st → s.conditions.raised = [] →
    let outcome : MonitorRecord → ChannelMeans → MonitorOutcome × Option Nat := fun r cm =>
      monitorOutcome r ⟨cm.average, st.get r.channel, m.excluded, s.profile.records.get r.channel⟩
    let evaluated : Monitor → ChannelMeans → Prop := fun mon cm =>
      mon.record.enabled = true ∧ m.channels.get mon.record.channel = some cm ∧ cm.short = false
    let written : Monitor → ChannelMeans → Monitor := fun mon cm =>
      mon.after ((s.closeOut.scanNumber + 1) % 65536) (outcome mon.record cm).1 (outcome mon.record cm).2
    ∃ (t : State) (results : List MonitorResult), exec .monitorsComplete s = .next t ∧
      t = { s with
        closeOut := { s.closeOut with engine := .report bank p m st results }
        monitors := t.monitors, conditions := t.conditions, choices := t.choices } ∧
      t.monitors.length = s.monitors.length ∧
      (∀ (k : Nat) (mon : Monitor), s.monitors[k]? = some mon →
        ((∀ cm, ¬ evaluated mon cm) → t.monitors[k]? = some mon) ∧
        (∀ cm, evaluated mon cm → t.monitors[k]? = some (written mon cm))) ∧
      results.Pairwise (fun a b => a.number < b.number) ∧
      (∀ e : MonitorResult, e ∈ results ↔ ∃ mon cm, s.monitors[e.number]? = some mon ∧ evaluated mon cm ∧
        e = ⟨e.number, mon.record.channel, (outcome mon.record cm).1, (written mon cm).state⟩) ∧
      (t.conditions.flag .monTrip = true ↔ s.conditions.flag .monTrip = true ∨
        ∃ (k : Nat) (mon mon' : Monitor), s.monitors[k]? = some mon ∧ t.monitors[k]? = some mon' ∧
          mon.state = .armed ∧ mon'.state = .tripped) ∧
      (t.conditions.flag .monInvalid = true ↔ s.conditions.flag .monInvalid = true ∨
        ∃ (k : Nat) (mon : Monitor) (cm : ChannelMeans), s.monitors[k]? = some mon ∧ evaluated mon cm ∧
          mon.record.kind = .strict ∧ (outcome mon.record cm).1 = .unordered) ∧
      (∀ c : Condition, c ≠ .monTrip → c ≠ .monInvalid → c ≠ .linkError →
        t.conditions.flag c = s.conditions.flag c)

/-- REPORT completes: the scan number advances, the edges that are not lost become the last good edges, trend record and report
are placed, a report removed unsent is counted, the note is taken, the counter counts, the engine is IDLE, and a waiting profile
action is applied. A standardize that falls due sets the request flag, and in PARKED enters STANDARDIZING. -/
def Obligations.ReportEndsTheCloseOut : Prop :=
  ∀ (s : State) (bank : Bank) (p : ClosingParams) (m : MeansResults) (st : StatsResults) (mons : List MonitorResult),
    s.closeOut.engine = .report bank p m st mons →
    ∃ (t : State) (r : TrendRecord) (ring : List TrendRecord) (frames : List ProfileReport),
      exec .reportComplete s = .next t ∧
      (let counter := min 255 (s.standardize.counter + 1)
       let taken : ProfileStore := { s.profile with note := none, trend := ring }
       let base : State := { s with
        closeOut := ⟨.idle, (s.closeOut.scanNumber + 1) % 65536⟩
        binning := { s.binning with lastGood :=
          if p.edges.lost then s.binning.lastGood else some ⟨p.edges.front, p.edges.back⟩ }
        profile := match s.profile.action with
          | none => taken
          | some a => { taken with action := none }.applyAction a
        standardize := { s.standardize with counter := counter }
        mill := { s.mill with reports :=
          s.mill.reports.filter (fun g => !g.isProfile) ++ frames.map ReportFrame.profile }
        conditions := { s.conditions with counters := { s.conditions.counters with
          reportsDropped := if s.mill.reports.any ReportFrame.isProfile
            then min 65535 (s.conditions.counters.reportsDropped + 1) else s.conditions.counters.reportsDropped } } }
       let due := ∃ c, s.contexts.inEffect = some c ∧ c.interval ≠ 0 ∧ c.interval ≤ counter
       (¬ due → t = base) ∧
       (due → s.frame.carriage ≠ .parked → t = { base with standardize := { base.standardize with request := true } }) ∧
       (due → s.frame.carriage = .parked → t = { base with
        standardize := ⟨true, counter,
          some ⟨participantsNow s, s.tables.frame.s, 0, ⟨s.tables.frame.stdTimeout, 0⟩⟩⟩
        frame := { s.frame with carriage := .standardizing }
        port := s.port.handHead .reference
        watch := { s.watch with breakRun := 0, heldRun := none, sheetRun := 0 } })) ∧
      (s.profile.trend.length < 64 → ring = s.profile.trend ++ [r]) ∧
      (s.profile.trend.length = 64 → ring = s.profile.trend.tail ++ [r]) ∧
      r.scanNumber = (s.closeOut.scanNumber + 1) % 65536 ∧ r.timestamp = p.timestamp ∧ r.direction = p.direction ∧
      r.tag = p.tag ∧ r.map = p.map.identity ∧ r.edgeLost = p.edges.lost ∧
      (r.edgesAtLimit = true ↔ p.edges.frontAtLimit = true ∨ p.edges.backAtLimit = true) ∧
      (r.profileCleared = true ↔ s.profile.note = some .cleared ∨ s.profile.note = some .restoreFailed) ∧
      r.front = p.edges.front ∧ r.back = p.edges.back ∧
      (∀ c : ProfileChannel, r.channels.get c =
        (m.channels.get c).map (fun cm => ⟨cm.short, cm.valid, cm.average, st.get c⟩)) ∧
      frames.map ProfileReport.channel =
        [ProfileChannel.bw, .mo, .ca, .dw].filter (fun c => (m.channels.get c).isSome) ∧
      (∀ g ∈ frames, ∃ cm, m.channels.get g.channel = some cm ∧ g = {
        scanNumber := (s.closeOut.scanNumber + 1) % 65536, timestamp := p.timestamp, channel := g.channel
        direction := p.direction, tag := p.tag, map := p.map.identity, edges := p.edges
        short := cm.short, event := s.profile.note, eligible := m.eligible, valid := cm.valid
        average := cm.average, stats := st.get g.channel
        saturated := bank.countP (fun a => (a.get g.channel).saturated)
        monitors := mons.filter (fun e => e.channel == g.channel)
        slices := (s.profile.records.get g.channel).map (fun w => ⟨w.f, w.state, w.status⟩) })

/-- A profile action applied: KEEP on the map it was taken for changes nothing; KEEP on another map and CLEAR clear every
record onto the recorded map; RESTORE takes the slot's images, or clears and notes its failure. -/
def Obligations.ProfileActionsKeepClearOrRestore : Prop :=
  ∀ (p : ProfileStore) (id : MapIdentity),
    let cleared : Option ProfileNote → ProfileStore := fun note => { p with
      map := some id, note := note
      records := ⟨List.replicate id.sliceCount ⟨0, .unset, 0, .unwritten, none⟩,
        List.replicate id.sliceCount ⟨0, .unset, 0, .unwritten, none⟩,
        List.replicate id.sliceCount ⟨0, .unset, 0, .unwritten, none⟩,
        List.replicate id.sliceCount ⟨0, .unset, 0, .unwritten, none⟩⟩ }
    (p.map = some id → p.applyAction ⟨.keep, id⟩ = p) ∧
    (p.map ≠ some id → p.applyAction ⟨.keep, id⟩ = cleared (some .cleared)) ∧
    p.applyAction ⟨.clear, id⟩ = cleared (some .cleared) ∧
    (∀ k, (p.slots.getD k none = none ∨ (∃ x, p.slots.getD k none = some x ∧ x.sliceCount ≠ id.sliceCount)) →
      p.applyAction ⟨.restore k, id⟩ = cleared (some .restoreFailed)) ∧
    (∀ k x, p.slots.getD k none = some x → x.sliceCount = id.sliceCount →
      ∃ q : PerProfile (List SliceRecord),
        p.applyAction ⟨.restore k, id⟩ = { p with map := some id, note := some .restored, records := q } ∧
        ∀ c : ProfileChannel,
          (∀ im, x.images.get c = some im →
            q.get c = im.map (fun e => ⟨e.f, e.state, 0, .unwritten, none⟩)) ∧
          (x.images.get c = none →
            q.get c = List.replicate id.sliceCount ⟨0, .unset, 0, .unwritten, none⟩))

/-! ### Frame control (chapter 5) -/

/-- The limits of a traverse: the context's, or with tracking on and last good edges present the tracked limits, unless these
are closer together than the minimum traverse width; they never lie outside the context's. -/
def Obligations.LimitsTrackTheEdges : Prop :=
  ∀ (width : Nat) (c : Context) (lastGood : Option Span),
    (c.tracking = none ∨ lastGood = none → limitsOf width c lastGood = ⟨c.front, c.back⟩) ∧
    (∀ (g : Nat) (e : Span), c.tracking = some g → lastGood = some e →
      let front : Int := max c.front ((e.front : Int) - g)
      let back : Int := min c.back ((e.back : Int) + g)
      (back - front < width → limitsOf width c lastGood = ⟨c.front, c.back⟩) ∧
      ((width : Int) ≤ back - front →
        ((limitsOf width c lastGood).front : Int) = front ∧ ((limitsOf width c lastGood).back : Int) = back)) ∧
    c.front ≤ (limitsOf width c lastGood).front ∧ (limitsOf width c lastGood).back ≤ c.back

/-- The frame controller and a sample on the way to park, a limit, a fixed point or the probe position: no arrival outside the 8
counts or before the drive rests. At the arrival at park the break watch is told, which goes from BREAK to SHEET_OFF or starts
an idle probe timer; then a waiting standardize is entered first, else an approach is begun under the scan-on flag, else the
carriage is PARKED. At the fixed point a dwell starts: staged calibration is committed and the windows emptied, which the
samples that follow feed. At the probe position the probe dwell starts, with its timer in SHEET_OFF. Each sample sets the last
position and restarts the silence timer. -/
def Obligations.ArrivalsLeadOnAndDwellsBegin : Prop :=
  (∀ (x : Sample) (s : State) (m : MoveTarget) (d : DriveStatus), s.frame.target = some m → s.frame.lastDrive = some d →
    let p := x.frame.position
    let t := frameTakes x s
    let near := (p ≤ m.position + 8 ∧ m.position ≤ p + 8)
    let noted : FrameController := { s.frame with
      lastPosition := some p, silence := some ⟨s.tables.frame.silencePeriod, 0⟩ }
    let rested : FrameController := { noted with target := none, stall := none }
    (s.frame.carriage.hasMove = true → s.frame.carriage.isScanning = false → (¬ near ∨ d.moving = true) →
      t = { s with frame := noted }) ∧
    (near → d.moving = false →
      (s.frame.carriage = .parking →
        t.watch = { s.watch with
          breakRun := 0, heldRun := none, sheetRun := 0
          state := if s.watch.state = .broken ∧ s.tables.sheet.mode ≠ .report then .sheetOff else s.watch.state
          probe := if (s.watch.state = .broken ∧ s.tables.sheet.mode ≠ .report) ∨
              (s.watch.state = .sheetOff ∧ s.watch.probe = none ∧ s.watch.dwell = none)
            then some ⟨1000 * s.tables.sheet.probeInterval, 0⟩ else s.watch.probe } ∧
        (s.standardize.request = true →
          t.frame = { rested with carriage := .standardizing } ∧ t.port = s.port.handHead .reference ∧
          ∃ c, t.standardize = { s.standardize with collection := some c } ∧ c.target = s.tables.frame.s ∧
            c.count = 0 ∧ c.timer = ⟨s.tables.frame.stdTimeout, 0⟩ ∧
            c.participants.bw = (if s.conditioner.fitted.bw then s.tables.curve.staged.bw.map
              (fun v => ⟨v.rRef, v.driftLimit, 0, 0⟩) else none) ∧
            c.participants.mo = (if s.conditioner.fitted.mo then s.tables.curve.staged.mo.map
              (fun v => ⟨v.rRef, v.driftLimit, 0, 0⟩) else none) ∧
            c.participants.ca = (if s.conditioner.fitted.ca then s.tables.curve.staged.ca.map
              (fun v => ⟨v.rRef, v.driftLimit, 0, 0⟩) else none) ∧
            c.participants.tr = (if s.conditioner.fitted.tr then s.tables.curve.staged.tr.map
              (fun v => ⟨v.rRef, v.driftLimit, 0, 0⟩) else none)) ∧
        (∀ c, s.standardize.request = false → s.frame.scanOn = true → governing s = some c →
          let front := (limitsOf s.tables.frame.minimumWidth c s.binning.lastGood).front
          t.frame = { noted with
            carriage := .traverse .positioning .fwd, target := some ⟨front, c.speed⟩
            stall := some ⟨⟨s.tables.frame.stallPeriod, 0⟩, some ((front - p) + (p - front))⟩ } ∧
          t.port = s.port.handDrive (.move front c.speed)) ∧
        (s.standardize.request = false → s.frame.scanOn = false →
          t.frame = { rested with carriage := .parked } ∧ t.port = s.port)) ∧
      (s.frame.carriage = .fixed .moving → WatchQuiet s →
        t = { s with
          tables := (commit s).tables
          frame := { rested with carriage := .fixed .dwelling, windows := ⟨[], [], [], []⟩ } }) ∧
      (s.frame.carriage = .probing .moving → WatchQuiet s →
        t = { s with
          frame := { rested with carriage := .probing .dwelling }
          watch := if s.watch.state = .sheetOff
            then { s.watch with dwell := some ⟨1000 * s.tables.sheet.probeDwell, 0⟩ } else s.watch }))) ∧
  (∀ (x : Sample) (s : State), s.frame.carriage = .fixed .dwelling →
    ∃ w : PerProfile (List Nat),
      frameTakes x s = { s with frame := { s.frame with
        lastPosition := some x.frame.position, silence := some ⟨s.tables.frame.silencePeriod, 0⟩, windows := w } } ∧
      ∀ c : ProfileChannel, (s.frame.windows.get c).length ≤ 64 →
        w.get c = if x.frame.reference then s.frame.windows.get c
          else match (x.profileValue c).usable with
            | none => s.frame.windows.get c
            | some v =>
              if (s.frame.windows.get c).length < 64 then s.frame.windows.get c ++ [v]
              else (s.frame.windows.get c).tail ++ [v])

/-- A traverse opening at the arrival in POSITIONING: the oldest queued context is taken, or with none queued the context
in effect goes on and nothing is taken; staged calibration is committed, a cleared bank opened on a copy of the context's
map, the edge finder SEEKING, the limits fixed and the carriage sent to the far one. The open traverse keeps its context
and map (the model's form, log 12). At the first opening after a reset the take brings the profile map already, and its
close-out does not adopt again (log 35). -/
def Obligations.OpeningTakesContextMapAndLimits : Prop :=
  ∀ (x : Sample) (s : State) (dir : Direction) (m : MoveTarget) (d : DriveStatus) (c : Context) (r : MapRecord),
    s.frame.carriage = .traverse .positioning dir → s.frame.target = some m → s.frame.lastDrive = some d →
    d.moving = false → x.frame.position ≤ m.position + 8 → m.position ≤ x.frame.position + 8 →
    (s.contexts.queue.head? = some c ∨ (s.contexts.queue = [] ∧ s.contexts.inEffect = some c)) →
    (match c.map with
     | .a => s.tables.mapA
     | .b => s.tables.mapB) = some r →
    let l := limitsOf s.tables.frame.minimumWidth c s.binning.lastGood
    let far := match dir with
      | .fwd => l.back
      | .rev => l.front
    let t := frameTakes x s
    t.contexts = ⟨s.contexts.queue.tail, some c⟩ ∧ t.frame.carriage = .traverse .scanning dir ∧
    t.frame.limits = some l ∧ t.frame.target = some ⟨far, c.speed⟩ ∧
    t.frame.stall.map StallTimer.timer = some ⟨s.tables.frame.stallPeriod, 0⟩ ∧
    t.port = s.port.handDrive (.move far c.speed) ∧ t.binning.lastGood = s.binning.lastGood ∧
    (∃ o, t.binning.openTraverse = some o ∧ o.map.letter = c.map ∧ o.map.record = r ∧ o.context = c ∧
      o.direction = dir ∧ o.breakMark = false ∧
      o.bank = List.replicate r.sliceCount ⟨⟨0, 0, false⟩, ⟨0, 0, false⟩, ⟨0, 0, false⟩, ⟨0, 0, false⟩⟩ ∧
      o.finder = ⟨.seeking, 0, none, none, false, none, none⟩) ∧
    t.tables = (commit s).tables ∧ t.closeOut = s.closeOut ∧ t.mill = s.mill ∧ t.conditions = s.conditions ∧
    t.monitors = s.monitors ∧ t.handler = s.handler ∧ t.clock = s.clock ∧
    (s.contexts.queue = [] → t.profile = s.profile ∧ t.standardize = s.standardize) ∧
    (s.contexts.queue ≠ [] →
      (s.closeOut.engine = .idle → t.profile = s.profile.applyAction ⟨c.action, ⟨c.map, r.id, r.sliceCount⟩⟩) ∧
      (s.closeOut.engine ≠ .idle → t.profile = { s.profile with
        action := some ⟨c.action, ⟨c.map, r.id, r.sliceCount⟩⟩ }) ∧
      t.standardize = { s.standardize with request :=
        s.standardize.request || (decide (c.interval ≠ 0) && decide (c.interval ≤ s.standardize.counter)) })

/-- The reversal of a scanning traverse at its far limit: the open traverse closes into an IDLE engine, raising EDGE_LOST for
lost edges, is discarded as an overrun by a busy one, raising OVERRUN, or is abandoned for a break; then the carriage goes to
park when the scan-on flag is clear or a standardize waits, else it turns. Before the limit nothing but last position and
silence timer changes. Closing parameters and notice read the context and map that the traverse opened with (log 12). -/
def Obligations.ReversalEndsTheTraverse : Prop :=
  ∀ (x : Sample) (s : State) (dir : Direction) (l : Span) (o : OpenTraverse),
    s.frame.carriage = .traverse .scanning dir → s.frame.limits = some l → s.binning.openTraverse = some o →
    let p := x.frame.position
    let far := match dir with
      | .fwd => l.back
      | .rev => l.front
    let rests := (∃ d, s.frame.lastDrive = some d ∧ d.moving = false) ∧ p ≤ far + 8 ∧ far ≤ p + 8
    let beyond := match dir with
      | .fwd => l.back ≤ p
      | .rev => p ≤ l.front
    let broken := o.breakMark = true ∨ (s.tables.sheet.mode = .report ∧ s.watch.state ≠ .sheetOn)
    let edges := edgesAtClosing s.conditioner.fitted.tr s.binning.lastGood o
    let alarm : Condition → AlarmFrame := fun c => ⟨c, s.clock, .traverse, s.watch.state, some p, s.closeOut.scanNumber⟩
    let t := frameTakes x s
    (¬ beyond → ¬ rests → t = { s with frame := { s.frame with
      lastPosition := some p, silence := some ⟨s.tables.frame.silencePeriod, 0⟩ } }) ∧
    (beyond ∨ rests →
      (s.frame.scanOn = false ∨ s.standardize.request = true →
        t.frame.carriage = .parking ∧ t.port = s.port.handDrive (.move s.tables.frame.park 200) ∧
        t.binning.openTraverse = none) ∧
      (∀ c r, s.frame.scanOn = true → s.standardize.request = false → governing s = some c →
        (match c.map with
         | .a => s.tables.mapA
         | .b => s.tables.mapB) = some r →
        let next := limitsOf s.tables.frame.minimumWidth c s.binning.lastGood
        ∃ dir', dir' ≠ dir ∧ t.frame.carriage = .traverse .scanning dir' ∧ t.frame.limits = some next ∧
          t.port = s.port.handDrive (.move (match dir' with
            | .fwd => next.back
            | .rev => next.front) c.speed) ∧
          ∃ o', t.binning.openTraverse = some o' ∧ o'.direction = dir' ∧ o'.map.record = r ∧
            o'.bank.length = r.sliceCount) ∧
      (broken → t.closeOut = s.closeOut ∧ t.conditions.raised = s.conditions.raised ∧
        ∃ n ∈ t.mill.reports, n = .notice ⟨s.closeOut.scanNumber, s.clock, o.direction, o.context.tag,
          ⟨o.map.letter, o.map.record.id, o.map.record.sliceCount⟩, .brk⟩) ∧
      (¬ broken → s.closeOut.engine = .idle → t.mill.reports = s.mill.reports ∧
        t.conditions.raised = s.conditions.raised ++ (if edges.lost then [⟨alarm .edgeLost, []⟩] else []) ∧
        t.closeOut = ⟨.means o.bank
          ⟨o.map, o.context.nmin, o.context.weight, o.context.staleLimit, o.context.quorum, o.context.edgeWidth,
           o.context.tag, o.direction, edges,
           ⟨s.conditioner.fitted.bw, s.conditioner.fitted.mo, s.conditioner.fitted.ca,
            s.conditioner.fitted.bw && s.conditioner.fitted.mo⟩, s.clock⟩, s.closeOut.scanNumber⟩) ∧
      (¬ broken → s.closeOut.engine ≠ .idle → t.closeOut = s.closeOut ∧
        t.conditions.raised = s.conditions.raised ++ [⟨alarm .overrun, []⟩] ∧
        ∃ n ∈ t.mill.reports, n = .notice ⟨s.closeOut.scanNumber, s.clock, o.direction, o.context.tag,
          ⟨o.map.letter, o.map.record.id, o.map.record.sliceCount⟩, .overrun⟩))

/-- The timers of the carriage, once due. Silence: PARKED only raises CARRIAGE_SILENT; a carriage on the way or dwelling
halts; a collection is abandoned with STD_ABORT, its HEAD_MODE NORMAL after the STOP. Stall: a MOVE that came less than 4
counts closer halts, else the distance becomes the reference and the timer runs again. When a timer is due is the model's
reading (log 5). -/
def Obligations.SilenceAndStallHaltTheCarriage : Prop :=
  ∀ s : State, s.conditions.raised = [] →
    (timerDue s.frame.silence = true →
      (s.frame.carriage = .parked → exec .silenceTimerExpiry s = .next { s with
        frame := { s.frame with silence := none }
        conditions := s.conditions.take (alarmNow .carriageSilent s), choices := s.choices + 1 }) ∧
      ((s.frame.carriage.hasMove = true ∨ s.frame.carriage = .fixed .dwelling ∨ s.frame.carriage = .probing .dwelling) →
        s.standardize.collection = none →
        (s.binning.openTraverse = none → exec .silenceTimerExpiry s = .next (s.haltedBy .carriageSilent)) ∧
        (∀ o, s.binning.openTraverse = some o → ∃ t, exec .silenceTimerExpiry s = .next t ∧
          t.binning.openTraverse = none ∧ t.frame = (s.haltedBy .carriageSilent).frame ∧
          t.port = s.port.handDrive .stop ∧ t.conditioner.expected = none ∧
          t.conditions.flag .carriageSilent = true ∧
          ReportFrame.notice ⟨s.closeOut.scanNumber, s.clock, o.direction, o.context.tag, o.map.identity, .halt⟩ ∈
            t.mill.reports)) ∧
      (∀ c, s.frame.carriage = .standardizing → s.standardize.collection = some c → s.binning.openTraverse = none →
        ∃ t, exec .silenceTimerExpiry s = .next t ∧ t.frame = (s.haltedBy .carriageSilent).frame ∧
          t.standardize = ⟨false, s.standardize.counter, none⟩ ∧ t.tables = s.tables ∧
          t.port = (s.port.handDrive .stop).handHead .normal ∧
          t.conditions.flag .carriageSilent = true ∧ t.conditions.flag .stdAbort = true)) ∧
    (∀ (st : StallTimer) (p : Nat) (m : MoveTarget), s.frame.stall = some st → st.timer.due = true →
      s.frame.lastPosition = some p → s.frame.target = some m →
      let d := p - m.position + (m.position - p)
      (∀ r, st.reference = some r → (d : Int) > r - 4 → s.standardize.collection = none →
        (s.binning.openTraverse = none → exec .stallTimerExpiry s = .next (s.haltedBy .driveStall)) ∧
        (∀ o, s.binning.openTraverse = some o → ∃ t, exec .stallTimerExpiry s = .next t ∧
          t.binning.openTraverse = none ∧ t.frame = (s.haltedBy .driveStall).frame ∧
          t.port = s.port.handDrive .stop ∧ t.conditions.flag .driveStall = true ∧
          ReportFrame.notice ⟨s.closeOut.scanNumber, s.clock, o.direction, o.context.tag, o.map.identity, .halt⟩ ∈
            t.mill.reports)) ∧
      ((st.reference = none ∨ ∃ r, st.reference = some r ∧ (d : Int) ≤ r - 4) →
        exec .stallTimerExpiry s = .next { s with frame := { s.frame with
          stall := some ⟨⟨s.tables.frame.stallPeriod, 0⟩, some d⟩ } })) ∧
    (∀ st : StallTimer, s.frame.stall = some st → st.timer.due = true → s.frame.lastPosition = none →
      exec .stallTimerExpiry s = .next { s with frame := { s.frame with
        stall := some ⟨⟨s.tables.frame.stallPeriod, 0⟩, st.reference⟩ } })

/-- The timers of the standardize unit and the break watch, once due: a collection times out with STD_ABORT and nothing
staged, which the break watch takes as the end of a standardize; a probe starts from PARKED and is put off elsewhere; a probe
dwell ends with a park request and a new probe interval; the hold-off ends the break with RESTORED in every mode and carriage
state, in PARK or LATCHED mode sends the carriage home, and standardizes and resumes as the settings say; where the detector
was counting, the run that stood is held for a declaration of the same moment (R148). When a timer is due is the model's
reading (log 5), as is how the run is held beside a break run count of 0 (log 36). -/
def Obligations.StandardizeAndBreakTimersExpire : Prop :=
  ∀ s : State, s.conditions.raised = [] →
    (∀ c, s.standardize.collection = some c → c.timer.due = true →
      let home := s.port.handHead .normal
      ∃ t, exec .stdTimerExpiry s = .next t ∧ t.standardize = ⟨false, s.standardize.counter, none⟩ ∧
        t.tables = s.tables ∧ t.conditions.flag .stdAbort = true ∧
        t.watch = (if s.watch.state = .broken ∧ s.tables.sheet.mode ≠ .report then
            { s.watch with
              state := .sheetOff, breakRun := 0, heldRun := none, sheetRun := 0
              probe := some ⟨1000 * s.tables.sheet.probeInterval, 0⟩ }
          else { s.watch with breakRun := 0, heldRun := none, sheetRun := 0 }) ∧
        (s.frame.scanOn = false → t.frame = { s.frame with carriage := .parked } ∧ t.port = home) ∧
        (∀ g, s.frame.scanOn = true → governing s = some g →
          let front := (limitsOf s.tables.frame.minimumWidth g s.binning.lastGood).front
          t.frame.carriage = .traverse .positioning .fwd ∧ t.port = home.handDrive (.move front g.speed))) ∧
    (timerDue s.watch.probe = true →
      (s.frame.carriage = .parked → exec .probeTimerExpiry s =
        .next (State.moving { s with watch := { s.watch with probe := none } } (.probing .moving)
          s.tables.frame.probe 200)) ∧
      (s.frame.carriage ≠ .parked → exec .probeTimerExpiry s = .next { s with watch := { s.watch with
        probe := some ⟨1000 * s.tables.sheet.probeInterval, 0⟩ } })) ∧
    (timerDue s.watch.dwell = true →
      let dwelt : State := { s with
        frame := { s.frame with scanOn := false }
        watch := { s.watch with
          dwell := none, sheetRun := 0, probe := some ⟨1000 * s.tables.sheet.probeInterval, 0⟩ } }
      (s.frame.carriage = .probing .dwelling →
        exec .probeDwellExpiry s = .next (dwelt.moving .parking s.tables.frame.park 200)) ∧
      (s.watch.state = .sheetOff → (s.frame.carriage = .parking ∨ s.frame.carriage = .parked) →
        exec .probeDwellExpiry s = .next dwelt)) ∧
    (timerDue s.watch.holdOff = true → s.watch.state = .threading →
      let ended : BreakWatch := { s.watch with
        state := .sheetOn, breakRun := 0, heldRun := none, sheetRun := 0, holdOff := none }
      let watched := (∃ d, s.frame.carriage = .traverse .scanning d) ∨ s.frame.carriage = .fixed .dwelling ∨
        s.frame.carriage = .probing .dwelling
      let report := s.tables.sheet.mode = .report
      let standardize := s.tables.sheet.standardizeAfter
      let resume := s.tables.sheet.autoResume = true ∧ (s.contexts.queue ≠ [] ∨ s.contexts.inEffect ≠ none)
      let absent := s.frame.carriage = .unreferenced ∨ s.frame.carriage = .halted
      let abroad := (∃ sub d, s.frame.carriage = .traverse sub d) ∨ (∃ sub, s.frame.carriage = .fixed sub) ∨
        ∃ sub, s.frame.carriage = .probing sub
      ((report ∧ s.frame.carriage ≠ .parked) ∨ absent ∨ s.frame.carriage = .parking ∨
          s.frame.carriage = .standardizing →
        ∃ (scanOn : Bool) (held : Option Nat), exec .holdOffExpiry s = .next { s with
          watch := { ended with heldRun := held }
          standardize := { s.standardize with request := s.standardize.request || standardize }
          frame := { s.frame with scanOn := scanOn }
          conditions := s.conditions.take { alarmNow .restored s with breakState := .sheetOn }
          choices := s.choices + 1 } ∧
          (watched → held = some s.watch.breakRun) ∧ (¬ watched → held = none) ∧
          (scanOn = true ↔ (s.frame.scanOn = true ∧ (report ∨ absent)) ∨
            (resume ∧ s.frame.carriage.mayBeScanOn = true))) ∧
      (¬ report → abroad →
        ∃ t, exec .holdOffExpiry s = .next t ∧ (watched → t.watch = { ended with heldRun := some s.watch.breakRun }) ∧
          (¬ watched → t.watch = ended) ∧
          t.frame.carriage = .parking ∧ t.port = s.port.handDrive (.move s.tables.frame.park 200) ∧
          t.conditions.flag .restored = true ∧
          t.standardize.request = (s.standardize.request || standardize) ∧ (t.frame.scanOn = true ↔ resume) ∧
          ∀ o sub d, s.frame.carriage = .traverse sub d → s.binning.openTraverse = some o →
            t.binning.openTraverse = none ∧
            ReportFrame.notice ⟨s.closeOut.scanNumber, s.clock, o.direction, o.context.tag, o.map.identity, .brk⟩ ∈
              t.mill.reports) ∧
      (s.frame.carriage = .parked →
        ∃ t, exec .holdOffExpiry s = .next t ∧ t.watch = ended ∧ t.conditions.flag .restored = true ∧
          (standardize = true →
            t.frame.carriage = .standardizing ∧ t.port = s.port.handHead .reference ∧
            t.standardize.request = true ∧
            (t.frame.scanOn = true ↔ (s.frame.scanOn = true ∧ report) ∨ resume)) ∧
          (standardize = false → ¬ resume →
            ∃ scanOn : Bool, t.frame = { s.frame with scanOn := scanOn } ∧ t.port = s.port ∧
              (scanOn = true ↔ s.frame.scanOn = true ∧ report)) ∧
          (∀ g, standardize = false → s.tables.sheet.autoResume = true → governing s = some g →
            let front := (limitsOf s.tables.frame.minimumWidth g s.binning.lastGood).front
            t.frame.carriage = .traverse .positioning .fwd ∧ t.frame.scanOn = true ∧
            t.port = s.port.handDrive (.move front g.speed))))

/-- DRIVE_STATUS by carriage state: UNREFERENCED goes to park once referenced without fault, and is sent STOP with
DRIVE_FAULT on a fault; HALTED only raises DRIVE_FAULT; elsewhere a report without fault is only stored and a drive fault
halts the carriage. That the receiver is HUNTING after it is the model's reading (log 10), and that HEAD_MODE NORMAL is handed
over before the STOP in STANDARDIZING (log 14). -/
def Obligations.DriveStatusByCarriageState : Prop :=
  ∀ (d : DriveStatus) (s : State), s.conditions.raised = [] →
    let stored : State := { s with
      port := { s.port with receiver := .hunting }, frame := { s.frame with lastDrive := some d } }
    (s.frame.carriage = .unreferenced →
      (d.fault = true → exec (.driveStatus d) s = .next { stored with
        port := stored.port.handDrive .stop
        frame := { stored.frame with target := none, stall := none }
        conditions := s.conditions.take (alarmNow .driveFault s), choices := s.choices + 1 }) ∧
      (d.fault = false → d.referenced = true → exec (.driveStatus d) s = .next (State.moving { stored with
          frame := { stored.frame with silence := some ⟨s.tables.frame.silencePeriod, 0⟩ } } .parking
          s.tables.frame.park 200)) ∧
      (d.fault = false → d.referenced = false → exec (.driveStatus d) s = .next stored)) ∧
    (s.frame.carriage = .halted →
      (d.fault = true ∨ d.referenced = false → exec (.driveStatus d) s = .next { stored with
        conditions := s.conditions.take (alarmNow .driveFault s), choices := s.choices + 1 }) ∧
      (d.fault = false → d.referenced = true → exec (.driveStatus d) s = .next stored)) ∧
    (s.frame.carriage ≠ .unreferenced → s.frame.carriage ≠ .halted →
      (d.fault = false → d.referenced = true → exec (.driveStatus d) s = .next stored) ∧
      (d.fault = true ∨ d.referenced = false →
        (s.binning.openTraverse = none → s.standardize.collection = none →
          exec (.driveStatus d) s = .next (stored.haltedBy .driveFault)) ∧
        (∀ o, s.binning.openTraverse = some o → s.standardize.collection = none →
          ∃ t, exec (.driveStatus d) s = .next t ∧ t.frame = (stored.haltedBy .driveFault).frame ∧
            t.binning.openTraverse = none ∧ t.conditioner.expected = none ∧ t.port = stored.port.handDrive .stop ∧
            t.conditions.flag .driveFault = true ∧
            ReportFrame.notice ⟨s.closeOut.scanNumber, s.clock, o.direction, o.context.tag, o.map.identity, .halt⟩ ∈
              t.mill.reports) ∧
        (∀ c, s.binning.openTraverse = none → s.standardize.collection = some c →
          ∃ t, exec (.driveStatus d) s = .next t ∧ t.frame = (stored.haltedBy .driveFault).frame ∧
            t.standardize = ⟨false, s.standardize.counter, none⟩ ∧ t.tables = s.tables ∧
            t.port = (stored.port.handHead .normal).handDrive .stop ∧ t.conditions.flag .driveFault = true ∧
            t.conditions.flag .stdAbort = s.conditions.flag .stdAbort)))

/-! ### Break watch (chapter 7) -/

/-- The break watch and a sample, and the mill computer's sheet notices. While the detector is active, N_BREAK break
samples in a row declare a break; in a probe dwell of SHEET_OFF, or scanning or dwelling in a REPORT break, N_BREAK
sheet-present samples in a row enter THREADING; a gap first clears both runs, and a sample passed over changes nothing. A
run held from a hold-off expiry of the same moment counts as well, though the carriage is on its way home (R148; log 36).
A BREAK notice declares a break in SHEET_ON and THREADING, a RESTORED notice enters THREADING from BREAK and SHEET_OFF,
and either changes nothing in the other states. A break marks the open traverse in REPORT mode and requests a park in PARK
or LATCHED mode, taken by carriage state; when its alarm reads the carriage is left open (log 7). -/
def Obligations.BreaksAreDeclaredAndTheSheetIsSeen : Prop :=
  (∀ (x : Sample) (s : State),
    let scanning := ∃ d, s.frame.carriage = .traverse .scanning d
    let active := (s.watch.state = .sheetOn ∨ s.watch.state = .threading) ∧
      (scanning ∨ s.frame.carriage = .fixed .dwelling ∨ s.frame.carriage = .probing .dwelling)
    let looking := (s.watch.state = .sheetOff ∧ s.frame.carriage = .probing .dwelling) ∨
      (s.watch.state = .broken ∧ s.tables.sheet.mode = .report ∧ (scanning ∨ s.frame.carriage = .fixed .dwelling))
    let passed := x.frame.reference = true ∨ (scanning ∧ ∃ o, s.binning.openTraverse = some o ∧
      let region := s.binning.lastGood.getD ⟨o.map.record.boundaries.headD 0, o.map.record.boundaries.getLastD 0 - 1⟩
      (x.frame.position < region.front ∨ region.back < x.frame.position))
    let held := s.watch.state = .sheetOn ∧ s.watch.heldRun ≠ none
    let t := watchTakes x s
    (x.afterGap = true → t = watchTakes { x with afterGap := false }
      { s with watch := { s.watch with
        breakRun := 0, heldRun := s.watch.heldRun.map (fun _ => 0), sheetRun := 0 } }) ∧
    (x.afterGap = false → passed ∨ (¬ active ∧ ¬ held ∧ ¬ looking) ∨ x.tr.usable = none → t = s) ∧
    (x.afterGap = false → active ∨ held → ¬ passed →
      (∀ v, x.tr.usable = some v → v < s.tables.sheet.trBreak →
        t = { s with watch := { s.watch with breakRun := 0, heldRun := none } }) ∧
      (∀ v, x.tr.usable = some v → s.tables.sheet.trBreak ≤ v → s.watch.breakRun + 1 < s.tables.sheet.nBreak →
        (∀ k, s.watch.heldRun = some k → k + 1 < s.tables.sheet.nBreak) →
        (active → t = { s with watch := { s.watch with breakRun := s.watch.breakRun + 1, heldRun := none } }) ∧
        (¬ active → t = { s with watch := { s.watch with breakRun := 0, heldRun := none } })) ∧
      (∀ v, x.tr.usable = some v → s.tables.sheet.trBreak ≤ v →
        (s.tables.sheet.nBreak ≤ s.watch.breakRun + 1 ∨
          ∃ k, s.watch.heldRun = some k ∧ s.tables.sheet.nBreak ≤ k + 1) →
        (active ∨ s.frame.carriage ≠ .parked ∨ s.tables.sheet.mode = .report → t.watch = { s.watch with
          state := .broken, source := some .gauge, breakRun := 0, heldRun := none, sheetRun := 0, holdOff := none }) ∧
        (¬ active → s.frame.carriage = .parked → s.tables.sheet.mode ≠ .report → t.watch = { s.watch with
          state := .sheetOff, source := some .gauge, breakRun := 0, heldRun := none, sheetRun := 0, holdOff := none
          probe := some ⟨1000 * s.tables.sheet.probeInterval, 0⟩ }) ∧
        t.conditions.raised = s.conditions.raised ++ [⟨⟨.sheetBreak, s.clock, s.frame.carriage.kind, .broken,
          s.frame.lastPosition, s.closeOut.scanNumber⟩, []⟩] ∧
        (s.tables.sheet.mode = .report → t.frame = s.frame ∧ t.port = s.port ∧
          t.binning.openTraverse = s.binning.openTraverse.map (fun o => { o with breakMark := true })) ∧
        (s.tables.sheet.mode ≠ .report → active →
          t.frame.carriage = .parking ∧ t.frame.scanOn = false ∧
          t.port = s.port.handDrive (.move s.tables.frame.park 200) ∧ (scanning → t.binning.openTraverse = none)) ∧
        (s.tables.sheet.mode ≠ .report → s.frame.carriage = .parking →
          t.frame = { s.frame with scanOn := false } ∧ t.port = s.port))) ∧
    (x.afterGap = false → looking → ¬ passed →
      (∀ v, x.tr.usable = some v → s.tables.sheet.trBreak ≤ v →
        t = { s with watch := { s.watch with sheetRun := 0 } }) ∧
      (∀ v, x.tr.usable = some v → v < s.tables.sheet.trBreak → s.watch.sheetRun + 1 < s.tables.sheet.nBreak →
        t = { s with watch := { s.watch with sheetRun := s.watch.sheetRun + 1 } }) ∧
      (∀ v, x.tr.usable = some v → v < s.tables.sheet.trBreak → s.tables.sheet.nBreak ≤ s.watch.sheetRun + 1 →
        t = { s with watch := { s.watch with
          state := .threading, probe := none, dwell := none, breakRun := 0, heldRun := none, sheetRun := 0
          holdOff := some ⟨1000 * s.tables.sheet.holdOff, 0⟩ } }))) ∧
  (∀ (f : CommandFrame) (rest : List CommandFrame) (s : State), AtHand f rest s → s.conditions.raised = [] →
    f.code = 0x14#8 →
    (f.args = [0#8] → (s.watch.state = .sheetOn ∨ s.watch.state = .threading) →
      let alarm : AlarmFrame := { alarmNow .sheetBreak s with breakState := .broken }
      let broken : BreakWatch :=
        { s.watch with state := .broken, source := some .mill, breakRun := 0, heldRun := none, sheetRun := 0, holdOff := none }
      let declared : State := { s with
        watch := broken, conditions := s.conditions.take alarm, choices := s.choices + 1 }
      let stopped : FrameController := { s.frame with scanOn := false }
      (s.tables.sheet.mode = .report →
        exec .sheetNotice s = .next (State.answered { declared with binning := { s.binning with
          openTraverse := s.binning.openTraverse.map (fun o => { o with breakMark := true }) } } f rest .ok [])) ∧
      (s.tables.sheet.mode ≠ .report →
        (s.frame.carriage = .unreferenced ∨ s.frame.carriage = .halted →
          exec .sheetNotice s = .next (declared.answered f rest .ok [])) ∧
        (s.frame.carriage = .parking ∨ s.frame.carriage = .standardizing →
          exec .sheetNotice s = .next (State.answered { declared with frame := stopped } f rest .ok [])) ∧
        (s.frame.carriage = .parked →
          exec .sheetNotice s = .next (State.answered { declared with
            frame := stopped
            watch := { broken with
              state := .sheetOff, probe := some ⟨1000 * s.tables.sheet.probeInterval, 0⟩ } } f rest .ok [])) ∧
        ((∃ sub d, s.frame.carriage = .traverse sub d) ∨ (∃ sub, s.frame.carriage = .fixed sub) ∨
            (∃ sub, s.frame.carriage = .probing sub) →
          ∃ a : AlarmFrame, (a = alarm ∨ a = { alarm with carriage := .parking }) ∧
            (s.binning.openTraverse = none ∨ ¬ (∃ sub d, s.frame.carriage = .traverse sub d) →
              exec .sheetNotice s = .next (State.answered
                { State.moving { declared with frame := stopped } .parking s.tables.frame.park 200 with
                  conditions := s.conditions.take a } f rest .ok [])) ∧
            (∀ o sub d, s.binning.openTraverse = some o → s.frame.carriage = .traverse sub d →
              exec .sheetNotice s = .next (State.answered
                { State.moving { declared with frame := stopped } .parking s.tables.frame.park 200 with
                  binning := { s.binning with openTraverse := none }
                  mill := { s.mill with reports := s.mill.reports.filter ReportFrame.isProfile ++
                    [.notice ⟨s.closeOut.scanNumber, s.clock, o.direction, o.context.tag, o.map.identity, .brk⟩] }
                  conditions := ConditionUnit.take { s.conditions with counters := { s.conditions.counters with
                    reportsDropped := if noticeCount s.mill.reports = 0 then s.conditions.counters.reportsDropped
                      else min 65535 (s.conditions.counters.reportsDropped + 1) } } a } f rest .ok []))))) ∧
    (f.args = [1#8] → (s.watch.state = .broken ∨ s.watch.state = .sheetOff) →
      exec .sheetNotice s = .next (State.answered { s with watch := { s.watch with
        state := .threading, probe := none, dwell := none, breakRun := 0, heldRun := none, sheetRun := 0
        holdOff := some ⟨1000 * s.tables.sheet.holdOff, 0⟩ } } f rest .ok [])) ∧
    ((f.args = [0#8] ∧ (s.watch.state = .broken ∨ s.watch.state = .sheetOff)) ∨
      (f.args = [1#8] ∧ (s.watch.state = .sheetOn ∨ s.watch.state = .threading)) →
      exec .sheetNotice s = .next (s.answered f rest .ok [])) ∧
    (∀ b : Byte, f.args = [b] → 2 ≤ b.toNat → exec .sheetNotice s = .next (s.answered f rest .badArgument [])))

/-! ### The command handler (chapter 10) -/

/-- The handler takes a command only when READY; a command whose form fails is answered MALFORMED, an altering command under
the pending summary ALARM_PENDING, and neither changes anything else; an unknown code is MALFORMED. Which codes are altering
(R169), and which numbers of argument bytes each code and region allows (R179 step 1, tables 11-8 to 11-10), is said code by
code. The model's readings among them: a SLOT part that is neither 0x80 nor a profile channel takes the image layout (log
18), a presence byte above 1 carries no range (log 19), bytes after the arguments are malformed (log 30), as is a PASS_DOWN of
no byte (log 31), and an image write of 0 entries passes the form (log 32). -/
def Obligations.FormThenGateAnswerFirst : Prop :=
  (∀ (row : CommandRow) (f : CommandFrame) (rest : List CommandFrame) (s : State), AtHand f rest s →
    s.conditions.raised = [] → rowOf f = row →
    (row.wellFormedArgs f.args = false → exec row.command s = .next (s.answered f rest .malformed [])) ∧
    (row.wellFormedArgs f.args = true → row.altering = true → s.conditions.summary = true →
      exec row.command s = .next (s.answered f rest .alarmPending []))) ∧
  (∀ (row : CommandRow) (s : State), s.conditions.raised = [] → s.handler.phase ≠ .ready →
    exec row.command s = .next s) ∧
  (∀ (f : CommandFrame) (rest : List CommandFrame) (s : State), AtHand f rest s →
    (f.code = 0x00#8 ∨ f.code = 0x10#8 ∨ 0x1C ≤ f.code.toNat) →
    exec .unknownCommandCode s = .next (s.answered f rest .malformed [])) ∧
  (∀ f : CommandFrame, (rowOf f).altering = true ↔
    f.code.toNat ∈ [0x03, 0x04, 0x05, 0x06, 0x07, 0x0A, 0x0B, 0x0C, 0x11, 0x12, 0x13]) ∧
  (∀ f : CommandFrame,
    let formed := (rowOf f).wellFormedArgs f.args = true
    let code := f.code.toNat
    let n := f.args.length
    let arg : Nat → Nat := fun k => (f.args.getD k 0#8).toNat
    (code ∈ [0x01, 0x04, 0x06, 0x07, 0x08, 0x09, 0x0A, 0x0C, 0x13, 0x15, 0x18, 0x1B] → (formed ↔ n = 0)) ∧
    (code ∈ [0x0D, 0x0E, 0x0F, 0x12, 0x14] → (formed ↔ n = 1)) ∧
    (code ∈ [0x0B, 0x19] → (formed ↔ n = 2)) ∧ (code ∈ [0x11, 0x16, 0x17] → (formed ↔ n = 3)) ∧
    (code = 0x1A → (formed ↔ 1 ≤ n)) ∧ (code = 0x00 ∨ code = 0x10 ∨ 0x1C ≤ code → ¬ formed) ∧
    (code = 0x05 → (formed ↔ n = 18 + (if arg 16 = 1 then 2 else 0) + (if arg 17 = 2 then 1 else 0))) ∧
    (code = 0x02 → (formed ↔ 1 ≤ n ∧ (arg 0 ≤ 8 → [2, 3, 1, 2, 3, 1, 1, 1, 3][arg 0]? = some n))) ∧
    (code = 0x03 → n = 0 → ¬ formed) ∧
    (code = 0x03 → 1 ≤ n →
      (arg 0 = 0 → (formed ↔ n = 7 + 4 * arg 2)) ∧
      (arg 0 = 1 → (formed ↔ n = 3 + 4 * arg 2 ∧ arg 2 ≠ 0)) ∧
      (arg 0 = 2 → (formed ↔ n = 3 + 2 * arg 2 ∧ arg 2 ≠ 0)) ∧
      (arg 0 = 3 → (formed ↔ n = 9 + (if arg 8 = 1 then 4 else 0) + 2 * (256 * arg 6 + arg 7))) ∧
      (arg 0 = 4 → (formed ↔ arg 2 ≠ 0 ∧ ∃ records : List (List Byte), records.length = arg 2 ∧
        f.args = f.args.take 3 ++ records.flatten ∧
        ∀ r ∈ records, r.length = if r[2]? = some 3#8 then 17 else 13)) ∧
      (arg 0 = 5 → (formed ↔ n = 14)) ∧ (arg 0 = 6 → (formed ↔ n = 15)) ∧ (arg 0 = 7 → (formed ↔ n = 4)) ∧
      (arg 0 = 8 → (formed ↔ n = if arg 2 = 0x80 then 7 else 5 + 4 * (256 * arg 3 + arg 4))) ∧
      (9 ≤ arg 0 → formed)))

/-- The reading commands answer OK with the result their rules give and change nothing else, or refuse an argument out of
its range. READ_STATUS gives the status record, field by field at the offsets of table 11-12. READ_STATUS shows every
block on the same side of each row, which R185 does not promise (log 38). That READ_TREND carries the whole of up to 64
records (log 16) and that an absent figure of a trend record is sent as 0 behind its presence bit (log 17) is the model's
reading. -/
def Obligations.ReadingCommandsAnswerWithTheirResult : Prop :=
  ∀ (f : CommandFrame) (rest : List CommandFrame) (s : State), AtHand f rest s →
    (f.code = 0x01#8 → f.args = [] →
      ∃ r : List Byte, exec .readStatus s = .next (s.answered f rest .ok r) ∧ r.length = 79 ∧
      let field : Nat → List Byte → Prop := fun offset bytes => (r.drop offset).take bytes.length = bytes
      let optional : Option Nat → List Byte := fun o => match o with
        | some n => be16 n
        | none => [0xFF#8, 0xFF#8]
      let flag : Bool → Nat := fun b => if b then 1 else 0
      field 0 [byte (match s.frame.carriage with
          | .unreferenced => 0
          | .parking => 1
          | .parked => 2
          | .standardizing => 3
          | .traverse _ _ => 4
          | .fixed _ => 5
          | .probing _ => 6
          | .halted => 7),
        byte (match s.frame.carriage with
          | .traverse .positioning _ => 1
          | .traverse .scanning _ => 2
          | .fixed .moving | .probing .moving => 3
          | .fixed .dwelling | .probing .dwelling => 4
          | .unreferenced | .parking | .parked | .standardizing | .halted => 0),
        byte (match s.frame.carriage with
          | .traverse _ .fwd => 0
          | .traverse _ .rev => 1
          | .unreferenced | .parking | .parked | .standardizing | .fixed _ | .probing _ | .halted => 255),
        byte (flag s.frame.scanOn)] ∧
      field 4 (optional (s.frame.limits.map Span.front) ++ optional (s.frame.limits.map Span.back)) ∧
      field 8 (optional s.frame.lastPosition) ∧
      field 10 (match s.frame.lastDrive with
        | some d => byte 1 :: byte (flag d.referenced + 2 * flag d.moving + 4 * flag d.fault) :: be16 d.position
        | none => [0#8, 0#8, 0#8, 0#8]) ∧
      field 14 [byte (match s.watch.state with
          | .sheetOn => 0
          | .broken => 1
          | .sheetOff => 2
          | .threading => 3),
        byte (match s.tables.sheet.mode with
          | .report => 0
          | .park => 1
          | .latched => 2),
        byte (match s.watch.source with
          | some .gauge => 0
          | some .mill => 1
          | none => 255)] ∧
      field 17 (be24 s.conditions.flags.toNat ++ be24 s.conditions.unmasked.toNat) ∧
      field 23 [byte (flag s.conditions.summary)] ∧
      (let n := s.conditions.counters
       field 24 (be16 n.gapTotal ++ be16 n.carriageFailures ++ be16 n.millFailures ++ be16 n.commandsDropped ++
         be16 n.reportsDropped ++ be16 n.streamDropped ++ be16 n.alarmsDropped ++ be16 n.passDropped)) ∧
      field 40 (byte s.contexts.queue.length :: match s.contexts.inEffect with
        | some c => byte 1 :: be16 c.tag
        | none => [0#8, 0#8, 0#8]) ∧
      field 44 (be16 s.tables.curve.stagedGen ++ be16 s.tables.curve.inEffectGen ++ be16 s.tables.bias.stagedGen ++
        be16 s.tables.bias.inEffectGen ++ be16 s.tables.stdf.stagedGen ++ be16 s.tables.stdf.inEffectGen) ∧
      (let n := s.conditioner.fitted
       let e := s.tables.enables
       field 56 [byte (flag s.tables.locked), byte (flag n.bw + 2 * flag n.mo + 4 * flag n.ca + 8 * flag n.tr),
         byte (flag e.bw + 2 * flag e.mo + 4 * flag e.ca)]) ∧
      field 59 (optional (s.binning.lastGood.map Span.front) ++ optional (s.binning.lastGood.map Span.back)) ∧
      field 63 (byte (match s.closeOut.engine with
          | .idle => 0
          | .means _ _ => 1
          | .filter _ _ _ => 2
          | .stats _ _ _ => 3
          | .monitors _ _ _ _ => 4
          | .report _ _ _ _ _ => 5) :: be16 s.closeOut.scanNumber) ∧
      field 66 (match s.profile.map with
        | some m => byte (match m.letter with
            | .a => 0
            | .b => 1) :: (be16 m.id ++ be16 m.sliceCount)
        | none => [0xFF#8, 0#8, 0#8, 0#8, 0#8]) ∧
      field 71 [byte s.profile.trend.length, byte (flag s.standardize.request), byte s.standardize.counter,
        byte s.mill.decimation] ∧
      field 75 (be32 s.clock)) ∧
    (f.code = 0x02#8 →
      let ok : List Byte → Prop := fun result => exec .readTable s = .next (s.answered f rest .ok result)
      let refused := exec .readTable s = .next (s.answered f rest .badArgument [])
      (∀ k : Nat, k ≤ 255 → f.args = [0#8, byte k] →
        (∀ c : Option Curve, [s.tables.curve.staged.bw, s.tables.curve.staged.mo, s.tables.curve.staged.ca,
            s.tables.curve.staged.tr][k]? = some c →
          ok (byte k :: match c with
            | none => [0#8]
            | some v => 1#8 :: curveBytes v)) ∧
        (4 ≤ k → refused)) ∧
      (∀ first count : Nat, first ≤ 255 → count ≤ 255 → f.args = [1#8, byte first, byte count] →
        (1 ≤ count → first + count ≤ 8 →
          ok (byte first :: byte count :: ((s.tables.bias.staged.drop first).take count).flatMap biasBytes)) ∧
        (count = 0 ∨ 8 < first + count → refused)) ∧
      (f.args = [2#8] → ok (be16 s.tables.stdf.staged.bw ++ be16 s.tables.stdf.staged.mo ++
        be16 s.tables.stdf.staged.ca ++ be16 s.tables.stdf.staged.tr)) ∧
      (∀ l : Byte, f.args = [3#8, l] →
        (l.toNat < 2 → ok (l :: match (if l = 0#8 then s.tables.mapA else s.tables.mapB) with
          | none => [0#8]
          | some r => 1#8 :: mapBytes r)) ∧
        (2 ≤ l.toNat → refused)) ∧
      (∀ first count : Nat, first ≤ 255 → count ≤ 255 → f.args = [4#8, byte first, byte count] →
        (1 ≤ count → first + count ≤ 8 →
          ok (byte first :: byte count :: ((s.monitors.drop first).take count).flatMap monitorBytes)) ∧
        (count = 0 ∨ 8 < first + count → refused)) ∧
      (f.args = [5#8] → ok (sheetBytes s.tables.sheet)) ∧ (f.args = [6#8] → ok (frameBytes s.tables.frame)) ∧
      (f.args = [7#8] → ok [bitByte s.tables.enables.bw, bitByte s.tables.enables.mo, bitByte s.tables.enables.ca,
        byte (packMeasured s.conditioner.fitted)]) ∧
      (∀ k : Nat, k ≤ 255 → (f.args = [8#8, byte k, 0x80#8] →
          (∀ x, s.profile.slots[k]? = some x → k ≤ 3 → ok (byte k :: match x with
            | none => [0#8]
            | some v => 1#8 :: slotHeaderBytes v)) ∧
          (3 < k → refused)) ∧
        (∀ c : ProfileChannel, f.args = [8#8, byte k, byte c.code] →
          (∀ x, s.profile.slots[k]? = some x → k ≤ 3 →
            ok (byte k :: byte c.code :: match x.bind (fun v => v.images.get c) with
              | none => [0#8]
              | some im => 1#8 :: imageBytes im)) ∧
          (3 < k → refused)) ∧
        (∀ part : Byte, f.args = [8#8, byte k, part] → part.toNat ∉ [0, 1, 2, 4, 0x80] → refused)) ∧
      (∀ (region : Byte) (more : List Byte), 9 ≤ region.toNat → f.args = region :: more → refused)) ∧
    (f.code = 0x0D#8 → ∀ c : ProfileChannel, f.args = [byte c.code] →
      (c.fittedIn s.conditioner.fitted = false → exec .readFixed s = .next (s.answered f rest .notFitted [])) ∧
      (c.fittedIn s.conditioner.fitted = true →
        let w := s.frame.windows.get c
        exec .readFixed s = .next (s.answered f rest .ok
          (bitByte (decide (s.frame.carriage = .fixed .dwelling)) :: opt16 s.frame.fixedPoint ++ [byte w.length] ++
            (if w = [] then [0#8, 0#8, 0#8] else 1#8 :: be16 ((2 * w.sum + w.length) / (2 * w.length))))))) ∧
    (f.code = 0x0E#8 → ∀ c : ProfileChannel, f.args = [byte c.code] →
      (s.closeOut.engine ≠ .idle → exec .readProfile s = .next (s.answered f rest .busy [])) ∧
      (s.closeOut.engine = .idle → c.fittedIn s.conditioner.fitted = false →
        exec .readProfile s = .next (s.answered f rest .notFitted [])) ∧
      (s.closeOut.engine = .idle → c.fittedIn s.conditioner.fitted = true →
        exec .readProfile s = .next (s.answered f rest .ok
          (identityBytes s.profile.map ++ be16 s.closeOut.scanNumber ++
            (s.profile.records.get c).flatMap sliceRecordBytes)))) ∧
    (f.code = 0x0F#8 → ∀ b : Byte, f.args = [b] →
      (1 ≤ b.toNat → b.toNat ≤ 64 → ∃ older newest, s.profile.trend = older ++ newest ∧
        newest.length = min b.toNat s.profile.trend.length ∧
        exec .readTrend s = .next (s.answered f rest .ok (byte newest.length :: newest.flatMap trendBytes))) ∧
      (b.toNat = 0 ∨ 65 ≤ b.toNat → exec .readTrend s = .next (s.answered f rest .badArgument []))) ∧
    ((f.code = 0x0D#8 ∨ f.code = 0x0E#8) → ∀ b : Byte, f.args = [b] → b.toNat ∉ [0, 1, 2, 4] →
      exec (if f.code = 0x0D#8 then .readFixed else .readProfile) s = .next (s.answered f rest .badArgument []))

/-- The calibration writes, under neither alarm nor lock, stage what they carry and answer OK, and nothing else changes; one
whose index, count or values fail R10, R12 or R18 is answered BAD_ARGUMENT and changes nothing; under the lock they are
answered LOCKED. LOCK_CALIBRATION sets the lock. -/
def Obligations.CalibrationWritesStageWhatTheyCarry : Prop :=
  ∀ (f : CommandFrame) (rest : List CommandFrame) (s : State), AtHand f rest s → s.conditions.summary = false →
    (f.code = 0x04#8 → f.args = [] → exec .lockCalibration s =
      .next (State.answered { s with tables := { s.tables with locked := true } } f rest .ok [])) ∧
    (f.code = 0x03#8 → s.tables.locked = false →
      (∀ (k : Nat) (c : Curve), k < 4 → c.valid ((PerMeasured.at? measuredMax k).getD 0) = true →
        f.args = 0#8 :: byte k :: curveBytes c →
        exec .writeTableCurve s = .next (State.answered { s with tables := { s.tables with
          curve := ⟨PerMeasured.setAt s.tables.curve.staged k (some c), s.tables.curve.inEffect,
            nextGeneration s.tables.curve.stagedGen s.tables.curve.inEffectGen, s.tables.curve.inEffectGen⟩ } }
          f rest .ok [])) ∧
      (∀ (k : Nat) (es : List BiasEntry), 1 ≤ es.length → k + es.length ≤ 8 →
        (∀ b ∈ es, -2000 ≤ b.bias ∧ b.bias ≤ 2000) →
        f.args = 1#8 :: byte k :: byte es.length :: es.flatMap biasBytes →
        exec .writeTableBias s = .next (State.answered { s with tables := { s.tables with
          bias := ⟨s.tables.bias.staged.take k ++ es ++ s.tables.bias.staged.drop (k + es.length),
            s.tables.bias.inEffect, nextGeneration s.tables.bias.stagedGen s.tables.bias.inEffectGen,
            s.tables.bias.inEffectGen⟩ } } f rest .ok [])) ∧
      (∀ (k : Nat) (qs : List Nat), 1 ≤ qs.length → k + qs.length ≤ 4 → (∀ q ∈ qs, 8192 ≤ q ∧ q ≤ 32767) →
        f.args = 2#8 :: byte k :: byte qs.length :: qs.flatMap be16 →
        let old := s.tables.stdf.staged
        let stored := [old.bw, old.mo, old.ca, old.tr]
        ∀ a b c d : Nat, stored.take k ++ qs ++ stored.drop (k + qs.length) = [a, b, c, d] →
          exec .writeTableStdf s = .next (State.answered { s with tables := { s.tables with
            stdf := ⟨⟨a, b, c, d⟩, s.tables.stdf.inEffect,
              nextGeneration s.tables.stdf.stagedGen s.tables.stdf.inEffectGen, s.tables.stdf.inEffectGen⟩ } }
            f rest .ok []))) ∧
    (f.code = 0x03#8 → s.tables.locked = false →
      let arg := argByte f
      let word := argWord f
      (arg 0 = 0 → CommandRow.writeCurve.wellFormedArgs f.args = true →
        (4 ≤ arg 1 ∨ arg 2 < 2 ∨ 12 < arg 2 ∨ word 3 = 0 ∨ 5000 < word 5 ∨
          (∃ i, i + 1 < arg 2 ∧ word (4 * i + 11) ≤ word (4 * i + 7)) ∨
          (∃ i, i < arg 2 ∧ [65535, 10000, 65535, 1000].getD (arg 1) 0 < word (4 * i + 9))) →
        exec .writeTableCurve s = .next (s.answered f rest .badArgument [])) ∧
      (arg 0 = 1 → CommandRow.writeBias.wellFormedArgs f.args = true →
        (8 < arg 1 + arg 2 ∨ ∃ i, i < arg 2 ∧ (1 < arg (4 * i + 3) ∨ arg (4 * i + 4) ∉ [0, 1, 2, 4] ∨
          (2000 < word (4 * i + 5) ∧ word (4 * i + 5) < 65536 - 2000))) →
        exec .writeTableBias s = .next (s.answered f rest .badArgument [])) ∧
      (arg 0 = 2 → CommandRow.writeStdf.wellFormedArgs f.args = true →
        (4 < arg 1 + arg 2 ∨ ∃ i, i < arg 2 ∧ (word (2 * i + 3) < 8192 ∨ 32767 < word (2 * i + 3))) →
        exec .writeTableStdf s = .next (s.answered f rest .badArgument []))) ∧
    (f.code = 0x03#8 → s.tables.locked = true → ∀ after : List Byte,
      (f.args = 0#8 :: after → CommandRow.writeCurve.wellFormedArgs f.args = true →
        exec .writeTableCurve s = .next (s.answered f rest .locked [])) ∧
      (f.args = 1#8 :: after → CommandRow.writeBias.wellFormedArgs f.args = true →
        exec .writeTableBias s = .next (s.answered f rest .locked [])) ∧
      (f.args = 2#8 :: after → CommandRow.writeStdf.wellFormedArgs f.args = true →
        exec .writeTableStdf s = .next (s.answered f rest .locked [])))

/-- MAP and MONITOR writes: a valid record replaces what it names; a map write that keeps the id but not the geometry is
refused, and one to the map in effect while the carriage works on it; MONITOR writes, of one record or a run, are BUSY during a
close-out and reset what they replace. A write whose codes or values fail R43 or R151 is answered BAD_ARGUMENT and changes
nothing. So is a MAP write with a presence byte above 1 (R181, R195), which carries no range, its boundaries standing right
after that byte: that is the model's reading (log 19). -/
def Obligations.MapAndMonitorWrites : Prop :=
  ∀ (f : CommandFrame) (rest : List CommandFrame) (s : State), AtHand f rest s → s.conditions.summary = false →
    f.code = 0x03#8 →
    let held : MapLetter → Prop := fun l => (∃ c, s.contexts.inEffect = some c ∧ c.map = l) ∧
      ((∃ sub d, s.frame.carriage = .traverse sub d) ∨ (∃ sub, s.frame.carriage = .fixed sub) ∨
        ∃ sub, s.frame.carriage = .probing sub)
    (∀ (l : MapLetter) (r : MapRecord), r.valid = true → f.args = 3#8 :: byte l.code :: mapBytes r →
      let stored := match l with
        | .a => s.tables.mapA
        | .b => s.tables.mapB
      (held l → exec .writeTableMap s = .next (s.answered f rest .refusedState [])) ∧
      (¬ held l → (∀ o, stored = some o → o.id = r.id → o.sliceCount = r.sliceCount ∧ o.boundaries = r.boundaries) →
        exec .writeTableMap s = .next (State.answered { s with tables := match l with
          | .a => { s.tables with mapA := some r }
          | .b => { s.tables with mapB := some r } } f rest .ok [])) ∧
      (∀ o, ¬ held l → stored = some o → o.id = r.id →
        (o.sliceCount ≠ r.sliceCount ∨ o.boundaries ≠ r.boundaries) →
        exec .writeTableMap s = .next (s.answered f rest .badArgument []))) ∧
    (argByte f 0 = 3 → CommandRow.writeMap.wellFormedArgs f.args = true →
      let word := argWord f
      let first := if argByte f 8 = 1 then 13 else 9
      (2 ≤ argByte f 1 → exec .writeTableMap s = .next (s.answered f rest .badArgument [])) ∧
      (∀ l : MapLetter, argByte f 1 = l.code → held l →
        exec .writeTableMap s = .next (s.answered f rest .refusedState [])) ∧
      (∀ l : MapLetter, argByte f 1 = l.code → ¬ held l →
        (word 2 = 0 ∨ word 4 < 8 ∨ 480 < word 4 ∨ word 6 ≠ word 4 + 1 ∨ 1 < argByte f 8 ∨
          (argByte f 8 = 1 ∧ (word 11 < word 9 ∨ word 4 ≤ word 11)) ∨
          (∃ i, i < word 6 ∧ 32767 < word (first + 2 * i)) ∨
          (∃ i, i + 1 < word 6 ∧ word (first + 2 * i + 2) ≤ word (first + 2 * i))) →
        exec .writeTableMap s = .next (s.answered f rest .badArgument []))) ∧
    (∀ (k : Nat) (records : List (List Byte)), k ≤ 255 → 1 ≤ records.length → records.length ≤ 255 →
      (∀ r ∈ records, r.length = if r[2]? = some 3#8 then 17 else 13) →
      f.args = 4#8 :: byte k :: byte records.length :: records.flatten → s.closeOut.engine = .idle →
      (8 < k + records.length ∨ ∃ r ∈ records,
        let arg : Nat → Nat := fun i => (r.getD i 0#8).toNat
        let word : Nat → Nat := fun i => 256 * arg i + arg (i + 1)
        let limits := if arg 2 = 3 then 7 else 3
        let low := signed 32 (65536 * word limits + word (limits + 2))
        let high := signed 32 (65536 * word (limits + 4) + word (limits + 6))
        1 < arg 0 ∨ arg 1 ∉ [0, 1, 2, 4] ∨ 3 < arg 2 ∨ (arg 2 = 3 ∧ (word 5 < word 3 ∨ 479 < word 5)) ∨
        low < (if arg 2 = 3 then -65535 else 0) ∨ high < low ∨
        (if arg 2 = 0 ∧ arg 1 = 1 then 10000 else 65535) < high ∨
        arg (limits + 8) = 0 ∨ 15 < arg (limits + 8) ∨ 1 < arg (limits + 9)) →
      exec .writeTableMonitor s = .next (s.answered f rest .badArgument [])) ∧
    (∀ (k : Nat) (rs : List MonitorRecord), 1 ≤ rs.length → k + rs.length ≤ 8 →
      (∀ r ∈ rs, 1 ≤ r.persistence ∧ r.persistence ≤ 15 ∧ r.low ≤ r.high ∧
        (match r.source with
         | .scanAvg => 0 ≤ r.low ∧ r.high ≤ r.channel.max
         | .spread | .range => 0 ≤ r.low ∧ r.high ≤ 65535
         | .slice first last => -65535 ≤ r.low ∧ r.high ≤ 65535 ∧ first ≤ last ∧ last ≤ 479)) →
      f.args = 4#8 :: byte k :: byte rs.length :: rs.flatMap monitorRecordBytes →
      (s.closeOut.engine ≠ .idle → exec .writeTableMonitor s = .next (s.answered f rest .busy [])) ∧
      (s.closeOut.engine = .idle → exec .writeTableMonitor s = .next (State.answered { s with
        monitors := s.monitors.take k ++ rs.map (fun r => ⟨r, 0, .armed, none, none, none⟩) ++
          s.monitors.drop (k + rs.length) } f rest .ok [])))

/-- SHEET, FRAME and CHANNEL writes take every setting, in their ranges, at once, and one with any setting out of its range is
answered BAD_ARGUMENT and changes nothing; LATCHED locks SHEET, and the break mode cannot change during a break; a channel that
is not fitted stores enable 0; a region code that names no region is refused. -/
def Obligations.SettingsWritesTakeTheWholeRecord : Prop :=
  ∀ (f : CommandFrame) (rest : List CommandFrame) (s : State), AtHand f rest s → s.conditions.summary = false →
    f.code = 0x03#8 →
    (∀ t : SheetSettings, f.args = 5#8 :: sheetBytes t → t.valid = true →
      (s.tables.sheet.mode = .latched → exec .writeTableSheet s = .next (s.answered f rest .locked [])) ∧
      (s.tables.sheet.mode ≠ .latched → t.mode ≠ s.tables.sheet.mode → s.watch.state ≠ .sheetOn →
        exec .writeTableSheet s = .next (s.answered f rest .refusedState [])) ∧
      (s.tables.sheet.mode ≠ .latched → (t.mode = s.tables.sheet.mode ∨ s.watch.state = .sheetOn) →
        exec .writeTableSheet s = .next (State.answered { s with tables := { s.tables with sheet := t } }
          f rest .ok []))) ∧
    (∀ t : FrameSettings, f.args = 6#8 :: frameBytes t → validFrame t = true →
      exec .writeTableFrame s = .next (State.answered { s with tables := { s.tables with frame := t } }
        f rest .ok [])) ∧
    (∀ a b c : Bool, f.args = [7#8, bitByte a, bitByte b, bitByte c] →
      exec .writeTableChannel s = .next (State.answered { s with tables := { s.tables with enables :=
        ⟨a && s.conditioner.fitted.bw, b && s.conditioner.fitted.mo, c && s.conditioner.fitted.ca⟩ } }
        f rest .ok [])) ∧
    (f.args.length = 14 → argByte f 0 = 5 → s.tables.sheet.mode ≠ .latched →
      let arg := argByte f
      let word := argWord f
      (2 < arg 1 ∨ 1000 < word 2 ∨ arg 4 = 0 ∨ word 5 < 5 ∨ 600 < word 5 ∨ arg 7 = 0 ∨ 30 < arg 7 ∨ arg 8 = 0 ∨
        120 < arg 8 ∨ 1 < arg 9 ∨ 1 < arg 10 ∨ 1000 < word 11 ∨ arg 13 = 0 ∨ 15 < arg 13) →
      exec .writeTableSheet s = .next (s.answered f rest .badArgument [])) ∧
    (f.args.length = 15 → argByte f 0 = 6 →
      let word := argWord f
      (32767 < word 1 ∨ 32767 < word 3 ∨ word 5 = 0 ∨ 32767 < word 5 ∨ word 7 < 10 ∨ 1000 < word 7 ∨ word 9 < 200 ∨
        10000 < word 9 ∨ word 11 < 16 ∨ 1024 < word 11 ∨ word 13 < 1000 ∨ 30000 < word 13) →
      exec .writeTableFrame s = .next (s.answered f rest .badArgument [])) ∧
    (∀ a b c : Byte, f.args = [7#8, a, b, c] → (1 < a.toNat ∨ 1 < b.toNat ∨ 1 < c.toNat) →
      exec .writeTableChannel s = .next (s.answered f rest .badArgument [])) ∧
    (∀ (region : Byte) (more : List Byte), 9 ≤ region.toNat → f.args = region :: more →
      exec .writeTableUnknownRegion s = .next (s.answered f rest .badArgument []))

/-- The save slots: a header write fills a slot without images, an image write sets one image of a filled slot, and finds an
empty slot SLOT_EMPTY, also with no entries, whose form the model passes (log 32); SAVE_PROFILE copies F and state of every
channel, RESTORE_PROFILE restores onto the profile map as it stands, CLEAR_PROFILE clears it; the three commands are BUSY
during a close-out, and the first two need a profile map. A slot, part, count or entry outside R126, R127, R129 or R130 is
answered BAD_ARGUMENT and changes nothing; the layout of an image write to a part that is no channel is the model's (log
18). -/
def Obligations.SlotWritesAndProfileCommands : Prop :=
  ∀ (f : CommandFrame) (rest : List CommandFrame) (s : State), AtHand f rest s → s.conditions.summary = false →
    (f.code = 0x03#8 → ∀ k : Nat, k ≤ 3 →
      (∀ tag n : Nat, tag ≤ 65535 → 8 ≤ n → n ≤ 480 → f.args = [8#8, byte k, 0x80#8] ++ be16 tag ++ be16 n →
        exec .writeTableSlotHeader s = .next (State.answered { s with profile := { s.profile with
          slots := s.profile.slots.set k (some ⟨tag, n, ⟨none, none, none, none⟩⟩) } } f rest .ok [])) ∧
      (∀ (x : SaveSlot) (c : ProfileChannel) (im : List ImageEntry), s.profile.slots[k]? = some (some x) →
        im.length = x.sliceCount → x.sliceCount ≤ 480 →
        (∀ e ∈ im, -1048560 ≤ e.f ∧ e.f ≤ 1048560 ∧ (e.state = .unset → e.f = 0)) →
        f.args = [8#8, byte k, byte c.code] ++ imageBytes im →
        exec .writeTableSlotImage s = .next (State.answered { s with profile := { s.profile with
          slots := s.profile.slots.set k (some { x with images := x.images.set c (some im) }) } } f rest .ok [])) ∧
      (∀ (c : ProfileChannel) (im : List ImageEntry), s.profile.slots[k]? = some none → im.length ≤ 480 →
        f.args = [8#8, byte k, byte c.code] ++ imageBytes im →
        exec .writeTableSlotImage s = .next (s.answered f rest .slotEmpty []))) ∧
    (f.code = 0x03#8 → argByte f 0 = 8 →
      let arg := argByte f
      let word := argWord f
      (f.args.length = 7 → arg 2 = 0x80 → (3 < arg 1 ∨ word 5 < 8 ∨ 480 < word 5) →
        exec .writeTableSlotHeader s = .next (s.answered f rest .badArgument [])) ∧
      (arg 2 ≠ 0x80 → CommandRow.writeSlotImage.wellFormedArgs f.args = true →
        (arg 2 ∉ [0, 1, 2, 4] ∨ 3 < arg 1 → exec .writeTableSlotImage s = .next (s.answered f rest .badArgument [])) ∧
        (∀ x, s.profile.slots[arg 1]? = some (some x) →
          (word 3 ≠ x.sliceCount ∨ ∃ i, i < word 3 ∧
            let value := signed 24 (256 * word (4 * i + 5) + arg (4 * i + 7))
            let state := arg (4 * i + 8) % 4
            value < -1048560 ∨ 1048560 < value ∨ state = 3 ∨ (state = 0 ∧ value ≠ 0)) →
          exec .writeTableSlotImage s = .next (s.answered f rest .badArgument [])))) ∧
    (∀ k : Nat, 4 ≤ k → k ≤ 255 → s.closeOut.engine = .idle →
      (∀ tag : List Byte, f.code = 0x11#8 → tag.length = 2 → f.args = byte k :: tag →
        exec .saveProfile s = .next (s.answered f rest .badArgument [])) ∧
      (f.code = 0x12#8 → f.args = [byte k] →
        exec .restoreProfile s = .next (s.answered f rest .badArgument []))) ∧
    (f.code = 0x11#8 → ∀ k tag : Nat, k ≤ 3 → tag ≤ 65535 → f.args = byte k :: be16 tag →
      (s.closeOut.engine ≠ .idle → exec .saveProfile s = .next (s.answered f rest .busy [])) ∧
      (s.closeOut.engine = .idle → s.profile.map = none →
        exec .saveProfile s = .next (s.answered f rest .refusedState [])) ∧
      (∀ id, s.closeOut.engine = .idle → s.profile.map = some id →
        exec .saveProfile s = .next (State.answered { s with profile := { s.profile with
          slots := s.profile.slots.set k (some ⟨tag, id.sliceCount,
            ⟨some (s.profile.records.bw.map (fun r => ⟨r.f, r.state⟩)),
             some (s.profile.records.mo.map (fun r => ⟨r.f, r.state⟩)),
             some (s.profile.records.ca.map (fun r => ⟨r.f, r.state⟩)),
             some (s.profile.records.dw.map (fun r => ⟨r.f, r.state⟩))⟩⟩) } } f rest .ok []))) ∧
    (f.code = 0x12#8 → ∀ k : Nat, k ≤ 3 → f.args = [byte k] →
      (s.closeOut.engine ≠ .idle → exec .restoreProfile s = .next (s.answered f rest .busy [])) ∧
      (s.closeOut.engine = .idle → s.profile.map = none →
        exec .restoreProfile s = .next (s.answered f rest .refusedState [])) ∧
      (∀ id, s.closeOut.engine = .idle → s.profile.map = some id →
        (s.profile.slots[k]? = some none → exec .restoreProfile s = .next (s.answered f rest .slotEmpty [])) ∧
        (∀ x, s.profile.slots[k]? = some (some x) → x.sliceCount ≠ id.sliceCount →
          exec .restoreProfile s = .next (s.answered f rest .mapMismatch [])) ∧
        (∀ x, s.profile.slots[k]? = some (some x) → x.sliceCount = id.sliceCount →
          exec .restoreProfile s = .next (State.answered { s with
            profile := s.profile.applyAction ⟨.restore k, id⟩ } f rest .ok [])))) ∧
    (f.code = 0x13#8 → f.args = [] →
      (s.closeOut.engine ≠ .idle → exec .clearProfile s = .next (s.answered f rest .busy [])) ∧
      (s.closeOut.engine = .idle → s.profile.map = none →
        exec .clearProfile s = .next (s.answered f rest .ok [])) ∧
      (∀ id, s.closeOut.engine = .idle → s.profile.map = some id →
        exec .clearProfile s = .next (State.answered { s with
          profile := s.profile.applyAction ⟨.clear, id⟩ } f rest .ok [])))

/-- PUSH_CONTEXT: a valid context joins a queue of fewer than 4, with speed and limits as clamped; a full queue refuses it
with QUEUE_FULL and raises QUEUE_OVERFLOW; a record whose map is absent, whose limits are out of order or of which a code or
value fails R114 is answered BAD_ARGUMENT and changes nothing. FLUSH_QUEUE empties the queue, but not under the scan-on flag
without a context in effect. -/
def Obligations.ContextsArePushedAndFlushed : Prop :=
  ∀ (f : CommandFrame) (rest : List CommandFrame) (s : State), AtHand f rest s → s.conditions.summary = false →
    s.conditions.raised = [] →
    (f.code = 0x05#8 → ∀ c : Context, f.args = c.bytes → mapLoaded s.tables c = true →
      c.tag ≤ 65535 → c.front ≤ 65535 → c.back ≤ 65535 → c.speed ≤ 65535 → 1 ≤ c.nmin → c.nmin ≤ 15 →
      1 ≤ c.weight → c.weight ≤ 256 → 1 ≤ c.staleLimit → c.staleLimit ≤ 15 → 10 ≤ c.quorum → c.quorum ≤ 100 →
      c.edgeWidth ≤ 16 → c.interval ≤ 255 → (∀ g, c.tracking = some g → g ≤ 2000) →
      (∀ k, c.action = .restore k → k ≤ 3) →
      let clamped : Context := { c with
        front := min c.front 32767, back := min c.back 32767
        speed := if c.speed < 50 then 50 else if 1000 < c.speed then 1000 else c.speed }
      (clamped.front < clamped.back → s.contexts.queue.length < 4 →
        exec .pushContext s = .next (State.answered { s with
          contexts := { s.contexts with queue := s.contexts.queue ++ [clamped] } } f rest .ok [])) ∧
      (clamped.front < clamped.back → 4 ≤ s.contexts.queue.length →
        exec .pushContext s = .next (State.answered { s with
          conditions := s.conditions.take (alarmNow .queueOverflow s), choices := s.choices + 1 }
          f rest .queueFull [])) ∧
      (clamped.back ≤ clamped.front → exec .pushContext s = .next (s.answered f rest .badArgument []))) ∧
    (f.code = 0x05#8 → CommandRow.pushContext.wellFormedArgs f.args = true →
      let arg := argByte f
      let word := argWord f
      ((∀ l : MapLetter, l.code = arg 2 → s.tables.map l = none) ∨
        min 32767 (word 5) ≤ min 32767 (word 3) ∨ arg 9 = 0 ∨ 15 < arg 9 ∨ word 10 = 0 ∨ 256 < word 10 ∨ arg 12 = 0 ∨
        15 < arg 12 ∨ arg 13 < 10 ∨ 100 < arg 13 ∨ 16 < arg 14 ∨ 1 < arg 16 ∨ (arg 16 = 1 ∧ 2000 < word 18) ∨
        2 < arg 17 ∨ (arg 17 = 2 ∧ 3 < arg (if arg 16 = 1 then 20 else 18))) →
      exec .pushContext s = .next (s.answered f rest .badArgument [])) ∧
    (f.code = 0x06#8 → f.args = [] →
      (s.contexts.inEffect = none → s.frame.scanOn = true →
        exec .flushQueue s = .next (s.answered f rest .refusedState [])) ∧
      (s.contexts.inEffect ≠ none ∨ s.frame.scanOn = false →
        exec .flushQueue s = .next (State.answered { s with contexts := ⟨[], s.contexts.inEffect⟩ } f rest .ok [])))

/-- START_SCAN, STOP_SCAN, PARK and RESUME by carriage state: what each answers, which flag it sets or clears and where it
sends the carriage. That a PARK in STANDARDIZING hands HEAD_MODE NORMAL over before the MOVE is the model's reading (log 15). -/
def Obligations.ScanCommandsByCarriageState : Prop :=
  ∀ (f : CommandFrame) (rest : List CommandFrame) (s : State), AtHand f rest s → f.args = [] →
    let contextless := s.contexts.queue = [] ∧ s.contexts.inEffect = none
    let broken := s.tables.sheet.mode ≠ .report ∧ s.watch.state ≠ .sheetOn
    let flagged (b : Bool) : State := { s with frame := { s.frame with scanOn := b } }
    (f.code = 0x07#8 → s.conditions.summary = false →
      (s.frame.carriage = .unreferenced ∨ s.frame.carriage = .halted ∨ (∃ sub, s.frame.carriage = .fixed sub) ∨
        (∃ sub, s.frame.carriage = .probing sub) → exec .startScan s = .next (s.answered f rest .refusedState [])) ∧
      (s.frame.carriage.mayBeScanOn = true ∨ s.frame.carriage = .parked →
        (contextless → exec .startScan s = .next (s.answered f rest .noContext [])) ∧
        (¬ contextless → broken → exec .startScan s = .next (s.answered f rest .refusedState [])) ∧
        (¬ contextless → ¬ broken → s.frame.carriage ≠ .parked →
          exec .startScan s = .next ((flagged true).answered f rest .ok [])) ∧
        (∀ c, governing s = some c → ¬ broken → s.frame.carriage = .parked →
          exec .startScan s = .next (((flagged true).moving (.traverse .positioning .fwd)
            (limitsOf s.tables.frame.minimumWidth c s.binning.lastGood).front c.speed).answered f rest .ok [])))) ∧
    (f.code = 0x08#8 →
      ((∃ sub, s.frame.carriage = .fixed sub) ∨ (∃ d, s.frame.carriage = .traverse .positioning d) →
        exec .stopScan s = .next (((flagged false).moving .parking s.tables.frame.park 200).answered f rest .ok [])) ∧
      ((∀ sub, s.frame.carriage ≠ .fixed sub) → (∀ d, s.frame.carriage ≠ .traverse .positioning d) →
        exec .stopScan s = .next ((flagged false).answered f rest .ok []))) ∧
    (f.code = 0x09#8 →
      (s.frame.carriage = .unreferenced → exec .park s = .next (s.answered f rest .refusedState [])) ∧
      (s.frame.carriage = .parked → exec .park s = .next ((flagged false).answered f rest .ok [])) ∧
      (s.binning.openTraverse = none → (s.frame.carriage = .parking ∨ (∃ sub d, s.frame.carriage = .traverse sub d) ∨
          (∃ sub, s.frame.carriage = .fixed sub) ∨ (∃ sub, s.frame.carriage = .probing sub)) →
        exec .park s = .next (((flagged false).moving .parking s.tables.frame.park 200).answered f rest .ok [])) ∧
      (∀ o sub d, s.binning.openTraverse = some o → s.frame.carriage = .traverse sub d →
        ∃ n : Nat, exec .park s = .next ((State.moving { flagged false with
          binning := { s.binning with openTraverse := none }
          mill := { s.mill with reports := s.mill.reports.filter ReportFrame.isProfile ++
            [.notice ⟨s.closeOut.scanNumber, s.clock, o.direction, o.context.tag, o.map.identity, .park⟩] }
          conditions := { s.conditions with counters := { s.conditions.counters with reportsDropped := n } } }
          .parking s.tables.frame.park 200).answered f rest .ok []) ∧
          n = (if noticeCount s.mill.reports = 0 then s.conditions.counters.reportsDropped
            else min 65535 (s.conditions.counters.reportsDropped + 1))) ∧
      (∀ c, s.frame.carriage = .standardizing → s.standardize.collection = some c →
        ∃ t, exec .park s = .next t ∧ t.frame = ((flagged false).moving .parking s.tables.frame.park 200).frame ∧
          t.standardize = ⟨false, s.standardize.counter, none⟩ ∧
          t.port = (s.port.handHead .normal).handDrive (.move s.tables.frame.park 200) ∧ t.tables = s.tables ∧
          t.conditions = s.conditions ∧ t.mill.response = some ⟨f.sequence, f.code, .ok, []⟩) ∧
      (s.frame.carriage = .halted →
        (∀ d, s.frame.lastDrive = some d → d.referenced = true → d.fault = false →
          exec .park s = .next ((State.moving { s with frame := { s.frame with
            silence := some ⟨s.tables.frame.silencePeriod, 0⟩ } } .parking s.tables.frame.park 200).answered
            f rest .ok [])) ∧
        ((∀ d, s.frame.lastDrive = some d → d.referenced = false ∨ d.fault = true) →
          exec .park s = .next (s.answered f rest .refusedState [])))) ∧
    (f.code = 0x0A#8 → s.conditions.summary = false →
      ((∀ sub, s.frame.carriage ≠ .fixed sub) → exec .resume s = .next (s.answered f rest .refusedState [])) ∧
      (∀ sub, s.frame.carriage = .fixed sub →
        (contextless → exec .resume s = .next (s.answered f rest .noContext [])) ∧
        (¬ contextless → broken → exec .resume s = .next (s.answered f rest .refusedState [])) ∧
        (∀ c, governing s = some c → ¬ broken →
          exec .resume s = .next (((flagged true).moving (.traverse .positioning .fwd)
            (limitsOf s.tables.frame.minimumWidth c s.binning.lastGood).front c.speed).answered f rest .ok []))))

/-- FIXED_POINT sends the carriage to the point at the speed of the context in effect, or 200 mm/s, and abandons an open
traverse with reason FIXED; STANDARDIZE sets the request, in PARKED starts its collection at once, and adds nothing to a
standardize that runs. -/
def Obligations.FixedPointAndStandardize : Prop :=
  ∀ (f : CommandFrame) (rest : List CommandFrame) (s : State), AtHand f rest s → s.conditions.summary = false →
    (f.code = 0x0B#8 → ∀ p : Nat, p ≤ 65535 → f.args = be16 p →
      (32767 < p → exec .fixedPoint s = .next (s.answered f rest .badArgument [])) ∧
      (p ≤ 32767 → (s.frame.carriage = .unreferenced ∨ s.frame.carriage = .standardizing ∨
          s.frame.carriage = .halted ∨ ∃ sub, s.frame.carriage = .probing sub) →
        exec .fixedPoint s = .next (s.answered f rest .refusedState [])) ∧
      (p ≤ 32767 → (s.frame.carriage = .parking ∨ s.frame.carriage = .parked ∨
          (∃ sub d, s.frame.carriage = .traverse sub d) ∨ ∃ sub, s.frame.carriage = .fixed sub) →
        (s.tables.sheet.mode ≠ .report → s.watch.state ≠ .sheetOn →
          exec .fixedPoint s = .next (s.answered f rest .refusedState [])) ∧
        ((s.tables.sheet.mode = .report ∨ s.watch.state = .sheetOn) → s.binning.openTraverse = none →
          exec .fixedPoint s = .next ((State.moving { s with
            frame := { s.frame with scanOn := false, fixedPoint := some p } } (.fixed .moving) p
            (match s.contexts.inEffect with
             | some c => c.speed
             | none => 200)).answered f rest .ok [])) ∧
        (∀ o, (s.tables.sheet.mode = .report ∨ s.watch.state = .sheetOn) → s.binning.openTraverse = some o →
          exec .fixedPoint s = .next ((State.moving { s with
            frame := { s.frame with scanOn := false, fixedPoint := some p }
            binning := { s.binning with openTraverse := none }
            mill := { s.mill with reports := s.mill.reports.filter ReportFrame.isProfile ++
              [.notice ⟨s.closeOut.scanNumber, s.clock, o.direction, o.context.tag, o.map.identity, .fixed⟩] }
            conditions := { s.conditions with counters := { s.conditions.counters with
              reportsDropped := if noticeCount s.mill.reports = 0 then s.conditions.counters.reportsDropped
                else min 65535 (s.conditions.counters.reportsDropped + 1) } } } (.fixed .moving) p
            (match s.contexts.inEffect with
             | some c => c.speed
             | none => 200)).answered f rest .ok [])))) ∧
    (f.code = 0x0C#8 → f.args = [] →
      (s.frame.carriage = .unreferenced ∨ s.frame.carriage = .halted →
        exec .standardize s = .next (s.answered f rest .refusedState [])) ∧
      (s.frame.carriage = .standardizing → exec .standardize s = .next (s.answered f rest .ok [])) ∧
      (s.frame.carriage.hasMove = true ∨ s.frame.carriage.isScanning = true ∨ s.frame.carriage = .fixed .dwelling ∨
        s.frame.carriage = .probing .dwelling → exec .standardize s = .next (State.answered { s with
          standardize := { s.standardize with request := true } } f rest .ok [])) ∧
      (s.frame.carriage = .parked → ∃ t c, exec .standardize s = .next t ∧
        t.frame = { s.frame with carriage := .standardizing } ∧
        t.standardize = ⟨true, s.standardize.counter, some c⟩ ∧ c.count = 0 ∧ c.target = s.tables.frame.s ∧
        c.timer = ⟨s.tables.frame.stdTimeout, 0⟩ ∧ t.port = s.port.handHead .reference ∧
        t.tables = s.tables ∧ t.mill.response = some ⟨f.sequence, f.code, .ok, []⟩))

/-- The commands of the condition unit and of the outbound side: ACK_ALARM, CLEAR_CONDITIONS, SET_MASK, CLEAR_COUNTERS,
SET_STREAM and PASS_DOWN each change what their rule names and nothing else, pending summary or not. -/
def Obligations.AlarmCounterStreamAndPassCommands : Prop :=
  ∀ (f : CommandFrame) (rest : List CommandFrame) (s : State), AtHand f rest s →
    (f.code = 0x15#8 → f.args = [] → exec .ackAlarm s = .next (State.answered { s with
      conditions := { s.conditions with summary := false } } f rest .ok (be24 s.conditions.flags.toNat))) ∧
    (f.code = 0x16#8 →
      (∀ b : BitVec 17, f.args = be24 b.toNat → exec .clearConditions s = .next (State.answered { s with
        conditions := { s.conditions with flags := s.conditions.flags &&& ~~~b } } f rest .ok [])) ∧
      (∀ n : Nat, 131072 ≤ n → n < 16777216 → f.args = be24 n →
        exec .clearConditions s = .next (s.answered f rest .badArgument []))) ∧
    (f.code = 0x17#8 →
      (∀ b : BitVec 17, f.args = be24 b.toNat → exec .setMask s = .next (State.answered { s with
        conditions := { s.conditions with unmasked := b } } f rest .ok [])) ∧
      (∀ n : Nat, 131072 ≤ n → n < 16777216 → f.args = be24 n →
        exec .setMask s = .next (s.answered f rest .badArgument []))) ∧
    (f.code = 0x18#8 → f.args = [] → exec .clearCounters s = .next (State.answered { s with
      conditions := { s.conditions with counters := ⟨0, 0, 0, 0, 0, 0, 0, 0⟩ } } f rest .ok [])) ∧
    (f.code = 0x19#8 → ∀ n : Nat, n ≤ 65535 → f.args = be16 n → exec .setStream s = .next (State.answered { s with
      mill := { s.mill with decimation := min n 255, decimationCount := 0 } } f rest .ok [byte (min n 255)])) ∧
    (f.code = 0x1A#8 → s.conditions.raised = [] → f.args ≠ [] →
      (256 < f.args.length → exec .passDown s = .next (s.answered f rest .badArgument [])) ∧
      (f.args.length ≤ 256 → s.port.passDown.length < 4 → exec .passDown s = .next (State.answered { s with
        port := { s.port with passDown := s.port.passDown ++ [f.args] } } f rest .ok [])) ∧
      (f.args.length ≤ 256 → 4 ≤ s.port.passDown.length → exec .passDown s = .next (State.answered { s with
        choices := s.choices + 1
        conditions := ConditionUnit.take { s.conditions with counters := { s.conditions.counters with
          passDropped := min 65535 (s.conditions.counters.passDropped + 1) } } (alarmNow .linkError s) }
        f rest .queueFull [])))
end

