-- ==== Sys2Proof/Laws/Port.lean ====
section
/-! SUPPORT. What the carriage link port can do (R192): what a frame handed over leaves, busy and idle, and what the idle
transmitter sends. -/
namespace Sys2Proof.Machine

variable (p : CarriagePort) (f : DriveFrame) (m : HeadMode)

/-! ### What no hand-over touches -/

@[simp] theorem CarriagePort.sendDrive_receiver : (p.sendDrive f).receiver = p.receiver := rfl
@[simp] theorem CarriagePort.sendDrive_passDown : (p.sendDrive f).passDown = p.passDown := rfl
@[simp] theorem CarriagePort.sendHead_receiver : (p.sendHead m).receiver = p.receiver := rfl
@[simp] theorem CarriagePort.sendHead_passDown : (p.sendHead m).passDown = p.passDown := rfl

@[simp] theorem CarriagePort.sendSlots_receiver : p.sendSlots.receiver = p.receiver := by
  unfold CarriagePort.sendSlots; split <;> try (split) <;> rfl
  all_goals rfl

@[simp] theorem CarriagePort.sendSlots_passDown : p.sendSlots.passDown = p.passDown := by
  unfold CarriagePort.sendSlots; split <;> try (split) <;> rfl
  all_goals rfl

@[simp] theorem CarriagePort.handDrive_receiver : (p.handDrive f).receiver = p.receiver := by simp [CarriagePort.handDrive]
@[simp] theorem CarriagePort.handDrive_passDown : (p.handDrive f).passDown = p.passDown := by simp [CarriagePort.handDrive]
@[simp] theorem CarriagePort.handHead_receiver : (p.handHead m).receiver = p.receiver := by simp [CarriagePort.handHead]
@[simp] theorem CarriagePort.handHead_passDown : (p.handHead m).passDown = p.passDown := by simp [CarriagePort.handHead]

/-! ### A busy transmitter -/

theorem CarriagePort.sendSlots_busy (h : p.transmitter.sending.isSome = true) : p.sendSlots = p := by
  cases ht : p.transmitter.sending with
  | none => simp [ht] at h
  | some g => simp [CarriagePort.sendSlots, ht]

/-- A frame handed over while another is being sent waits in its slot, from which it took any unsent one. -/
theorem CarriagePort.handDrive_busy (h : p.transmitter.sending.isSome = true) :
    p.handDrive f = { p with drive := some f, driveEarlier := p.head.isNone } := by
  unfold CarriagePort.handDrive
  rw [CarriagePort.sendSlots_busy p h]
  exact CarriagePort.sendSlots_busy _ h

theorem CarriagePort.handHead_busy (h : p.transmitter.sending.isSome = true) :
    p.handHead m = { p with head := some m, driveEarlier := p.drive.isSome } := by
  unfold CarriagePort.handHead
  rw [CarriagePort.sendSlots_busy p h]
  exact CarriagePort.sendSlots_busy _ h

theorem CarriagePort.transmit_busy (h : p.transmitter.sending.isSome = true) : p.transmit = p := by
  cases ht : p.transmitter.sending with
  | none => simp [ht] at h
  | some g => simp [CarriagePort.transmit, ht, CarriagePort.sendSlots_busy p h]

/-! ### An idle transmitter -/

/-- A frame handed over to an idle transmitter for which nothing waits is sent at once. -/
theorem CarriagePort.handDrive_idle (h : p.transmitter.sending = none) (hd : p.drive = none) (hh : p.head = none) :
    p.handDrive f = { p with driveEarlier := false, transmitter := p.transmitter.start f.bytes.1 f.bytes.2 } := by
  obtain ⟨_, _, _, _, _, ⟨_, _⟩⟩ := p
  simp only at h hd hh
  subst h hd hh
  rfl

theorem CarriagePort.handHead_idle (h : p.transmitter.sending = none) (hd : p.drive = none) (hh : p.head = none) :
    p.handHead m = { p with driveEarlier := false, transmitter := p.transmitter.start 0x13#8 m.payload } := by
  obtain ⟨_, _, _, _, _, ⟨_, _⟩⟩ := p
  simp only at h hd hh
  subst h hd hh
  rfl

/-- What an idle transmitter sends of its slots: the earlier-handed of two, the one there is, or nothing. -/
theorem CarriagePort.sendSlots_idle (h : p.transmitter.sending = none) :
    (∀ d, p.drive = some d → (p.head = none ∨ p.driveEarlier = true) → p.sendSlots = p.sendDrive d) ∧
    (∀ k, p.head = some k → (p.drive = none ∨ p.driveEarlier = false) → p.sendSlots = p.sendHead k) ∧
    (p.drive = none → p.head = none → p.sendSlots = p) := by
  refine ⟨fun d hd hh => ?_, fun k hh hd => ?_, fun hd hh => ?_⟩
  · cases hk : p.head with
    | none => simp [CarriagePort.sendSlots, h, hd, hk]
    | some k => simp_all [CarriagePort.sendSlots]
  · cases hk : p.drive with
    | none => simp [CarriagePort.sendSlots, h, hh, hk]
    | some d => simp_all [CarriagePort.sendSlots]
  · simp [CarriagePort.sendSlots, h, hd, hh]

end Sys2Proof.Machine
end

