-- ==== Sys2Proof/Laws/State.lean ====
section
/-! SUPPORT. What each named update of the state does to each field: the updated field's new value, every other field as
it was. True by definition, and simp lemmas, so that no proof unfolds a record update. -/
namespace Sys2Proof.Machine

variable (s : State)

/-! ### State.withPending -/

@[simp] theorem withPending_conditioner (q : List Instr) :
    (s.withPending q).conditioner = s.conditioner := rfl
@[simp] theorem withPending_tables (q : List Instr) : (s.withPending q).tables = s.tables := rfl
@[simp] theorem withPending_standardize (q : List Instr) :
    (s.withPending q).standardize = s.standardize := rfl
@[simp] theorem withPending_binning (q : List Instr) : (s.withPending q).binning = s.binning := rfl
@[simp] theorem withPending_closeOut (q : List Instr) : (s.withPending q).closeOut = s.closeOut := rfl
@[simp] theorem withPending_profile (q : List Instr) : (s.withPending q).profile = s.profile := rfl
@[simp] theorem withPending_frame (q : List Instr) : (s.withPending q).frame = s.frame := rfl
@[simp] theorem withPending_contexts (q : List Instr) : (s.withPending q).contexts = s.contexts := rfl
@[simp] theorem withPending_watch (q : List Instr) : (s.withPending q).watch = s.watch := rfl
@[simp] theorem withPending_monitors (q : List Instr) : (s.withPending q).monitors = s.monitors := rfl
@[simp] theorem withPending_conditions (q : List Instr) : (s.withPending q).conditions = s.conditions := rfl
@[simp] theorem withPending_handler (q : List Instr) : (s.withPending q).handler = s.handler := rfl
@[simp] theorem withPending_mill (q : List Instr) : (s.withPending q).mill = s.mill := rfl
@[simp] theorem withPending_port (q : List Instr) : (s.withPending q).port = s.port := rfl
@[simp] theorem withPending_clock (q : List Instr) : (s.withPending q).clock = s.clock := rfl
@[simp] theorem withPending_choices (q : List Instr) : (s.withPending q).choices = s.choices := rfl
@[simp] theorem withPending_pending (q : List Instr) : (s.withPending q).pending = q := rfl

/-! ### State.taken -/

@[simp] theorem taken_conditioner (f : CommandFrame) (rest : List CommandFrame) :
    (s.taken f rest).conditioner = s.conditioner := rfl
@[simp] theorem taken_tables (f : CommandFrame) (rest : List CommandFrame) :
    (s.taken f rest).tables = s.tables := rfl
@[simp] theorem taken_standardize (f : CommandFrame) (rest : List CommandFrame) :
    (s.taken f rest).standardize = s.standardize := rfl
@[simp] theorem taken_binning (f : CommandFrame) (rest : List CommandFrame) :
    (s.taken f rest).binning = s.binning := rfl
@[simp] theorem taken_closeOut (f : CommandFrame) (rest : List CommandFrame) :
    (s.taken f rest).closeOut = s.closeOut := rfl
@[simp] theorem taken_profile (f : CommandFrame) (rest : List CommandFrame) :
    (s.taken f rest).profile = s.profile := rfl
@[simp] theorem taken_frame (f : CommandFrame) (rest : List CommandFrame) :
    (s.taken f rest).frame = s.frame := rfl
@[simp] theorem taken_contexts (f : CommandFrame) (rest : List CommandFrame) :
    (s.taken f rest).contexts = s.contexts := rfl
@[simp] theorem taken_watch (f : CommandFrame) (rest : List CommandFrame) :
    (s.taken f rest).watch = s.watch := rfl
@[simp] theorem taken_monitors (f : CommandFrame) (rest : List CommandFrame) :
    (s.taken f rest).monitors = s.monitors := rfl
@[simp] theorem taken_conditions (f : CommandFrame) (rest : List CommandFrame) :
    (s.taken f rest).conditions = s.conditions := rfl
@[simp] theorem taken_handler (f : CommandFrame) (rest : List CommandFrame) :
    (s.taken f rest).handler = ⟨rest, some f, .executing⟩ := rfl
@[simp] theorem taken_mill (f : CommandFrame) (rest : List CommandFrame) :
    (s.taken f rest).mill = s.mill := rfl
@[simp] theorem taken_port (f : CommandFrame) (rest : List CommandFrame) :
    (s.taken f rest).port = s.port := rfl
@[simp] theorem taken_clock (f : CommandFrame) (rest : List CommandFrame) :
    (s.taken f rest).clock = s.clock := rfl
@[simp] theorem taken_choices (f : CommandFrame) (rest : List CommandFrame) :
    (s.taken f rest).choices = s.choices := rfl
@[simp] theorem taken_pending (f : CommandFrame) (rest : List CommandFrame) :
    (s.taken f rest).pending = s.pending := rfl

/-! ### State.answered -/

@[simp] theorem answered_conditioner (f : CommandFrame) (rest : List CommandFrame) (st : Status) (r : List Byte) :
    (s.answered f rest st r).conditioner = s.conditioner := rfl
@[simp] theorem answered_tables (f : CommandFrame) (rest : List CommandFrame) (st : Status) (r : List Byte) :
    (s.answered f rest st r).tables = s.tables := rfl
@[simp] theorem answered_standardize (f : CommandFrame) (rest : List CommandFrame) (st : Status) (r : List Byte) :
    (s.answered f rest st r).standardize = s.standardize := rfl
@[simp] theorem answered_binning (f : CommandFrame) (rest : List CommandFrame) (st : Status) (r : List Byte) :
    (s.answered f rest st r).binning = s.binning := rfl
@[simp] theorem answered_closeOut (f : CommandFrame) (rest : List CommandFrame) (st : Status) (r : List Byte) :
    (s.answered f rest st r).closeOut = s.closeOut := rfl
@[simp] theorem answered_profile (f : CommandFrame) (rest : List CommandFrame) (st : Status) (r : List Byte) :
    (s.answered f rest st r).profile = s.profile := rfl
@[simp] theorem answered_frame (f : CommandFrame) (rest : List CommandFrame) (st : Status) (r : List Byte) :
    (s.answered f rest st r).frame = s.frame := rfl
@[simp] theorem answered_contexts (f : CommandFrame) (rest : List CommandFrame) (st : Status) (r : List Byte) :
    (s.answered f rest st r).contexts = s.contexts := rfl
@[simp] theorem answered_watch (f : CommandFrame) (rest : List CommandFrame) (st : Status) (r : List Byte) :
    (s.answered f rest st r).watch = s.watch := rfl
@[simp] theorem answered_monitors (f : CommandFrame) (rest : List CommandFrame) (st : Status) (r : List Byte) :
    (s.answered f rest st r).monitors = s.monitors := rfl
@[simp] theorem answered_conditions (f : CommandFrame) (rest : List CommandFrame) (st : Status) (r : List Byte) :
    (s.answered f rest st r).conditions = s.conditions := rfl
@[simp] theorem answered_handler (f : CommandFrame) (rest : List CommandFrame) (st : Status) (r : List Byte) :
    (s.answered f rest st r).handler = ⟨rest, some f, .answered⟩ := rfl
@[simp] theorem answered_mill (f : CommandFrame) (rest : List CommandFrame) (st : Status) (r : List Byte) :
    (s.answered f rest st r).mill =
    { s.mill with response := some ⟨f.sequence, f.code, st, r⟩ } := rfl

@[simp] theorem answered_port (f : CommandFrame) (rest : List CommandFrame) (st : Status) (r : List Byte) :
    (s.answered f rest st r).port = s.port := rfl
@[simp] theorem answered_clock (f : CommandFrame) (rest : List CommandFrame) (st : Status) (r : List Byte) :
    (s.answered f rest st r).clock = s.clock := rfl
@[simp] theorem answered_choices (f : CommandFrame) (rest : List CommandFrame) (st : Status) (r : List Byte) :
    (s.answered f rest st r).choices = s.choices := rfl
@[simp] theorem answered_pending (f : CommandFrame) (rest : List CommandFrame) (st : Status) (r : List Byte) :
    (s.answered f rest st r).pending = s.pending := rfl

/-! ### handDrive -/

@[simp] theorem handDrive_conditioner (d : DriveFrame) : (handDrive d s).conditioner = s.conditioner := rfl
@[simp] theorem handDrive_tables (d : DriveFrame) : (handDrive d s).tables = s.tables := rfl
@[simp] theorem handDrive_standardize (d : DriveFrame) : (handDrive d s).standardize = s.standardize := rfl
@[simp] theorem handDrive_binning (d : DriveFrame) : (handDrive d s).binning = s.binning := rfl
@[simp] theorem handDrive_closeOut (d : DriveFrame) : (handDrive d s).closeOut = s.closeOut := rfl
@[simp] theorem handDrive_profile (d : DriveFrame) : (handDrive d s).profile = s.profile := rfl
@[simp] theorem handDrive_frame (d : DriveFrame) : (handDrive d s).frame = s.frame := rfl
@[simp] theorem handDrive_contexts (d : DriveFrame) : (handDrive d s).contexts = s.contexts := rfl
@[simp] theorem handDrive_watch (d : DriveFrame) : (handDrive d s).watch = s.watch := rfl
@[simp] theorem handDrive_monitors (d : DriveFrame) : (handDrive d s).monitors = s.monitors := rfl
@[simp] theorem handDrive_conditions (d : DriveFrame) : (handDrive d s).conditions = s.conditions := rfl
@[simp] theorem handDrive_handler (d : DriveFrame) : (handDrive d s).handler = s.handler := rfl
@[simp] theorem handDrive_mill (d : DriveFrame) : (handDrive d s).mill = s.mill := rfl
@[simp] theorem handDrive_port (d : DriveFrame) : (handDrive d s).port = s.port.handDrive d := rfl

@[simp] theorem handDrive_clock (d : DriveFrame) : (handDrive d s).clock = s.clock := rfl
@[simp] theorem handDrive_choices (d : DriveFrame) : (handDrive d s).choices = s.choices := rfl
@[simp] theorem handDrive_pending (d : DriveFrame) : (handDrive d s).pending = s.pending := rfl

/-! ### handHead -/

@[simp] theorem handHead_conditioner (m : HeadMode) : (handHead m s).conditioner = s.conditioner := rfl
@[simp] theorem handHead_tables (m : HeadMode) : (handHead m s).tables = s.tables := rfl
@[simp] theorem handHead_standardize (m : HeadMode) : (handHead m s).standardize = s.standardize := rfl
@[simp] theorem handHead_binning (m : HeadMode) : (handHead m s).binning = s.binning := rfl
@[simp] theorem handHead_closeOut (m : HeadMode) : (handHead m s).closeOut = s.closeOut := rfl
@[simp] theorem handHead_profile (m : HeadMode) : (handHead m s).profile = s.profile := rfl
@[simp] theorem handHead_frame (m : HeadMode) : (handHead m s).frame = s.frame := rfl
@[simp] theorem handHead_contexts (m : HeadMode) : (handHead m s).contexts = s.contexts := rfl
@[simp] theorem handHead_watch (m : HeadMode) : (handHead m s).watch = s.watch := rfl
@[simp] theorem handHead_monitors (m : HeadMode) : (handHead m s).monitors = s.monitors := rfl
@[simp] theorem handHead_conditions (m : HeadMode) : (handHead m s).conditions = s.conditions := rfl
@[simp] theorem handHead_handler (m : HeadMode) : (handHead m s).handler = s.handler := rfl
@[simp] theorem handHead_mill (m : HeadMode) : (handHead m s).mill = s.mill := rfl
@[simp] theorem handHead_port (m : HeadMode) : (handHead m s).port = s.port.handHead m := rfl

@[simp] theorem handHead_clock (m : HeadMode) : (handHead m s).clock = s.clock := rfl
@[simp] theorem handHead_choices (m : HeadMode) : (handHead m s).choices = s.choices := rfl
@[simp] theorem handHead_pending (m : HeadMode) : (handHead m s).pending = s.pending := rfl

/-! ### dropTraverse -/

@[simp] theorem dropTraverse_conditioner : (dropTraverse s).conditioner = s.conditioner := rfl
@[simp] theorem dropTraverse_tables : (dropTraverse s).tables = s.tables := rfl
@[simp] theorem dropTraverse_standardize : (dropTraverse s).standardize = s.standardize := rfl
@[simp] theorem dropTraverse_binning : (dropTraverse s).binning = { s.binning with openTraverse := none } := rfl
@[simp] theorem dropTraverse_closeOut : (dropTraverse s).closeOut = s.closeOut := rfl
@[simp] theorem dropTraverse_profile : (dropTraverse s).profile = s.profile := rfl
@[simp] theorem dropTraverse_frame : (dropTraverse s).frame = s.frame := rfl
@[simp] theorem dropTraverse_contexts : (dropTraverse s).contexts = s.contexts := rfl
@[simp] theorem dropTraverse_watch : (dropTraverse s).watch = s.watch := rfl
@[simp] theorem dropTraverse_monitors : (dropTraverse s).monitors = s.monitors := rfl
@[simp] theorem dropTraverse_conditions : (dropTraverse s).conditions = s.conditions := rfl
@[simp] theorem dropTraverse_handler : (dropTraverse s).handler = s.handler := rfl
@[simp] theorem dropTraverse_mill : (dropTraverse s).mill = s.mill := rfl
@[simp] theorem dropTraverse_port : (dropTraverse s).port = s.port := rfl
@[simp] theorem dropTraverse_clock : (dropTraverse s).clock = s.clock := rfl
@[simp] theorem dropTraverse_choices : (dropTraverse s).choices = s.choices := rfl
@[simp] theorem dropTraverse_pending : (dropTraverse s).pending = s.pending := rfl

/-! ### setScanOn -/

@[simp] theorem setScanOn_conditioner (b : Bool) : (setScanOn b s).conditioner = s.conditioner := rfl
@[simp] theorem setScanOn_tables (b : Bool) : (setScanOn b s).tables = s.tables := rfl
@[simp] theorem setScanOn_standardize (b : Bool) : (setScanOn b s).standardize = s.standardize := rfl
@[simp] theorem setScanOn_binning (b : Bool) : (setScanOn b s).binning = s.binning := rfl
@[simp] theorem setScanOn_closeOut (b : Bool) : (setScanOn b s).closeOut = s.closeOut := rfl
@[simp] theorem setScanOn_profile (b : Bool) : (setScanOn b s).profile = s.profile := rfl
@[simp] theorem setScanOn_frame (b : Bool) : (setScanOn b s).frame = { s.frame with scanOn := b } := rfl
@[simp] theorem setScanOn_contexts (b : Bool) : (setScanOn b s).contexts = s.contexts := rfl
@[simp] theorem setScanOn_watch (b : Bool) : (setScanOn b s).watch = s.watch := rfl
@[simp] theorem setScanOn_monitors (b : Bool) : (setScanOn b s).monitors = s.monitors := rfl
@[simp] theorem setScanOn_conditions (b : Bool) : (setScanOn b s).conditions = s.conditions := rfl
@[simp] theorem setScanOn_handler (b : Bool) : (setScanOn b s).handler = s.handler := rfl
@[simp] theorem setScanOn_mill (b : Bool) : (setScanOn b s).mill = s.mill := rfl
@[simp] theorem setScanOn_port (b : Bool) : (setScanOn b s).port = s.port := rfl
@[simp] theorem setScanOn_clock (b : Bool) : (setScanOn b s).clock = s.clock := rfl
@[simp] theorem setScanOn_choices (b : Bool) : (setScanOn b s).choices = s.choices := rfl
@[simp] theorem setScanOn_pending (b : Bool) : (setScanOn b s).pending = s.pending := rfl

/-! ### endMove -/

@[simp] theorem endMove_conditioner : (endMove s).conditioner = s.conditioner := rfl
@[simp] theorem endMove_tables : (endMove s).tables = s.tables := rfl
@[simp] theorem endMove_standardize : (endMove s).standardize = s.standardize := rfl
@[simp] theorem endMove_binning : (endMove s).binning = s.binning := rfl
@[simp] theorem endMove_closeOut : (endMove s).closeOut = s.closeOut := rfl
@[simp] theorem endMove_profile : (endMove s).profile = s.profile := rfl
@[simp] theorem endMove_frame : (endMove s).frame =
    { s.frame with target := none, stall := none } := rfl

@[simp] theorem endMove_contexts : (endMove s).contexts = s.contexts := rfl
@[simp] theorem endMove_watch : (endMove s).watch = s.watch := rfl
@[simp] theorem endMove_monitors : (endMove s).monitors = s.monitors := rfl
@[simp] theorem endMove_conditions : (endMove s).conditions = s.conditions := rfl
@[simp] theorem endMove_handler : (endMove s).handler = s.handler := rfl
@[simp] theorem endMove_mill : (endMove s).mill = s.mill := rfl
@[simp] theorem endMove_port : (endMove s).port = s.port := rfl
@[simp] theorem endMove_clock : (endMove s).clock = s.clock := rfl
@[simp] theorem endMove_choices : (endMove s).choices = s.choices := rfl
@[simp] theorem endMove_pending : (endMove s).pending = s.pending := rfl

/-! ### sendStop -/

@[simp] theorem sendStop_conditioner : (sendStop s).conditioner = s.conditioner := rfl
@[simp] theorem sendStop_tables : (sendStop s).tables = s.tables := rfl
@[simp] theorem sendStop_standardize : (sendStop s).standardize = s.standardize := rfl
@[simp] theorem sendStop_binning : (sendStop s).binning = s.binning := rfl
@[simp] theorem sendStop_closeOut : (sendStop s).closeOut = s.closeOut := rfl
@[simp] theorem sendStop_profile : (sendStop s).profile = s.profile := rfl
@[simp] theorem sendStop_frame : (sendStop s).frame =
    { s.frame with target := none, stall := none } := rfl

@[simp] theorem sendStop_contexts : (sendStop s).contexts = s.contexts := rfl
@[simp] theorem sendStop_watch : (sendStop s).watch = s.watch := rfl
@[simp] theorem sendStop_monitors : (sendStop s).monitors = s.monitors := rfl
@[simp] theorem sendStop_conditions : (sendStop s).conditions = s.conditions := rfl
@[simp] theorem sendStop_handler : (sendStop s).handler = s.handler := rfl
@[simp] theorem sendStop_mill : (sendStop s).mill = s.mill := rfl
@[simp] theorem sendStop_port : (sendStop s).port =
    s.port.handDrive .stop := rfl

@[simp] theorem sendStop_clock : (sendStop s).clock = s.clock := rfl
@[simp] theorem sendStop_choices : (sendStop s).choices = s.choices := rfl
@[simp] theorem sendStop_pending : (sendStop s).pending = s.pending := rfl

/-! ### sendMove -/

@[simp] theorem sendMove_conditioner (target speed : Nat) : (sendMove target speed s).conditioner = s.conditioner := rfl
@[simp] theorem sendMove_tables (target speed : Nat) : (sendMove target speed s).tables = s.tables := rfl
@[simp] theorem sendMove_standardize (target speed : Nat) : (sendMove target speed s).standardize = s.standardize := rfl
@[simp] theorem sendMove_binning (target speed : Nat) : (sendMove target speed s).binning = s.binning := rfl
@[simp] theorem sendMove_closeOut (target speed : Nat) : (sendMove target speed s).closeOut = s.closeOut := rfl
@[simp] theorem sendMove_profile (target speed : Nat) : (sendMove target speed s).profile = s.profile := rfl
@[simp] theorem sendMove_frame (target speed : Nat) : (sendMove target speed s).frame =
    { s.frame with
      target := some ⟨target, speed⟩
      stall := some ⟨.start s.tables.frame.stallPeriod, s.frame.lastPosition.map (distance target)⟩ } := rfl

@[simp] theorem sendMove_contexts (target speed : Nat) : (sendMove target speed s).contexts = s.contexts := rfl
@[simp] theorem sendMove_watch (target speed : Nat) : (sendMove target speed s).watch = s.watch := rfl
@[simp] theorem sendMove_monitors (target speed : Nat) : (sendMove target speed s).monitors = s.monitors := rfl
@[simp] theorem sendMove_conditions (target speed : Nat) : (sendMove target speed s).conditions = s.conditions := rfl
@[simp] theorem sendMove_handler (target speed : Nat) : (sendMove target speed s).handler = s.handler := rfl
@[simp] theorem sendMove_mill (target speed : Nat) : (sendMove target speed s).mill = s.mill := rfl
@[simp] theorem sendMove_port (target speed : Nat) : (sendMove target speed s).port =
    s.port.handDrive (.move target speed) := rfl

@[simp] theorem sendMove_clock (target speed : Nat) : (sendMove target speed s).clock = s.clock := rfl
@[simp] theorem sendMove_choices (target speed : Nat) : (sendMove target speed s).choices = s.choices := rfl
@[simp] theorem sendMove_pending (target speed : Nat) : (sendMove target speed s).pending = s.pending := rfl

/-! ### startSilence -/

@[simp] theorem startSilence_conditioner : (startSilence s).conditioner = s.conditioner := rfl
@[simp] theorem startSilence_tables : (startSilence s).tables = s.tables := rfl
@[simp] theorem startSilence_standardize : (startSilence s).standardize = s.standardize := rfl
@[simp] theorem startSilence_binning : (startSilence s).binning = s.binning := rfl
@[simp] theorem startSilence_closeOut : (startSilence s).closeOut = s.closeOut := rfl
@[simp] theorem startSilence_profile : (startSilence s).profile = s.profile := rfl
@[simp] theorem startSilence_frame : (startSilence s).frame =
    { s.frame with silence := some (.start s.tables.frame.silencePeriod) } := rfl

@[simp] theorem startSilence_contexts : (startSilence s).contexts = s.contexts := rfl
@[simp] theorem startSilence_watch : (startSilence s).watch = s.watch := rfl
@[simp] theorem startSilence_monitors : (startSilence s).monitors = s.monitors := rfl
@[simp] theorem startSilence_conditions : (startSilence s).conditions = s.conditions := rfl
@[simp] theorem startSilence_handler : (startSilence s).handler = s.handler := rfl
@[simp] theorem startSilence_mill : (startSilence s).mill = s.mill := rfl
@[simp] theorem startSilence_port : (startSilence s).port = s.port := rfl
@[simp] theorem startSilence_clock : (startSilence s).clock = s.clock := rfl
@[simp] theorem startSilence_choices : (startSilence s).choices = s.choices := rfl
@[simp] theorem startSilence_pending : (startSilence s).pending = s.pending := rfl

/-! ### quietRuns -/

@[simp] theorem quietRuns_conditioner : (quietRuns s).conditioner = s.conditioner := rfl
@[simp] theorem quietRuns_tables : (quietRuns s).tables = s.tables := rfl
@[simp] theorem quietRuns_standardize : (quietRuns s).standardize = s.standardize := rfl
@[simp] theorem quietRuns_binning : (quietRuns s).binning = s.binning := rfl
@[simp] theorem quietRuns_closeOut : (quietRuns s).closeOut = s.closeOut := rfl
@[simp] theorem quietRuns_profile : (quietRuns s).profile = s.profile := rfl
@[simp] theorem quietRuns_frame : (quietRuns s).frame = s.frame := rfl
@[simp] theorem quietRuns_contexts : (quietRuns s).contexts = s.contexts := rfl
@[simp] theorem quietRuns_watch : (quietRuns s).watch =
    { s.watch with
      breakRun := if detectorActive s then s.watch.breakRun else 0
      heldRun := if detectorActive s then s.watch.heldRun else none
      sheetRun := if sheetCounting s then s.watch.sheetRun else 0 } := rfl

@[simp] theorem quietRuns_monitors : (quietRuns s).monitors = s.monitors := rfl
@[simp] theorem quietRuns_conditions : (quietRuns s).conditions = s.conditions := rfl
@[simp] theorem quietRuns_handler : (quietRuns s).handler = s.handler := rfl
@[simp] theorem quietRuns_mill : (quietRuns s).mill = s.mill := rfl
@[simp] theorem quietRuns_port : (quietRuns s).port = s.port := rfl
@[simp] theorem quietRuns_clock : (quietRuns s).clock = s.clock := rfl
@[simp] theorem quietRuns_choices : (quietRuns s).choices = s.choices := rfl
@[simp] theorem quietRuns_pending : (quietRuns s).pending = s.pending := rfl

/-! ### setCarriage -/

@[simp] theorem setCarriage_conditioner (c : Carriage) : (setCarriage c s).conditioner = s.conditioner := rfl
@[simp] theorem setCarriage_tables (c : Carriage) : (setCarriage c s).tables = s.tables := rfl
@[simp] theorem setCarriage_standardize (c : Carriage) : (setCarriage c s).standardize = s.standardize := rfl
@[simp] theorem setCarriage_binning (c : Carriage) : (setCarriage c s).binning = s.binning := rfl
@[simp] theorem setCarriage_closeOut (c : Carriage) : (setCarriage c s).closeOut = s.closeOut := rfl
@[simp] theorem setCarriage_profile (c : Carriage) : (setCarriage c s).profile = s.profile := rfl
@[simp] theorem setCarriage_frame (c : Carriage) : (setCarriage c s).frame = { s.frame with carriage := c } := rfl
@[simp] theorem setCarriage_contexts (c : Carriage) : (setCarriage c s).contexts = s.contexts := rfl
@[simp] theorem setCarriage_monitors (c : Carriage) : (setCarriage c s).monitors = s.monitors := rfl
@[simp] theorem setCarriage_conditions (c : Carriage) : (setCarriage c s).conditions = s.conditions := rfl
@[simp] theorem setCarriage_handler (c : Carriage) : (setCarriage c s).handler = s.handler := rfl
@[simp] theorem setCarriage_mill (c : Carriage) : (setCarriage c s).mill = s.mill := rfl
@[simp] theorem setCarriage_port (c : Carriage) : (setCarriage c s).port = s.port := rfl
@[simp] theorem setCarriage_clock (c : Carriage) : (setCarriage c s).clock = s.clock := rfl
@[simp] theorem setCarriage_choices (c : Carriage) : (setCarriage c s).choices = s.choices := rfl
@[simp] theorem setCarriage_pending (c : Carriage) : (setCarriage c s).pending = s.pending := rfl

/-! ### endCollection -/

@[simp] theorem endCollection_conditioner : (endCollection s).conditioner = s.conditioner := rfl
@[simp] theorem endCollection_tables : (endCollection s).tables = s.tables := rfl
@[simp] theorem endCollection_standardize : (endCollection s).standardize =
    { s.standardize with request := false, collection := none } := rfl

@[simp] theorem endCollection_binning : (endCollection s).binning = s.binning := rfl
@[simp] theorem endCollection_closeOut : (endCollection s).closeOut = s.closeOut := rfl
@[simp] theorem endCollection_profile : (endCollection s).profile = s.profile := rfl
@[simp] theorem endCollection_frame : (endCollection s).frame = s.frame := rfl
@[simp] theorem endCollection_contexts : (endCollection s).contexts = s.contexts := rfl
@[simp] theorem endCollection_watch : (endCollection s).watch = s.watch := rfl
@[simp] theorem endCollection_monitors : (endCollection s).monitors = s.monitors := rfl
@[simp] theorem endCollection_conditions : (endCollection s).conditions = s.conditions := rfl
@[simp] theorem endCollection_handler : (endCollection s).handler = s.handler := rfl
@[simp] theorem endCollection_mill : (endCollection s).mill = s.mill := rfl
@[simp] theorem endCollection_port : (endCollection s).port = s.port := rfl
@[simp] theorem endCollection_clock : (endCollection s).clock = s.clock := rfl
@[simp] theorem endCollection_choices : (endCollection s).choices = s.choices := rfl
@[simp] theorem endCollection_pending : (endCollection s).pending = s.pending := rfl

/-! ### startProbeTimer -/

@[simp] theorem startProbeTimer_conditioner : (startProbeTimer s).conditioner = s.conditioner := rfl
@[simp] theorem startProbeTimer_tables : (startProbeTimer s).tables = s.tables := rfl
@[simp] theorem startProbeTimer_standardize : (startProbeTimer s).standardize = s.standardize := rfl
@[simp] theorem startProbeTimer_binning : (startProbeTimer s).binning = s.binning := rfl
@[simp] theorem startProbeTimer_closeOut : (startProbeTimer s).closeOut = s.closeOut := rfl
@[simp] theorem startProbeTimer_profile : (startProbeTimer s).profile = s.profile := rfl
@[simp] theorem startProbeTimer_frame : (startProbeTimer s).frame = s.frame := rfl
@[simp] theorem startProbeTimer_contexts : (startProbeTimer s).contexts = s.contexts := rfl
@[simp] theorem startProbeTimer_watch : (startProbeTimer s).watch =
    { s.watch with probe := some (.start (1000 * s.tables.sheet.probeInterval)) } := rfl

@[simp] theorem startProbeTimer_monitors : (startProbeTimer s).monitors = s.monitors := rfl
@[simp] theorem startProbeTimer_conditions : (startProbeTimer s).conditions = s.conditions := rfl
@[simp] theorem startProbeTimer_handler : (startProbeTimer s).handler = s.handler := rfl
@[simp] theorem startProbeTimer_mill : (startProbeTimer s).mill = s.mill := rfl
@[simp] theorem startProbeTimer_port : (startProbeTimer s).port = s.port := rfl
@[simp] theorem startProbeTimer_clock : (startProbeTimer s).clock = s.clock := rfl
@[simp] theorem startProbeTimer_choices : (startProbeTimer s).choices = s.choices := rfl
@[simp] theorem startProbeTimer_pending : (startProbeTimer s).pending = s.pending := rfl

/-! ### enterThreading -/

@[simp] theorem enterThreading_conditioner : (enterThreading s).conditioner = s.conditioner := rfl
@[simp] theorem enterThreading_tables : (enterThreading s).tables = s.tables := rfl
@[simp] theorem enterThreading_standardize : (enterThreading s).standardize = s.standardize := rfl
@[simp] theorem enterThreading_binning : (enterThreading s).binning = s.binning := rfl
@[simp] theorem enterThreading_closeOut : (enterThreading s).closeOut = s.closeOut := rfl
@[simp] theorem enterThreading_profile : (enterThreading s).profile = s.profile := rfl
@[simp] theorem enterThreading_frame : (enterThreading s).frame = s.frame := rfl
@[simp] theorem enterThreading_contexts : (enterThreading s).contexts = s.contexts := rfl
@[simp] theorem enterThreading_watch : (enterThreading s).watch =
    { s.watch with
      state := .threading, probe := none, dwell := none, breakRun := 0, heldRun := none, sheetRun := 0
      holdOff := some (.start (1000 * s.tables.sheet.holdOff)) } := rfl

@[simp] theorem enterThreading_monitors : (enterThreading s).monitors = s.monitors := rfl
@[simp] theorem enterThreading_conditions : (enterThreading s).conditions = s.conditions := rfl
@[simp] theorem enterThreading_handler : (enterThreading s).handler = s.handler := rfl
@[simp] theorem enterThreading_mill : (enterThreading s).mill = s.mill := rfl
@[simp] theorem enterThreading_port : (enterThreading s).port = s.port := rfl
@[simp] theorem enterThreading_clock : (enterThreading s).clock = s.clock := rfl
@[simp] theorem enterThreading_choices : (enterThreading s).choices = s.choices := rfl
@[simp] theorem enterThreading_pending : (enterThreading s).pending = s.pending := rfl

/-! ### setBreakRun -/

@[simp] theorem setBreakRun_conditioner (n : Nat) : (setBreakRun n s).conditioner = s.conditioner := rfl
@[simp] theorem setBreakRun_tables (n : Nat) : (setBreakRun n s).tables = s.tables := rfl
@[simp] theorem setBreakRun_standardize (n : Nat) : (setBreakRun n s).standardize = s.standardize := rfl
@[simp] theorem setBreakRun_binning (n : Nat) : (setBreakRun n s).binning = s.binning := rfl
@[simp] theorem setBreakRun_closeOut (n : Nat) : (setBreakRun n s).closeOut = s.closeOut := rfl
@[simp] theorem setBreakRun_profile (n : Nat) : (setBreakRun n s).profile = s.profile := rfl
@[simp] theorem setBreakRun_frame (n : Nat) : (setBreakRun n s).frame = s.frame := rfl
@[simp] theorem setBreakRun_contexts (n : Nat) : (setBreakRun n s).contexts = s.contexts := rfl
@[simp] theorem setBreakRun_watch (n : Nat) : (setBreakRun n s).watch = { s.watch with breakRun := n, heldRun := none } := rfl
@[simp] theorem setBreakRun_monitors (n : Nat) : (setBreakRun n s).monitors = s.monitors := rfl
@[simp] theorem setBreakRun_conditions (n : Nat) : (setBreakRun n s).conditions = s.conditions := rfl
@[simp] theorem setBreakRun_handler (n : Nat) : (setBreakRun n s).handler = s.handler := rfl
@[simp] theorem setBreakRun_mill (n : Nat) : (setBreakRun n s).mill = s.mill := rfl
@[simp] theorem setBreakRun_port (n : Nat) : (setBreakRun n s).port = s.port := rfl
@[simp] theorem setBreakRun_clock (n : Nat) : (setBreakRun n s).clock = s.clock := rfl
@[simp] theorem setBreakRun_choices (n : Nat) : (setBreakRun n s).choices = s.choices := rfl
@[simp] theorem setBreakRun_pending (n : Nat) : (setBreakRun n s).pending = s.pending := rfl

/-! ### setSheetRun -/

@[simp] theorem setSheetRun_conditioner (n : Nat) : (setSheetRun n s).conditioner = s.conditioner := rfl
@[simp] theorem setSheetRun_tables (n : Nat) : (setSheetRun n s).tables = s.tables := rfl
@[simp] theorem setSheetRun_standardize (n : Nat) : (setSheetRun n s).standardize = s.standardize := rfl
@[simp] theorem setSheetRun_binning (n : Nat) : (setSheetRun n s).binning = s.binning := rfl
@[simp] theorem setSheetRun_closeOut (n : Nat) : (setSheetRun n s).closeOut = s.closeOut := rfl
@[simp] theorem setSheetRun_profile (n : Nat) : (setSheetRun n s).profile = s.profile := rfl
@[simp] theorem setSheetRun_frame (n : Nat) : (setSheetRun n s).frame = s.frame := rfl
@[simp] theorem setSheetRun_contexts (n : Nat) : (setSheetRun n s).contexts = s.contexts := rfl
@[simp] theorem setSheetRun_watch (n : Nat) : (setSheetRun n s).watch = { s.watch with sheetRun := n } := rfl
@[simp] theorem setSheetRun_monitors (n : Nat) : (setSheetRun n s).monitors = s.monitors := rfl
@[simp] theorem setSheetRun_conditions (n : Nat) : (setSheetRun n s).conditions = s.conditions := rfl
@[simp] theorem setSheetRun_handler (n : Nat) : (setSheetRun n s).handler = s.handler := rfl
@[simp] theorem setSheetRun_mill (n : Nat) : (setSheetRun n s).mill = s.mill := rfl
@[simp] theorem setSheetRun_port (n : Nat) : (setSheetRun n s).port = s.port := rfl
@[simp] theorem setSheetRun_clock (n : Nat) : (setSheetRun n s).clock = s.clock := rfl
@[simp] theorem setSheetRun_choices (n : Nat) : (setSheetRun n s).choices = s.choices := rfl
@[simp] theorem setSheetRun_pending (n : Nat) : (setSheetRun n s).pending = s.pending := rfl

/-! ### markTraverse -/

@[simp] theorem markTraverse_conditioner : (markTraverse s).conditioner = s.conditioner := rfl
@[simp] theorem markTraverse_tables : (markTraverse s).tables = s.tables := rfl
@[simp] theorem markTraverse_standardize : (markTraverse s).standardize = s.standardize := rfl
@[simp] theorem markTraverse_binning : (markTraverse s).binning =
    { s.binning with
      openTraverse := s.binning.openTraverse.map (fun t => { t with breakMark := true }) } := rfl

@[simp] theorem markTraverse_closeOut : (markTraverse s).closeOut = s.closeOut := rfl
@[simp] theorem markTraverse_profile : (markTraverse s).profile = s.profile := rfl
@[simp] theorem markTraverse_frame : (markTraverse s).frame = s.frame := rfl
@[simp] theorem markTraverse_contexts : (markTraverse s).contexts = s.contexts := rfl
@[simp] theorem markTraverse_watch : (markTraverse s).watch = s.watch := rfl
@[simp] theorem markTraverse_monitors : (markTraverse s).monitors = s.monitors := rfl
@[simp] theorem markTraverse_conditions : (markTraverse s).conditions = s.conditions := rfl
@[simp] theorem markTraverse_handler : (markTraverse s).handler = s.handler := rfl
@[simp] theorem markTraverse_mill : (markTraverse s).mill = s.mill := rfl
@[simp] theorem markTraverse_port : (markTraverse s).port = s.port := rfl
@[simp] theorem markTraverse_clock : (markTraverse s).clock = s.clock := rfl
@[simp] theorem markTraverse_choices : (markTraverse s).choices = s.choices := rfl
@[simp] theorem markTraverse_pending : (markTraverse s).pending = s.pending := rfl

/-! ### raise -/

@[simp] theorem raise_conditioner (c : Condition) : (raise c s).conditioner = s.conditioner := rfl
@[simp] theorem raise_tables (c : Condition) : (raise c s).tables = s.tables := rfl
@[simp] theorem raise_standardize (c : Condition) : (raise c s).standardize = s.standardize := rfl
@[simp] theorem raise_binning (c : Condition) : (raise c s).binning = s.binning := rfl
@[simp] theorem raise_closeOut (c : Condition) : (raise c s).closeOut = s.closeOut := rfl
@[simp] theorem raise_profile (c : Condition) : (raise c s).profile = s.profile := rfl
@[simp] theorem raise_frame (c : Condition) : (raise c s).frame = s.frame := rfl
@[simp] theorem raise_contexts (c : Condition) : (raise c s).contexts = s.contexts := rfl
@[simp] theorem raise_watch (c : Condition) : (raise c s).watch = s.watch := rfl
@[simp] theorem raise_monitors (c : Condition) : (raise c s).monitors = s.monitors := rfl
@[simp] theorem raise_conditions (c : Condition) : (raise c s).conditions =
    { s.conditions with raised := s.conditions.raised ++ [⟨alarmNow c s, []⟩] } := rfl

@[simp] theorem raise_handler (c : Condition) : (raise c s).handler = s.handler := rfl
@[simp] theorem raise_mill (c : Condition) : (raise c s).mill = s.mill := rfl
@[simp] theorem raise_port (c : Condition) : (raise c s).port = s.port := rfl
@[simp] theorem raise_clock (c : Condition) : (raise c s).clock = s.clock := rfl
@[simp] theorem raise_choices (c : Condition) : (raise c s).choices = s.choices := rfl
@[simp] theorem raise_pending (c : Condition) : (raise c s).pending = s.pending := rfl

/-! ### commit -/

@[simp] theorem commit_conditioner : (commit s).conditioner = s.conditioner := rfl
@[simp] theorem commit_tables : (commit s).tables =
    { s.tables with
      curve := s.tables.curve.commit, bias := s.tables.bias.commit, stdf := s.tables.stdf.commit } := rfl

@[simp] theorem commit_standardize : (commit s).standardize = s.standardize := rfl
@[simp] theorem commit_binning : (commit s).binning = s.binning := rfl
@[simp] theorem commit_closeOut : (commit s).closeOut = s.closeOut := rfl
@[simp] theorem commit_profile : (commit s).profile = s.profile := rfl
@[simp] theorem commit_frame : (commit s).frame = s.frame := rfl
@[simp] theorem commit_contexts : (commit s).contexts = s.contexts := rfl
@[simp] theorem commit_watch : (commit s).watch = s.watch := rfl
@[simp] theorem commit_monitors : (commit s).monitors = s.monitors := rfl
@[simp] theorem commit_conditions : (commit s).conditions = s.conditions := rfl
@[simp] theorem commit_handler : (commit s).handler = s.handler := rfl
@[simp] theorem commit_mill : (commit s).mill = s.mill := rfl
@[simp] theorem commit_port : (commit s).port = s.port := rfl
@[simp] theorem commit_clock : (commit s).clock = s.clock := rfl
@[simp] theorem commit_choices : (commit s).choices = s.choices := rfl
@[simp] theorem commit_pending : (commit s).pending = s.pending := rfl

/-! ### setEngine -/

@[simp] theorem setEngine_conditioner (e : Engine) : (setEngine e s).conditioner = s.conditioner := rfl
@[simp] theorem setEngine_tables (e : Engine) : (setEngine e s).tables = s.tables := rfl
@[simp] theorem setEngine_standardize (e : Engine) : (setEngine e s).standardize = s.standardize := rfl
@[simp] theorem setEngine_binning (e : Engine) : (setEngine e s).binning = s.binning := rfl
@[simp] theorem setEngine_closeOut (e : Engine) : (setEngine e s).closeOut = { s.closeOut with engine := e } := rfl
@[simp] theorem setEngine_profile (e : Engine) : (setEngine e s).profile = s.profile := rfl
@[simp] theorem setEngine_frame (e : Engine) : (setEngine e s).frame = s.frame := rfl
@[simp] theorem setEngine_contexts (e : Engine) : (setEngine e s).contexts = s.contexts := rfl
@[simp] theorem setEngine_watch (e : Engine) : (setEngine e s).watch = s.watch := rfl
@[simp] theorem setEngine_monitors (e : Engine) : (setEngine e s).monitors = s.monitors := rfl
@[simp] theorem setEngine_conditions (e : Engine) : (setEngine e s).conditions = s.conditions := rfl
@[simp] theorem setEngine_handler (e : Engine) : (setEngine e s).handler = s.handler := rfl
@[simp] theorem setEngine_mill (e : Engine) : (setEngine e s).mill = s.mill := rfl
@[simp] theorem setEngine_port (e : Engine) : (setEngine e s).port = s.port := rfl
@[simp] theorem setEngine_clock (e : Engine) : (setEngine e s).clock = s.clock := rfl
@[simp] theorem setEngine_choices (e : Engine) : (setEngine e s).choices = s.choices := rfl
@[simp] theorem setEngine_pending (e : Engine) : (setEngine e s).pending = s.pending := rfl

/-! ### startMill -/

@[simp] theorem startMill_conditioner (k : Byte) (p : List Byte) : (startMill k p s).conditioner = s.conditioner := rfl
@[simp] theorem startMill_tables (k : Byte) (p : List Byte) : (startMill k p s).tables = s.tables := rfl
@[simp] theorem startMill_standardize (k : Byte) (p : List Byte) : (startMill k p s).standardize = s.standardize := rfl
@[simp] theorem startMill_binning (k : Byte) (p : List Byte) : (startMill k p s).binning = s.binning := rfl
@[simp] theorem startMill_closeOut (k : Byte) (p : List Byte) : (startMill k p s).closeOut = s.closeOut := rfl
@[simp] theorem startMill_profile (k : Byte) (p : List Byte) : (startMill k p s).profile = s.profile := rfl
@[simp] theorem startMill_frame (k : Byte) (p : List Byte) : (startMill k p s).frame = s.frame := rfl
@[simp] theorem startMill_contexts (k : Byte) (p : List Byte) : (startMill k p s).contexts = s.contexts := rfl
@[simp] theorem startMill_watch (k : Byte) (p : List Byte) : (startMill k p s).watch = s.watch := rfl
@[simp] theorem startMill_monitors (k : Byte) (p : List Byte) : (startMill k p s).monitors = s.monitors := rfl
@[simp] theorem startMill_conditions (k : Byte) (p : List Byte) : (startMill k p s).conditions = s.conditions := rfl
@[simp] theorem startMill_handler (k : Byte) (p : List Byte) : (startMill k p s).handler = s.handler := rfl
@[simp] theorem startMill_mill (k : Byte) (p : List Byte) : (startMill k p s).mill =
    { s.mill with transmitter := s.mill.transmitter.start k p } := rfl

@[simp] theorem startMill_port (k : Byte) (p : List Byte) : (startMill k p s).port = s.port := rfl
@[simp] theorem startMill_clock (k : Byte) (p : List Byte) : (startMill k p s).clock = s.clock := rfl
@[simp] theorem startMill_choices (k : Byte) (p : List Byte) : (startMill k p s).choices = s.choices := rfl
@[simp] theorem startMill_pending (k : Byte) (p : List Byte) : (startMill k p s).pending = s.pending := rfl

/-! ### carriageDelivered -/

@[simp] theorem carriageDelivered_conditioner : (carriageDelivered s).conditioner = s.conditioner := rfl
@[simp] theorem carriageDelivered_tables : (carriageDelivered s).tables = s.tables := rfl
@[simp] theorem carriageDelivered_standardize : (carriageDelivered s).standardize = s.standardize := rfl
@[simp] theorem carriageDelivered_binning : (carriageDelivered s).binning = s.binning := rfl
@[simp] theorem carriageDelivered_closeOut : (carriageDelivered s).closeOut = s.closeOut := rfl
@[simp] theorem carriageDelivered_profile : (carriageDelivered s).profile = s.profile := rfl
@[simp] theorem carriageDelivered_frame : (carriageDelivered s).frame = s.frame := rfl
@[simp] theorem carriageDelivered_contexts : (carriageDelivered s).contexts = s.contexts := rfl
@[simp] theorem carriageDelivered_watch : (carriageDelivered s).watch = s.watch := rfl
@[simp] theorem carriageDelivered_monitors : (carriageDelivered s).monitors = s.monitors := rfl
@[simp] theorem carriageDelivered_conditions : (carriageDelivered s).conditions = s.conditions := rfl
@[simp] theorem carriageDelivered_handler : (carriageDelivered s).handler = s.handler := rfl
@[simp] theorem carriageDelivered_mill : (carriageDelivered s).mill = s.mill := rfl
@[simp] theorem carriageDelivered_port : (carriageDelivered s).port = { s.port with receiver := .hunting } := rfl
@[simp] theorem carriageDelivered_clock : (carriageDelivered s).clock = s.clock := rfl
@[simp] theorem carriageDelivered_choices : (carriageDelivered s).choices = s.choices := rfl
@[simp] theorem carriageDelivered_pending : (carriageDelivered s).pending = s.pending := rfl

/-! ### millDelivered -/

@[simp] theorem millDelivered_conditioner : (millDelivered s).conditioner = s.conditioner := rfl
@[simp] theorem millDelivered_tables : (millDelivered s).tables = s.tables := rfl
@[simp] theorem millDelivered_standardize : (millDelivered s).standardize = s.standardize := rfl
@[simp] theorem millDelivered_binning : (millDelivered s).binning = s.binning := rfl
@[simp] theorem millDelivered_closeOut : (millDelivered s).closeOut = s.closeOut := rfl
@[simp] theorem millDelivered_profile : (millDelivered s).profile = s.profile := rfl
@[simp] theorem millDelivered_frame : (millDelivered s).frame = s.frame := rfl
@[simp] theorem millDelivered_contexts : (millDelivered s).contexts = s.contexts := rfl
@[simp] theorem millDelivered_watch : (millDelivered s).watch = s.watch := rfl
@[simp] theorem millDelivered_monitors : (millDelivered s).monitors = s.monitors := rfl
@[simp] theorem millDelivered_conditions : (millDelivered s).conditions = s.conditions := rfl
@[simp] theorem millDelivered_handler : (millDelivered s).handler = s.handler := rfl
@[simp] theorem millDelivered_mill : (millDelivered s).mill = { s.mill with receiver := .hunting } := rfl
@[simp] theorem millDelivered_port : (millDelivered s).port = s.port := rfl
@[simp] theorem millDelivered_clock : (millDelivered s).clock = s.clock := rfl
@[simp] theorem millDelivered_choices : (millDelivered s).choices = s.choices := rfl
@[simp] theorem millDelivered_pending : (millDelivered s).pending = s.pending := rfl

end Sys2Proof.Machine
end

