-- ==== Sys2Proof/Laws/Ops.lean ====
section
/-! SUPPORT. What the shared operations of Ops, Bytes and Operands can do: rounding, saturation, timers, byte fields and
their round trips, per-channel records. -/
namespace Sys2Proof.Machine

/-! ### Arithmetic -/

theorem saturate_eq_min (top n : Nat) : saturate top n = min top n := by
  unfold saturate; split <;> omega

/-- The value rounded half up is the one integer within half of the quotient, ties upward. -/
theorem roundHalfUp_spec (a b : Nat) (hb : 0 < b) :
    2 * b * roundHalfUp a b ≤ 2 * a + b ∧ 2 * a + b < 2 * b * (roundHalfUp a b + 1) := by
  unfold roundHalfUp
  have h := Nat.div_add_mod (2 * a + b) (2 * b)
  have hm := Nat.mod_lt (2 * a + b) (show 0 < 2 * b by omega)
  rw [Nat.mul_add]
  omega

theorem roundHalfUp_le (a b c : Nat) (hb : 0 < b) (h : a ≤ b * c) : roundHalfUp a b ≤ c := by
  have hs := (roundHalfUp_spec a b hb).1
  by_contra hc
  have h2 : 2 * b * (c + 1) ≤ 2 * b * roundHalfUp a b := Nat.mul_le_mul_left _ (by omega)
  have : 2 * b * (c + 1) = 2 * (b * c) + 2 * b := by ring
  omega

theorem distance_eq (a b : Nat) : distance a b = a - b + (b - a) := rfl

theorem distance_comm (a b : Nat) : distance a b = distance b a := by unfold distance; omega


/-! ### Timers -/

@[simp] theorem Timer.start_due (p : Nat) : (Timer.start p).due = decide (p = 0) := by
  simp [Timer.start, Timer.due]

@[simp] theorem timerDue_none : timerDue none = false := rfl
@[simp] theorem timerDue_some (t : Timer) : timerDue (some t) = t.due := rfl

/-! ### Per-channel records -/

@[simp] theorem PerProfile.get_make {α : Type} (f : ProfileChannel → α) (c : ProfileChannel) :
    (PerProfile.make f).get c = f c := by cases c <;> rfl

@[simp] theorem PerProfile.get_const {α : Type} (a : α) (c : ProfileChannel) : (PerProfile.const a).get c = a := by
  cases c <;> rfl

theorem PerProfile.get_set {α : Type} (p : PerProfile α) (c d : ProfileChannel) (a : α) :
    (p.set c a).get d = if d = c then a else p.get d := by cases c <;> cases d <;> rfl

theorem PerProfile.ext_get {α : Type} {p q : PerProfile α} (h : ∀ c, p.get c = q.get c) : p = q := by
  cases p; cases q
  have h1 := h .bw; have h2 := h .mo; have h3 := h .ca; have h4 := h .dw
  simp_all [PerProfile.get]

@[simp] theorem ProfileChannel.mem_all (c : ProfileChannel) : c ∈ ProfileChannel.all := by cases c <;> decide

/-! ### Byte fields -/

@[simp] theorem byte_toNat (n : Nat) : (byte n).toNat = n % 256 := by simp [byte]

@[simp] theorem byte_of_toNat (b : Byte) : byte b.toNat = b := by simp [byte]

@[simp] theorem be16_length (n : Nat) : (be16 n).length = 2 := rfl
@[simp] theorem be24_length (n : Nat) : (be24 n).length = 3 := rfl
@[simp] theorem be32_length (n : Nat) : (be32 n).length = 4 := rfl

theorem u16_be16 (n : Nat) (h : n ≤ 65535) : u16 (byte (n / 256)) (byte n) = n := by simp [u16]; omega

theorem u24_be24 (n : Nat) (h : n < 16777216) : u24 (byte (n / 65536)) (byte (n / 256)) (byte n) = n := by
  simp [u24]; omega

theorem u32_be32 (n : Nat) (h : n < 4294967296) :
    u32 (byte (n / 16777216)) (byte (n / 65536)) (byte (n / 256)) (byte n) = n := by
  simp [u32]; omega

theorem twos_lt (w : Nat) (i : Int) : twos w i < 2 ^ w := by
  have h0 : (0 : Int) < 2 ^ w := by positivity
  have h1 := Int.emod_lt_of_pos i h0
  have h2 := Int.emod_nonneg i (ne_of_gt h0)
  unfold twos
  zify
  omega

theorem signed_twos16 (i : Int) (h : -32768 ≤ i) (h' : i ≤ 32767) : signed 16 (twos 16 i) = i := by
  unfold signed twos; norm_num; split <;> omega

theorem signed_twos24 (i : Int) (h : -8388608 ≤ i) (h' : i ≤ 8388607) : signed 24 (twos 24 i) = i := by
  unfold signed twos; norm_num; split <;> omega

theorem signed_twos32 (i : Int) (h : -2147483648 ≤ i) (h' : i ≤ 2147483647) : signed 32 (twos 32 i) = i := by
  unfold signed twos; norm_num; split <;> omega

/-! ### Argument lists -/

theorem pairsOf_be16 (l : List Nat) (h : ∀ n ∈ l, n ≤ 65535) : pairsOf (l.flatMap be16) = some l := by
  induction l with
  | nil => rfl
  | cons n l ih =>
    have hn := h n (by simp)
    have ht := ih (fun m hm => h m (by simp [hm]))
    simp only [List.flatMap_cons, be16, List.cons_append, List.nil_append, pairsOf, u16_be16 n hn]
    rw [show List.flatMap be16 l = l.flatMap be16 from rfl, ht]
    rfl

theorem foursOf_flatMap {α β : Type} (f : Byte → Byte → Byte → Byte → β) (g : α → List Byte) (k : α → β) (l : List α)
    (h : ∀ a ∈ l, ∃ w x y z, g a = [w, x, y, z] ∧ f w x y z = k a) : foursOf f (l.flatMap g) = some (l.map k) := by
  induction l with
  | nil => rfl
  | cons a l ih =>
    obtain ⟨w, x, y, z, hg, hf⟩ := h a (by simp)
    simp [hg, foursOf, hf, ih (fun b hb => h b (by simp [hb]))]

theorem counted_of_length {α : Type} {n : Nat} {l : List α} (h : l.length = n) : counted n (some l) = some l := by
  simp [counted, h, Option.filter]

/-- READ of what a part-wise write leaves: the members before, the new ones, the members after. -/
theorem writeAt_length {α : Type} (l : List α) (first : Nat) (new : List α) (h : first + new.length ≤ l.length) :
    (writeAt l first new).length = l.length := by
  simp [writeAt]; omega

/-! ### Free orders -/

/-- `arrange` only reorders a list that its first argument is enough for. -/
theorem arrange_perm {α : Type} : ∀ (n k : Nat) (l : List α), l.length ≤ n → (arrange n k l).Perm l
  | 0, _, l, h => by
    have : l = [] := List.eq_nil_of_length_eq_zero (by omega)
    subst this; exact .nil
  | n + 1, k, l, h => by
    unfold arrange
    by_cases hl : l = []
    · subst hl; exact .nil
    · have hp : 0 < l.length := List.length_pos_iff.mpr hl
      have hk : k % l.length < l.length := Nat.mod_lt _ hp
      rw [List.getElem?_eq_getElem hk]
      dsimp only
      have hp := arrange_perm n (k / l.length) (l.eraseIdx (k % l.length)) (by
        rw [List.length_eraseIdx_of_lt hk]; omega)
      exact (hp.cons _).trans (List.getElem_cons_eraseIdx_perm hk)

end Sys2Proof.Machine
end

