-- ==== Sys2Proof/Laws/Flags.lean ====
section
/-! SUPPORT. What the condition unit can do with raisings: a taking sets flags and clears none, and `settle` changes
conditions and the free-value counter alone. -/
namespace Sys2Proof.Machine

/-! ### Flags -/

theorem Condition.number_lt (c : Condition) : c.number < 17 := by cases c <;> decide

theorem Condition.number_inj {c d : Condition} (h : c.number = d.number) : c = d := by
  cases c <;> cases d <;> first | rfl | (exact absurd h (by decide))

theorem Condition.bit_getLsbD (c d : Condition) : c.bit.getLsbD d.number = decide (c = d) := by
  cases c <;> cases d <;> rfl

theorem flag_setFlag (u : ConditionUnit) (c d : Condition) :
    (u.setFlag c).flag d = (u.flag d || decide (c = d)) := by
  simp [ConditionUnit.setFlag, ConditionUnit.flag, Condition.bit_getLsbD]

@[simp] theorem flag_countAlarmDropped (u : ConditionUnit) (d : Condition) : u.countAlarmDropped.flag d = u.flag d := rfl

/-! ### One raising taken -/

/-- What taking a raising can do: nothing, when the flag is set; else the flag, with the alarm queued as the newest, with
the alarm lost, or alone. -/
theorem take_cases (u : ConditionUnit) (a : AlarmFrame) :
    (u.flag a.condition = true ∧ u.take a = u) ∨
    (u.flag a.condition = false ∧ u.isUnmasked a.condition = true ∧ u.alarms.length < 8 ∧
      u.take a = { (u.setFlag a.condition) with summary := true, alarms := u.alarms ++ [a] }) ∨
    (u.flag a.condition = false ∧ u.isUnmasked a.condition = true ∧ 8 ≤ u.alarms.length ∧
      u.take a = { (u.setFlag a.condition) with summary := true }.countAlarmDropped.alarmLost) ∨
    (u.flag a.condition = false ∧ u.isUnmasked a.condition = false ∧ u.take a = u.setFlag a.condition) := by
  unfold ConditionUnit.take
  by_cases hf : u.flag a.condition = true
  · simp [hf]
  · by_cases hm : u.isUnmasked a.condition = true
    · by_cases hl : u.alarms.length < 8
      · simp [hf, hm, hl, Config.alarmCapacity, ConditionUnit.setFlag]
      · simp [hf, hm, hl, Config.alarmCapacity, ConditionUnit.setFlag]; omega
    · simp [hf, hm]

theorem alarmLost_frame (u : ConditionUnit) :
    u.alarmLost.unmasked = u.unmasked ∧ u.alarmLost.alarms = u.alarms ∧ u.alarmLost.raised = u.raised ∧
    (u.summary = true → u.alarmLost.summary = true) ∧ u.alarmLost.flag .linkError = true ∧
    (∀ d, u.alarmLost.flag d = (u.flag d || decide (d = .linkError))) ∧
    u.alarmLost.counters = { u.counters with alarmsDropped := u.alarmLost.counters.alarmsDropped } := by
  unfold ConditionUnit.alarmLost
  by_cases hf : u.flag .linkError = true
  · rw [if_pos hf]
    refine ⟨rfl, rfl, rfl, id, hf, ?_, rfl⟩
    intro d
    by_cases hd : d = .linkError
    · subst hd; simp [hf]
    · simp [hd]
  · by_cases hm : u.isUnmasked .linkError = true
    · rw [if_neg hf, if_pos hm]
      refine ⟨rfl, rfl, rfl, fun _ => rfl, ?_, ?_, rfl⟩
      · show (u.setFlag .linkError).flag .linkError = true
        rw [flag_setFlag]; simp
      · intro d
        show (u.setFlag .linkError).flag d = _
        rw [flag_setFlag]; simp [eq_comm]
    · rw [if_neg hf, if_neg hm]
      refine ⟨rfl, rfl, rfl, id, ?_, ?_, rfl⟩
      · show (u.setFlag .linkError).flag .linkError = true
        rw [flag_setFlag]; simp
      · intro d
        show (u.setFlag .linkError).flag d = _
        rw [flag_setFlag]; simp [eq_comm]

/-- What a taking leaves: the mask and the raisings to come, the counters but for the dropped alarms, the queue at most one
longer, every flag set that was set, its own flag set, the summary as it was or set. -/
theorem take_frame (u : ConditionUnit) (a : AlarmFrame) :
    (u.take a).unmasked = u.unmasked ∧ (u.take a).raised = u.raised ∧
    (u.take a).counters = { u.counters with alarmsDropped := (u.take a).counters.alarmsDropped } ∧
    (u.alarms.length ≤ 8 → (u.take a).alarms.length ≤ 8) ∧
    (u.take a).flag a.condition = true ∧
    (∀ d, u.flag d = true → (u.take a).flag d = true) ∧ (u.summary = true → (u.take a).summary = true) := by
  obtain ⟨h, e⟩ | ⟨_, _, hl, e⟩ | ⟨_, _, _, e⟩ | ⟨_, _, e⟩ := take_cases u a <;> rw [e]
  · exact ⟨rfl, rfl, rfl, id, h, fun _ => id, id⟩
  · refine ⟨rfl, rfl, rfl, fun _ => by simp; omega, ?_, fun d hd => ?_, fun _ => rfl⟩
    · show (u.setFlag a.condition).flag _ = _; rw [flag_setFlag]; simp
    · show (u.setFlag a.condition).flag _ = _; rw [flag_setFlag]; simp [hd]
  · have hx := alarmLost_frame { (u.setFlag a.condition) with summary := true }.countAlarmDropped
    obtain ⟨h1, h2, h3, h4, _, h6, h7⟩ := hx
    refine ⟨h1, h3, ?_, fun hq => ?_, ?_, fun d hd => ?_, fun _ => h4 rfl⟩
    · rw [h7]; rfl
    · rw [h2]; exact hq
    · rw [h6]; show ((u.setFlag a.condition).flag _ || _) = _; rw [flag_setFlag]; simp
    · rw [h6]; show ((u.setFlag a.condition).flag _ || _) = _; rw [flag_setFlag]; simp [hd]
  · refine ⟨rfl, rfl, rfl, id, ?_, fun d hd => ?_, id⟩
    · rw [flag_setFlag]; simp
    · rw [flag_setFlag]; simp [hd]

/-- The same of any number of takings. -/
theorem takes_frame (l : List AlarmFrame) (u : ConditionUnit) :
    let v := l.foldl ConditionUnit.take u
    v.unmasked = u.unmasked ∧ v.raised = u.raised ∧
    v.counters = { u.counters with alarmsDropped := v.counters.alarmsDropped } ∧
    (u.alarms.length ≤ 8 → v.alarms.length ≤ 8) ∧ (∀ a ∈ l, v.flag a.condition = true) ∧
    (∀ d, u.flag d = true → v.flag d = true) ∧ (u.summary = true → v.summary = true) := by
  induction l generalizing u with
  | nil => exact ⟨rfl, rfl, rfl, id, by simp, fun _ => id, id⟩
  | cons a l ih =>
    obtain ⟨h1, h2, h3, h4, h5, h6, h7⟩ := take_frame u a
    obtain ⟨k1, k2, k3, k4, k5, k6, k7⟩ := ih (u.take a)
    refine ⟨k1.trans h1, k2.trans h2, ?_, fun h => k4 (h4 h), ?_, fun d hd => k6 d (h6 d hd), fun h => k7 (h7 h)⟩
    · simp only [List.foldl_cons]; rw [k3, h3]
    · intro b hb
      rcases List.mem_cons.mp hb with rfl | hb
      · exact k6 _ h5
      · exact k5 b hb

/-! ### settle -/

@[simp] theorem seen_condition (pick : Nat → Nat) (s : State) (r : Raising) :
    (r.seen pick s).condition = r.condition := by
  unfold Raising.seen; dsimp only; split <;> rfl

/-- A raising is seen at moments of its own. -/
theorem moment_mem (s : State) (k : Nat) (r : Raising) : r.moment s k ∈ r.moments s := by
  have h : k % (r.moments s).length < (r.moments s).length := Nat.mod_lt _ (by simp [Raising.moments])
  unfold Raising.moment
  rw [List.getD_eq_getElem _ _ h]
  exact List.getElem_mem h

/-- What the alarm of a raising can show: time, scan number and the raiser's own fields as at the raise, the frame
controller and the break watch each as at one moment of the step (R166). -/
theorem seen_fields (pick : Nat → Nat) (s : State) (r : Raising) :
    (r.seen pick s).timestamp = r.alarm.timestamp ∧ (r.seen pick s).scanNumber = r.alarm.scanNumber ∧
    (∃ v ∈ r.moments s, v.carriage = (r.seen pick s).carriage ∧ v.position = (r.seen pick s).position) ∧
    (∃ v ∈ r.moments s, v.breakState = (r.seen pick s).breakState) := by
  have atRaise : (⟨r.alarm.carriage, r.alarm.position, r.alarm.breakState⟩ : View) ∈ r.moments s := by
    simp [Raising.moments]
  unfold Raising.seen
  dsimp only
  split
  · exact ⟨rfl, rfl, ⟨_, moment_mem s (pick 0) r, rfl, rfl⟩, ⟨_, atRaise, rfl⟩⟩
  · exact ⟨rfl, rfl, ⟨_, moment_mem s (pick 0) r, rfl, rfl⟩, ⟨_, atRaise, rfl⟩⟩
  · exact ⟨rfl, rfl, ⟨_, atRaise, rfl, rfl⟩, ⟨_, moment_mem s (pick 1) r, rfl⟩⟩
  · exact ⟨rfl, rfl, ⟨_, atRaise, rfl, rfl⟩, ⟨_, moment_mem s (pick 1) r, rfl⟩⟩
  · exact ⟨rfl, rfl, ⟨_, atRaise, rfl, rfl⟩, ⟨_, moment_mem s (pick 1) r, rfl⟩⟩
  all_goals exact ⟨rfl, rfl, ⟨_, moment_mem s (pick 0) r, rfl, rfl⟩, ⟨_, moment_mem s (pick 1) r, rfl⟩⟩

/-- A raising whose moments all read as its alarm is seen as that alarm, whatever the free value. -/
theorem seen_eq (pick : Nat → Nat) (s : State) (r : Raising)
    (h : ∀ v ∈ r.moments s, v = ⟨r.alarm.carriage, r.alarm.position, r.alarm.breakState⟩) :
    r.seen pick s = r.alarm := by
  unfold Raising.seen
  simp only [h _ (moment_mem s _ r)]
  split <;> rfl

/-! ### Moments -/

theorem noteMoment_nil (v : View) (s : State) (h : s.conditions.raised = []) : noteMoment v s = s := by
  simp only [noteMoment, h, List.map_nil]; rw [← h]

@[simp] theorem noteMoment_condition (v : View) (s : State) :
    (noteMoment v s).conditions.raised.map Raising.condition = s.conditions.raised.map Raising.condition := by
  simp [noteMoment, Raising.condition, Function.comp_def]

@[simp] theorem noteMoment_flag (v : View) (s : State) (c : Condition) :
    (noteMoment v s).conditions.flag c = s.conditions.flag c := rfl

theorem settle_nil (s : State) (h : s.conditions.raised = []) : settle s = s := by simp [settle, h]

/-- `settle` changes the conditions and the free-value counter alone. -/
theorem settle_eq (s : State) :
    settle s = { s with conditions := (settle s).conditions, choices := (settle s).choices } := by
  unfold settle settleWith; split <;> rfl

/-- The conditions after `settle` are those before, with no raising left, after every raising of the step taken once, in
some order and each seen at some moments. -/
theorem settle_takes (s : State) : ∃ (l : List Raising) (pick : Condition → Nat → Nat), l.Perm s.conditions.raised ∧
    (settle s).conditions =
      (l.map (fun r => r.seen (pick r.condition) s)).foldl ConditionUnit.take { s.conditions with raised := [] } := by
  unfold settle
  split
  · rename_i h
    rw [List.isEmpty_iff] at h
    refine ⟨[], fun _ _ => 0, by rw [h], ?_⟩
    simp only [List.map_nil, List.foldl_nil]
    rw [← h]
  · exact ⟨arrange s.conditions.raised.length (Config.takingOrder s.choices) s.conditions.raised,
      fun c => Config.seenMoment s.choices c.number, arrange_perm _ _ _ (Nat.le_refl _), rfl⟩

/-- What `settle` leaves of the conditions: the mask, the counters but for the dropped alarms, every flag that was set; the
flag of every raising of the step is set, and no raising is left. -/
theorem settle_frame (s : State) :
    (settle s).conditions.raised = [] ∧ (settle s).conditions.unmasked = s.conditions.unmasked ∧
    (settle s).conditions.counters =
      { s.conditions.counters with alarmsDropped := (settle s).conditions.counters.alarmsDropped } ∧
    (s.conditions.alarms.length ≤ 8 → (settle s).conditions.alarms.length ≤ 8) ∧
    (∀ a ∈ s.conditions.raised, (settle s).conditions.flag a.condition = true) ∧
    (∀ d, s.conditions.flag d = true → (settle s).conditions.flag d = true) ∧
    (s.conditions.summary = true → (settle s).conditions.summary = true) := by
  obtain ⟨l, pick, hp, e⟩ := settle_takes s
  obtain ⟨h1, h2, h3, h4, h5, h6, h7⟩ :=
    takes_frame (l.map (fun r => r.seen (pick r.condition) s)) { s.conditions with raised := [] }
  rw [e]
  refine ⟨h2, h1, h3, h4, fun r hr => ?_, h6, h7⟩
  rw [← seen_condition (pick r.condition) s r]
  exact h5 _ (List.mem_map_of_mem (hp.mem_iff.mpr hr))

/-- A step that raises one condition whose alarm reads the same at every moment: one taking. -/
theorem settle_one (s : State) (a : AlarmFrame) (h : s.conditions.raised = [⟨a, []⟩])
    (hs : viewNow s = ⟨a.carriage, a.position, a.breakState⟩) :
    settle s = { s with
      choices := s.choices + 1, conditions := ConditionUnit.take { s.conditions with raised := [] } a } := by
  obtain ⟨l, pick, hp, e⟩ := settle_takes s
  rw [h] at hp
  rw [List.perm_singleton.mp hp] at e
  have hc : (settle s).choices = s.choices + 1 := by simp [settle, settleWith, h]
  have ha : (⟨a, []⟩ : Raising).seen (pick (Raising.condition ⟨a, []⟩)) s = a :=
    seen_eq _ s ⟨a, []⟩ (by simp [Raising.moments, hs])
  rw [settle_eq, e, hc]
  simp [ha]

@[simp] theorem settle_conditioner (s : State) : (settle s).conditioner = s.conditioner := by rw [settle_eq]
@[simp] theorem settle_tables (s : State) : (settle s).tables = s.tables := by rw [settle_eq]
@[simp] theorem settle_standardize (s : State) : (settle s).standardize = s.standardize := by rw [settle_eq]
@[simp] theorem settle_binning (s : State) : (settle s).binning = s.binning := by rw [settle_eq]
@[simp] theorem settle_closeOut (s : State) : (settle s).closeOut = s.closeOut := by rw [settle_eq]
@[simp] theorem settle_profile (s : State) : (settle s).profile = s.profile := by rw [settle_eq]
@[simp] theorem settle_frame' (s : State) : (settle s).frame = s.frame := by rw [settle_eq]
@[simp] theorem settle_contexts (s : State) : (settle s).contexts = s.contexts := by rw [settle_eq]
@[simp] theorem settle_watch (s : State) : (settle s).watch = s.watch := by rw [settle_eq]
@[simp] theorem settle_monitors (s : State) : (settle s).monitors = s.monitors := by rw [settle_eq]
@[simp] theorem settle_handler (s : State) : (settle s).handler = s.handler := by rw [settle_eq]
@[simp] theorem settle_mill (s : State) : (settle s).mill = s.mill := by rw [settle_eq]
@[simp] theorem settle_port (s : State) : (settle s).port = s.port := by rw [settle_eq]
@[simp] theorem settle_clock (s : State) : (settle s).clock = s.clock := by rw [settle_eq]
@[simp] theorem settle_pending (s : State) : (settle s).pending = s.pending := by rw [settle_eq]

end Sys2Proof.Machine
end

