-- ==== Sys2Proof/Laws/Handler.lean ====
section
/-! SUPPORT. What the command handler can do with a row: nothing, when no command of the row is at hand; else the command
taken, and answered by its form, the gate or its owner. -/
namespace Sys2Proof.Machine

variable {f : CommandFrame} {rest : List CommandFrame} {s t : State} {row : CommandRow}

@[simp] theorem answered_taken (f : CommandFrame) (rest : List CommandFrame) (s : State) (st : Status) (r : List Byte) :
    (s.taken f rest).answered f rest st r = s.answered f rest st r := rfl

/-- A response placed while `f` is the command in hand. -/
theorem respond_eq (f : CommandFrame) (rest : List CommandFrame) (a : Answer)
    (h : a.state.handler = ⟨rest, some f, .executing⟩) : respond f a = a.state.answered f rest a.status a.result := by
  simp [respond, State.answered, h]

@[simp] theorem respond_refuse (st : Status) :
    respond f (refuse st (s.taken f rest)) = s.answered f rest st [] := rfl

@[simp] theorem respond_accept : respond f (accept (s.taken f rest)) = s.answered f rest .ok [] := rfl

@[simp] theorem respond_reads (r : List Byte) :
    respond f (reads r (s.taken f rest)) = s.answered f rest .ok r := rfl

theorem takeCommand_atHand (h : AtHand f rest s) (hr : rowOf f = row) :
    takeCommand row s = some (f, s.taken f rest) := by
  obtain ⟨h1, h2⟩ := h
  simp [takeCommand, h1, h2, hr, State.taken]

theorem takeCommand_none (h : s.handler.phase ≠ .ready) : takeCommand row s = none := by
  unfold takeCommand; split <;> simp_all

section
variable {α : Type} {parse : List Byte → Option α} {owner : α → State → Answer} {a : α}

/-- The one procedure of the handler on a command at hand. -/
theorem serve_atHand (h : AtHand f rest s) (hr : rowOf f = row) :
    serve row parse owner s = respond f (answerTo row parse owner f.args (s.taken f rest)) := by
  simp [serve, takeCommand_atHand h hr]

/-- With the handler not READY nothing happens. -/
theorem serve_notReady (h : s.handler.phase ≠ .ready) : serve row parse owner s = s := by
  simp [serve, takeCommand_none h]

/-- A command whose form fails is answered MALFORMED. -/
theorem serve_malformed (h : AtHand f rest s) (hr : rowOf f = row) (hp : parse f.args = none) :
    serve row parse owner s = s.answered f rest .malformed [] := by
  simp [serve_atHand h hr, answerTo, hp]

/-- An altering command under the pending summary is answered ALARM_PENDING. -/
theorem serve_alarmPending (h : AtHand f rest s) (hr : rowOf f = row) (hp : parse f.args = some a)
    (hg : row.altering = true) (hs : s.conditions.summary = true) :
    serve row parse owner s = s.answered f rest .alarmPending [] := by
  simp [serve_atHand h hr, answerTo, hp, hg, hs]

/-- A command past form and gate is answered by its owner. -/
theorem serve_owner (h : AtHand f rest s) (hr : rowOf f = row) (hp : parse f.args = some a)
    (hg : row.altering = false ∨ s.conditions.summary = false) :
    serve row parse owner s = respond f (owner a (s.taken f rest)) := by
  have : (row.altering && s.conditions.summary) = false := by rcases hg with h | h <;> simp [h]
  simp [serve_atHand h hr, answerTo, hp, this]

/-- The owner refuses. -/
theorem serve_refused {st : Status} (h : AtHand f rest s) (hr : rowOf f = row) (hp : parse f.args = some a)
    (hg : row.altering = false ∨ s.conditions.summary = false)
    (ho : owner a (s.taken f rest) = refuse st (s.taken f rest)) :
    serve row parse owner s = s.answered f rest st [] := by
  rw [serve_owner h hr hp hg, ho, respond_refuse]

/-- The owner accepts and leaves a state in which the same command is in hand. -/
theorem serve_accepted (h : AtHand f rest s) (hr : rowOf f = row) (hp : parse f.args = some a)
    (hg : row.altering = false ∨ s.conditions.summary = false)
    (ho : owner a (s.taken f rest) = accept (t.taken f rest)) :
    serve row parse owner s = t.answered f rest .ok [] := by
  rw [serve_owner h hr hp hg, ho, respond_accept]

/-- The owner answers with a result. -/
theorem serve_reads {r : List Byte} (h : AtHand f rest s) (hr : rowOf f = row) (hp : parse f.args = some a)
    (hg : row.altering = false ∨ s.conditions.summary = false)
    (ho : owner a (s.taken f rest) = reads r (t.taken f rest)) :
    serve row parse owner s = t.answered f rest .ok r := by
  rw [serve_owner h hr hp hg, ho, respond_reads]
end

/-- A state in which a command has been answered has the raisings it had. -/
@[simp] theorem answered_raised (st : Status) (r : List Byte) :
    (s.answered f rest st r).conditions.raised = s.conditions.raised := rfl

end Sys2Proof.Machine
end

