-- ==== Sys2Proof/Laws/Carriage.lean ====
section
/-! SUPPORT. What the shared operations of the frame controller, the break watch, the standardize unit and the close-out
engine can do: moves, halts, arrivals, abandoned and closed traverses. -/
namespace Sys2Proof.Machine

/-! ### Carriage states -/

/-- A carriage on its way: no run is counted, so a change to it sets both run counts to 0. -/
def Carriage.countsNothing : Carriage → Bool
  | .traverse .scanning _ | .fixed .dwelling | .probing .dwelling => false
  | .unreferenced | .parking | .parked | .standardizing | .traverse .positioning _ | .fixed .moving | .probing .moving
  | .halted => true

@[simp] theorem countsNothing_unreferenced : Carriage.unreferenced.countsNothing = true := by decide
@[simp] theorem countsNothing_parking : Carriage.parking.countsNothing = true := by decide
@[simp] theorem countsNothing_parked : Carriage.parked.countsNothing = true := by decide
@[simp] theorem countsNothing_standardizing : Carriage.standardizing.countsNothing = true := by decide
@[simp] theorem countsNothing_positioning (d : Direction) : (Carriage.traverse .positioning d).countsNothing = true := by
  cases d <;> decide
@[simp] theorem countsNothing_fixedMoving : (Carriage.fixed .moving).countsNothing = true := by decide
@[simp] theorem countsNothing_probingMoving : (Carriage.probing .moving).countsNothing = true := by decide
@[simp] theorem countsNothing_halted : Carriage.halted.countsNothing = true := by decide

theorem detectorActive_of_countsNothing (s : State) (h : s.frame.carriage.countsNothing = true) :
    detectorActive s = false := by
  unfold detectorActive
  cases hc : s.frame.carriage with
  | traverse sub d => cases sub <;> simp_all [Carriage.countsNothing, Carriage.isScanning]
  | fixed sub => cases sub <;> simp_all [Carriage.countsNothing, Carriage.isScanning]
  | probing sub => cases sub <;> simp_all [Carriage.countsNothing, Carriage.isScanning]
  | _ => simp [Carriage.isScanning]

theorem sheetCounting_of_countsNothing (s : State) (h : s.frame.carriage.countsNothing = true) :
    sheetCounting s = false := by
  unfold sheetCounting
  cases hc : s.frame.carriage with
  | traverse sub d => cases sub <;> simp_all [Carriage.countsNothing, Carriage.isScanning]
  | fixed sub => cases sub <;> simp_all [Carriage.countsNothing, Carriage.isScanning]
  | probing sub => cases sub <;> simp_all [Carriage.countsNothing, Carriage.isScanning]
  | _ => simp [Carriage.isScanning]

/-- Entering a state in which no run is counted. -/
theorem setCarriage_quiet (c : Carriage) (s : State) (h : c.countsNothing = true) :
    setCarriage c s = { s with
      frame := { s.frame with carriage := c }, watch := { s.watch with breakRun := 0, heldRun := none, sheetRun := 0 } } := by
  unfold setCarriage quietRuns
  rw [detectorActive_of_countsNothing _ h, sheetCounting_of_countsNothing _ h]
  rfl

/-- A MOVE sent and a state entered in which no run is counted. -/
theorem setCarriage_sendMove (c : Carriage) (target speed : Nat) (s : State) (h : c.countsNothing = true) :
    setCarriage c (sendMove target speed s) = s.moving c target speed := by
  rw [setCarriage_quiet c _ h]
  rfl

theorem goPark_eq (s : State) : goPark s = s.moving .parking s.tables.frame.park 200 :=
  setCarriage_sendMove _ _ _ _ rfl

theorem beginApproach_some (s : State) (c : Context) (h : governing s = some c) :
    beginApproach s = s.moving (.traverse .positioning .fwd) (limitsNow c s).front c.speed := by
  unfold beginApproach
  rw [h]
  exact setCarriage_sendMove _ _ _ _ rfl

theorem beginApproach_none (s : State) (h : governing s = none) : beginApproach s = setCarriage .parked s := by
  unfold beginApproach
  rw [h]

/-! ### Traverses abandoned and closed -/

theorem abandonTraverse_none (r : AbandonReason) (s : State) (h : s.binning.openTraverse = none) :
    abandonTraverse r s = s := by simp [abandonTraverse, h]

theorem abandonTraverse_some (r : AbandonReason) (s : State) (o : OpenTraverse) (h : s.binning.openTraverse = some o) :
    abandonTraverse r s = placeNotice (noticeOf o r s) (dropTraverse s) := by simp [abandonTraverse, h]

/-- What a notice placed can do: the buffer keeps the profile frames and has the notice as its newest, and the dropped
reports are counted when a notice was replaced. -/
theorem placeNotice_eq (n : Notice) (s : State) : placeNotice n s = { s with
    mill := { s.mill with reports := s.mill.reports.filter ReportFrame.isProfile ++ [.notice n] }
    conditions := { s.conditions with counters := { s.conditions.counters with
      reportsDropped := if s.mill.reports.any (fun f => !f.isProfile)
        then min 65535 (s.conditions.counters.reportsDropped + 1) else s.conditions.counters.reportsDropped } } } := by
  unfold placeNotice countReportDropped
  split <;> simp_all [saturate_eq_min, Config.counterMax]

/-- What a report placed can do. -/
theorem placeReport_eq (l : List ProfileReport) (s : State) : placeReport l s = { s with
    mill := { s.mill with reports := s.mill.reports.filter (fun f => !f.isProfile) ++ l.map .profile }
    conditions := { s.conditions with counters := { s.conditions.counters with
      reportsDropped := if s.mill.reports.any ReportFrame.isProfile
        then min 65535 (s.conditions.counters.reportsDropped + 1) else s.conditions.counters.reportsDropped } } } := by
  unfold placeReport countReportDropped
  split <;> simp_all [saturate_eq_min, Config.counterMax]

/-- What an abandonment leaves of the state: the traverse dropped, and the report buffer and its count changed alone. -/
theorem abandonTraverse_eq (r : AbandonReason) (s : State) :
    abandonTraverse r s = { s with
      binning := { s.binning with openTraverse := none }
      mill := { s.mill with reports := (abandonTraverse r s).mill.reports }
      conditions := { s.conditions with counters := { s.conditions.counters with
        reportsDropped := (abandonTraverse r s).conditions.counters.reportsDropped } } } := by
  cases h : s.binning.openTraverse with
  | none =>
    rw [abandonTraverse_none r s h]
    obtain ⟨_, _, _, ⟨_, _⟩, _, _, _, _, _, _, _, _, _, _, _, _, _⟩ := s
    simp_all
  | some o => rw [abandonTraverse_some r s o h, placeNotice_eq]; rfl

/-- A closing into an IDLE engine: MEANS with the bank and the closing parameters, EDGE_LOST raised for lost edges. -/
theorem closeTraverse_idle (s : State) (o : OpenTraverse) (h : s.binning.openTraverse = some o)
    (hi : s.closeOut.engine = .idle) :
    closeTraverse s = raiseIf (closingParams o s).edges.lost .edgeLost
      (setEngine (.means o.bank (closingParams o s)) (dropTraverse s)) := by
  simp [closeTraverse, h, hi, setEngine]

/-- A closing into a busy engine: an overrun. -/
theorem closeTraverse_busy (s : State) (o : OpenTraverse) (h : s.binning.openTraverse = some o)
    (hi : s.closeOut.engine ≠ .idle) :
    closeTraverse s = raise .overrun (placeNotice (noticeOf o .overrun s) (dropTraverse s)) := by
  simp [closeTraverse, h, hi]

/-! ### Collections -/

theorem abandonCollection_none (s : State) (h : s.standardize.collection = none) : abandonCollection s = s := by
  simp [abandonCollection, h]

theorem abandonCollection_some (s : State) (c : Collection) (h : s.standardize.collection = some c) :
    abandonCollection s = endCollection (handHead .normal s) := by simp [abandonCollection, h]

/-! ### Halts -/

/-- Entry into HALTED, once the open traverse is abandoned. -/
theorem haltCarriage_eq (s : State) : haltCarriage s =
    let t := abandonTraverse .halt s
    { t with
      frame := { t.frame with carriage := .halted, scanOn := false, target := none, silence := none, stall := none }
      conditioner := { t.conditioner with expected := none }
      watch := { t.watch with breakRun := 0, heldRun := none, sheetRun := 0 } } := by
  unfold haltCarriage
  rw [setCarriage_quiet _ _ rfl]

end Sys2Proof.Machine
end

