-- ==== Sys2Proof/Laws/Frames.lean ====
section
/-! SUPPORT. The fields that the branching operations leave as they are: simp lemmas, one per operation and field. -/
namespace Sys2Proof.Machine

/-! ### takeAction -/

@[simp] theorem takeAction_conditioner (a : PendingAction) (s : State) : (takeAction a s).conditioner = s.conditioner := by
  unfold takeAction; split <;> rfl
@[simp] theorem takeAction_tables (a : PendingAction) (s : State) : (takeAction a s).tables = s.tables := by
  unfold takeAction; split <;> rfl
@[simp] theorem takeAction_standardize (a : PendingAction) (s : State) : (takeAction a s).standardize = s.standardize := by
  unfold takeAction; split <;> rfl
@[simp] theorem takeAction_binning (a : PendingAction) (s : State) : (takeAction a s).binning = s.binning := by
  unfold takeAction; split <;> rfl
@[simp] theorem takeAction_closeOut (a : PendingAction) (s : State) : (takeAction a s).closeOut = s.closeOut := by
  unfold takeAction; split <;> rfl
@[simp] theorem takeAction_frame (a : PendingAction) (s : State) : (takeAction a s).frame = s.frame := by
  unfold takeAction; split <;> rfl
@[simp] theorem takeAction_contexts (a : PendingAction) (s : State) : (takeAction a s).contexts = s.contexts := by
  unfold takeAction; split <;> rfl
@[simp] theorem takeAction_watch (a : PendingAction) (s : State) : (takeAction a s).watch = s.watch := by
  unfold takeAction; split <;> rfl
@[simp] theorem takeAction_monitors (a : PendingAction) (s : State) : (takeAction a s).monitors = s.monitors := by
  unfold takeAction; split <;> rfl
@[simp] theorem takeAction_conditions (a : PendingAction) (s : State) : (takeAction a s).conditions = s.conditions := by
  unfold takeAction; split <;> rfl
@[simp] theorem takeAction_handler (a : PendingAction) (s : State) : (takeAction a s).handler = s.handler := by
  unfold takeAction; split <;> rfl
@[simp] theorem takeAction_mill (a : PendingAction) (s : State) : (takeAction a s).mill = s.mill := by
  unfold takeAction; split <;> rfl
@[simp] theorem takeAction_port (a : PendingAction) (s : State) : (takeAction a s).port = s.port := by
  unfold takeAction; split <;> rfl
@[simp] theorem takeAction_clock (a : PendingAction) (s : State) : (takeAction a s).clock = s.clock := by
  unfold takeAction; split <;> rfl
@[simp] theorem takeAction_choices (a : PendingAction) (s : State) : (takeAction a s).choices = s.choices := by
  unfold takeAction; split <;> rfl
@[simp] theorem takeAction_pending (a : PendingAction) (s : State) : (takeAction a s).pending = s.pending := by
  unfold takeAction; split <;> rfl

/-! ### raiseIf -/

@[simp] theorem raiseIf_conditioner (b : Bool) (c : Condition) (s : State) : (raiseIf b c s).conditioner = s.conditioner := by
  cases b <;> rfl
@[simp] theorem raiseIf_tables (b : Bool) (c : Condition) (s : State) : (raiseIf b c s).tables = s.tables := by
  cases b <;> rfl
@[simp] theorem raiseIf_standardize (b : Bool) (c : Condition) (s : State) : (raiseIf b c s).standardize = s.standardize := by
  cases b <;> rfl
@[simp] theorem raiseIf_binning (b : Bool) (c : Condition) (s : State) : (raiseIf b c s).binning = s.binning := by
  cases b <;> rfl
@[simp] theorem raiseIf_closeOut (b : Bool) (c : Condition) (s : State) : (raiseIf b c s).closeOut = s.closeOut := by
  cases b <;> rfl
@[simp] theorem raiseIf_profile (b : Bool) (c : Condition) (s : State) : (raiseIf b c s).profile = s.profile := by
  cases b <;> rfl
@[simp] theorem raiseIf_frame (b : Bool) (c : Condition) (s : State) : (raiseIf b c s).frame = s.frame := by
  cases b <;> rfl
@[simp] theorem raiseIf_contexts (b : Bool) (c : Condition) (s : State) : (raiseIf b c s).contexts = s.contexts := by
  cases b <;> rfl
@[simp] theorem raiseIf_watch (b : Bool) (c : Condition) (s : State) : (raiseIf b c s).watch = s.watch := by
  cases b <;> rfl
@[simp] theorem raiseIf_monitors (b : Bool) (c : Condition) (s : State) : (raiseIf b c s).monitors = s.monitors := by
  cases b <;> rfl
@[simp] theorem raiseIf_handler (b : Bool) (c : Condition) (s : State) : (raiseIf b c s).handler = s.handler := by
  cases b <;> rfl
@[simp] theorem raiseIf_mill (b : Bool) (c : Condition) (s : State) : (raiseIf b c s).mill = s.mill := by
  cases b <;> rfl
@[simp] theorem raiseIf_port (b : Bool) (c : Condition) (s : State) : (raiseIf b c s).port = s.port := by
  cases b <;> rfl
@[simp] theorem raiseIf_clock (b : Bool) (c : Condition) (s : State) : (raiseIf b c s).clock = s.clock := by
  cases b <;> rfl
@[simp] theorem raiseIf_choices (b : Bool) (c : Condition) (s : State) : (raiseIf b c s).choices = s.choices := by
  cases b <;> rfl
@[simp] theorem raiseIf_pending (b : Bool) (c : Condition) (s : State) : (raiseIf b c s).pending = s.pending := by
  cases b <;> rfl

/-! ### abandonTraverse -/

@[simp] theorem abandonTraverse_conditioner (r : AbandonReason) (s : State) : (abandonTraverse r s).conditioner = s.conditioner := by
  rw [abandonTraverse_eq]
@[simp] theorem abandonTraverse_tables (r : AbandonReason) (s : State) : (abandonTraverse r s).tables = s.tables := by
  rw [abandonTraverse_eq]
@[simp] theorem abandonTraverse_standardize (r : AbandonReason) (s : State) : (abandonTraverse r s).standardize = s.standardize := by
  rw [abandonTraverse_eq]
@[simp] theorem abandonTraverse_closeOut (r : AbandonReason) (s : State) : (abandonTraverse r s).closeOut = s.closeOut := by
  rw [abandonTraverse_eq]
@[simp] theorem abandonTraverse_profile (r : AbandonReason) (s : State) : (abandonTraverse r s).profile = s.profile := by
  rw [abandonTraverse_eq]
@[simp] theorem abandonTraverse_frame (r : AbandonReason) (s : State) : (abandonTraverse r s).frame = s.frame := by
  rw [abandonTraverse_eq]
@[simp] theorem abandonTraverse_contexts (r : AbandonReason) (s : State) : (abandonTraverse r s).contexts = s.contexts := by
  rw [abandonTraverse_eq]
@[simp] theorem abandonTraverse_watch (r : AbandonReason) (s : State) : (abandonTraverse r s).watch = s.watch := by
  rw [abandonTraverse_eq]
@[simp] theorem abandonTraverse_monitors (r : AbandonReason) (s : State) : (abandonTraverse r s).monitors = s.monitors := by
  rw [abandonTraverse_eq]
@[simp] theorem abandonTraverse_handler (r : AbandonReason) (s : State) : (abandonTraverse r s).handler = s.handler := by
  rw [abandonTraverse_eq]
@[simp] theorem abandonTraverse_port (r : AbandonReason) (s : State) : (abandonTraverse r s).port = s.port := by
  rw [abandonTraverse_eq]
@[simp] theorem abandonTraverse_clock (r : AbandonReason) (s : State) : (abandonTraverse r s).clock = s.clock := by
  rw [abandonTraverse_eq]
@[simp] theorem abandonTraverse_choices (r : AbandonReason) (s : State) : (abandonTraverse r s).choices = s.choices := by
  rw [abandonTraverse_eq]
@[simp] theorem abandonTraverse_pending (r : AbandonReason) (s : State) : (abandonTraverse r s).pending = s.pending := by
  rw [abandonTraverse_eq]

/-! ### abandonCollection -/

@[simp] theorem abandonCollection_conditioner (s : State) : (abandonCollection s).conditioner = s.conditioner := by
  unfold abandonCollection; split <;> rfl
@[simp] theorem abandonCollection_tables (s : State) : (abandonCollection s).tables = s.tables := by
  unfold abandonCollection; split <;> rfl
@[simp] theorem abandonCollection_binning (s : State) : (abandonCollection s).binning = s.binning := by
  unfold abandonCollection; split <;> rfl
@[simp] theorem abandonCollection_closeOut (s : State) : (abandonCollection s).closeOut = s.closeOut := by
  unfold abandonCollection; split <;> rfl
@[simp] theorem abandonCollection_profile (s : State) : (abandonCollection s).profile = s.profile := by
  unfold abandonCollection; split <;> rfl
@[simp] theorem abandonCollection_frame (s : State) : (abandonCollection s).frame = s.frame := by
  unfold abandonCollection; split <;> rfl
@[simp] theorem abandonCollection_contexts (s : State) : (abandonCollection s).contexts = s.contexts := by
  unfold abandonCollection; split <;> rfl
@[simp] theorem abandonCollection_watch (s : State) : (abandonCollection s).watch = s.watch := by
  unfold abandonCollection; split <;> rfl
@[simp] theorem abandonCollection_monitors (s : State) : (abandonCollection s).monitors = s.monitors := by
  unfold abandonCollection; split <;> rfl
@[simp] theorem abandonCollection_conditions (s : State) : (abandonCollection s).conditions = s.conditions := by
  unfold abandonCollection; split <;> rfl
@[simp] theorem abandonCollection_handler (s : State) : (abandonCollection s).handler = s.handler := by
  unfold abandonCollection; split <;> rfl
@[simp] theorem abandonCollection_mill (s : State) : (abandonCollection s).mill = s.mill := by
  unfold abandonCollection; split <;> rfl
@[simp] theorem abandonCollection_clock (s : State) : (abandonCollection s).clock = s.clock := by
  unfold abandonCollection; split <;> rfl
@[simp] theorem abandonCollection_choices (s : State) : (abandonCollection s).choices = s.choices := by
  unfold abandonCollection; split <;> rfl
@[simp] theorem abandonCollection_pending (s : State) : (abandonCollection s).pending = s.pending := by
  unfold abandonCollection; split <;> rfl

/-! ### applyPending -/

@[simp] theorem applyPending_conditioner (s : State) : (applyPending s).conditioner = s.conditioner := by
  unfold applyPending; split <;> rfl
@[simp] theorem applyPending_tables (s : State) : (applyPending s).tables = s.tables := by
  unfold applyPending; split <;> rfl
@[simp] theorem applyPending_standardize (s : State) : (applyPending s).standardize = s.standardize := by
  unfold applyPending; split <;> rfl
@[simp] theorem applyPending_binning (s : State) : (applyPending s).binning = s.binning := by
  unfold applyPending; split <;> rfl
@[simp] theorem applyPending_closeOut (s : State) : (applyPending s).closeOut = s.closeOut := by
  unfold applyPending; split <;> rfl
@[simp] theorem applyPending_frame (s : State) : (applyPending s).frame = s.frame := by
  unfold applyPending; split <;> rfl
@[simp] theorem applyPending_contexts (s : State) : (applyPending s).contexts = s.contexts := by
  unfold applyPending; split <;> rfl
@[simp] theorem applyPending_watch (s : State) : (applyPending s).watch = s.watch := by
  unfold applyPending; split <;> rfl
@[simp] theorem applyPending_monitors (s : State) : (applyPending s).monitors = s.monitors := by
  unfold applyPending; split <;> rfl
@[simp] theorem applyPending_conditions (s : State) : (applyPending s).conditions = s.conditions := by
  unfold applyPending; split <;> rfl
@[simp] theorem applyPending_handler (s : State) : (applyPending s).handler = s.handler := by
  unfold applyPending; split <;> rfl
@[simp] theorem applyPending_mill (s : State) : (applyPending s).mill = s.mill := by
  unfold applyPending; split <;> rfl
@[simp] theorem applyPending_port (s : State) : (applyPending s).port = s.port := by
  unfold applyPending; split <;> rfl
@[simp] theorem applyPending_clock (s : State) : (applyPending s).clock = s.clock := by
  unfold applyPending; split <;> rfl
@[simp] theorem applyPending_choices (s : State) : (applyPending s).choices = s.choices := by
  unfold applyPending; split <;> rfl
@[simp] theorem applyPending_pending (s : State) : (applyPending s).pending = s.pending := by
  unfold applyPending; split <;> rfl

/-! ### notePosition -/

@[simp] theorem notePosition_conditioner (p : Nat) (s : State) : (notePosition p s).conditioner = s.conditioner := by
  unfold notePosition; dsimp only; split <;> rfl
@[simp] theorem notePosition_tables (p : Nat) (s : State) : (notePosition p s).tables = s.tables := by
  unfold notePosition; dsimp only; split <;> rfl
@[simp] theorem notePosition_standardize (p : Nat) (s : State) : (notePosition p s).standardize = s.standardize := by
  unfold notePosition; dsimp only; split <;> rfl
@[simp] theorem notePosition_binning (p : Nat) (s : State) : (notePosition p s).binning = s.binning := by
  unfold notePosition; dsimp only; split <;> rfl
@[simp] theorem notePosition_closeOut (p : Nat) (s : State) : (notePosition p s).closeOut = s.closeOut := by
  unfold notePosition; dsimp only; split <;> rfl
@[simp] theorem notePosition_profile (p : Nat) (s : State) : (notePosition p s).profile = s.profile := by
  unfold notePosition; dsimp only; split <;> rfl
@[simp] theorem notePosition_contexts (p : Nat) (s : State) : (notePosition p s).contexts = s.contexts := by
  unfold notePosition; dsimp only; split <;> rfl
@[simp] theorem notePosition_watch (p : Nat) (s : State) : (notePosition p s).watch = s.watch := by
  unfold notePosition; dsimp only; split <;> rfl
@[simp] theorem notePosition_monitors (p : Nat) (s : State) : (notePosition p s).monitors = s.monitors := by
  unfold notePosition; dsimp only; split <;> rfl
@[simp] theorem notePosition_conditions (p : Nat) (s : State) : (notePosition p s).conditions = s.conditions := by
  unfold notePosition; dsimp only; split <;> rfl
@[simp] theorem notePosition_handler (p : Nat) (s : State) : (notePosition p s).handler = s.handler := by
  unfold notePosition; dsimp only; split <;> rfl
@[simp] theorem notePosition_mill (p : Nat) (s : State) : (notePosition p s).mill = s.mill := by
  unfold notePosition; dsimp only; split <;> rfl
@[simp] theorem notePosition_port (p : Nat) (s : State) : (notePosition p s).port = s.port := by
  unfold notePosition; dsimp only; split <;> rfl
@[simp] theorem notePosition_clock (p : Nat) (s : State) : (notePosition p s).clock = s.clock := by
  unfold notePosition; dsimp only; split <;> rfl
@[simp] theorem notePosition_choices (p : Nat) (s : State) : (notePosition p s).choices = s.choices := by
  unfold notePosition; dsimp only; split <;> rfl
@[simp] theorem notePosition_pending (p : Nat) (s : State) : (notePosition p s).pending = s.pending := by
  unfold notePosition; dsimp only; split <;> rfl

/-! ### binningTakes -/

@[simp] theorem binningTakes_conditioner (x : Sample) (s : State) : (binningTakes x s).conditioner = s.conditioner := by
  unfold binningTakes; split <;> rfl
@[simp] theorem binningTakes_tables (x : Sample) (s : State) : (binningTakes x s).tables = s.tables := by
  unfold binningTakes; split <;> rfl
@[simp] theorem binningTakes_standardize (x : Sample) (s : State) : (binningTakes x s).standardize = s.standardize := by
  unfold binningTakes; split <;> rfl
@[simp] theorem binningTakes_closeOut (x : Sample) (s : State) : (binningTakes x s).closeOut = s.closeOut := by
  unfold binningTakes; split <;> rfl
@[simp] theorem binningTakes_profile (x : Sample) (s : State) : (binningTakes x s).profile = s.profile := by
  unfold binningTakes; split <;> rfl
@[simp] theorem binningTakes_frame (x : Sample) (s : State) : (binningTakes x s).frame = s.frame := by
  unfold binningTakes; split <;> rfl
@[simp] theorem binningTakes_contexts (x : Sample) (s : State) : (binningTakes x s).contexts = s.contexts := by
  unfold binningTakes; split <;> rfl
@[simp] theorem binningTakes_watch (x : Sample) (s : State) : (binningTakes x s).watch = s.watch := by
  unfold binningTakes; split <;> rfl
@[simp] theorem binningTakes_monitors (x : Sample) (s : State) : (binningTakes x s).monitors = s.monitors := by
  unfold binningTakes; split <;> rfl
@[simp] theorem binningTakes_conditions (x : Sample) (s : State) : (binningTakes x s).conditions = s.conditions := by
  unfold binningTakes; split <;> rfl
@[simp] theorem binningTakes_handler (x : Sample) (s : State) : (binningTakes x s).handler = s.handler := by
  unfold binningTakes; split <;> rfl
@[simp] theorem binningTakes_mill (x : Sample) (s : State) : (binningTakes x s).mill = s.mill := by
  unfold binningTakes; split <;> rfl
@[simp] theorem binningTakes_port (x : Sample) (s : State) : (binningTakes x s).port = s.port := by
  unfold binningTakes; split <;> rfl
@[simp] theorem binningTakes_clock (x : Sample) (s : State) : (binningTakes x s).clock = s.clock := by
  unfold binningTakes; split <;> rfl
@[simp] theorem binningTakes_choices (x : Sample) (s : State) : (binningTakes x s).choices = s.choices := by
  unfold binningTakes; split <;> rfl
@[simp] theorem binningTakes_pending (x : Sample) (s : State) : (binningTakes x s).pending = s.pending := by
  unfold binningTakes; split <;> rfl

/-! ### stageFactors -/

@[simp] theorem stageFactors_conditioner (r : PerMeasured (Option ParticipantResult)) (s : State) : (stageFactors r s).conditioner = s.conditioner := by
  unfold stageFactors; split <;> rfl
@[simp] theorem stageFactors_standardize (r : PerMeasured (Option ParticipantResult)) (s : State) : (stageFactors r s).standardize = s.standardize := by
  unfold stageFactors; split <;> rfl
@[simp] theorem stageFactors_binning (r : PerMeasured (Option ParticipantResult)) (s : State) : (stageFactors r s).binning = s.binning := by
  unfold stageFactors; split <;> rfl
@[simp] theorem stageFactors_closeOut (r : PerMeasured (Option ParticipantResult)) (s : State) : (stageFactors r s).closeOut = s.closeOut := by
  unfold stageFactors; split <;> rfl
@[simp] theorem stageFactors_profile (r : PerMeasured (Option ParticipantResult)) (s : State) : (stageFactors r s).profile = s.profile := by
  unfold stageFactors; split <;> rfl
@[simp] theorem stageFactors_frame (r : PerMeasured (Option ParticipantResult)) (s : State) : (stageFactors r s).frame = s.frame := by
  unfold stageFactors; split <;> rfl
@[simp] theorem stageFactors_contexts (r : PerMeasured (Option ParticipantResult)) (s : State) : (stageFactors r s).contexts = s.contexts := by
  unfold stageFactors; split <;> rfl
@[simp] theorem stageFactors_watch (r : PerMeasured (Option ParticipantResult)) (s : State) : (stageFactors r s).watch = s.watch := by
  unfold stageFactors; split <;> rfl
@[simp] theorem stageFactors_monitors (r : PerMeasured (Option ParticipantResult)) (s : State) : (stageFactors r s).monitors = s.monitors := by
  unfold stageFactors; split <;> rfl
@[simp] theorem stageFactors_conditions (r : PerMeasured (Option ParticipantResult)) (s : State) : (stageFactors r s).conditions = s.conditions := by
  unfold stageFactors; split <;> rfl
@[simp] theorem stageFactors_handler (r : PerMeasured (Option ParticipantResult)) (s : State) : (stageFactors r s).handler = s.handler := by
  unfold stageFactors; split <;> rfl
@[simp] theorem stageFactors_mill (r : PerMeasured (Option ParticipantResult)) (s : State) : (stageFactors r s).mill = s.mill := by
  unfold stageFactors; split <;> rfl
@[simp] theorem stageFactors_port (r : PerMeasured (Option ParticipantResult)) (s : State) : (stageFactors r s).port = s.port := by
  unfold stageFactors; split <;> rfl
@[simp] theorem stageFactors_clock (r : PerMeasured (Option ParticipantResult)) (s : State) : (stageFactors r s).clock = s.clock := by
  unfold stageFactors; split <;> rfl
@[simp] theorem stageFactors_choices (r : PerMeasured (Option ParticipantResult)) (s : State) : (stageFactors r s).choices = s.choices := by
  unfold stageFactors; split <;> rfl
@[simp] theorem stageFactors_pending (r : PerMeasured (Option ParticipantResult)) (s : State) : (stageFactors r s).pending = s.pending := by
  unfold stageFactors; split <;> rfl

@[simp] theorem abandonTraverse_openTraverse (r : AbandonReason) (s : State) :
    (abandonTraverse r s).binning = { s.binning with openTraverse := none } := by
  rw [abandonTraverse_eq]

@[simp] theorem abandonTraverse_raised (r : AbandonReason) (s : State) :
    (abandonTraverse r s).conditions.raised = s.conditions.raised := by
  rw [abandonTraverse_eq]

@[simp] theorem abandonTraverse_flag (r : AbandonReason) (s : State) (c : Condition) :
    (abandonTraverse r s).conditions.flag c = s.conditions.flag c := by
  rw [abandonTraverse_eq]; rfl

/-! ### adopt -/

/-- What the adoption at FILTER can do: leave a profile of its own map as it is, or clear the profile to its map. -/
theorem adopt_cases (id : MapIdentity) (p : ProfileStore) :
    (p.map = some id ∧ adopt id p = p) ∨ adopt id p = p.clearTo id .cleared := by
  unfold adopt
  split
  · exact .inl ⟨‹_›, rfl⟩
  · exact .inr rfl

/-- A profile of another map, or of none, is cleared to the traverse map (R71). -/
theorem adopt_of_ne {id : MapIdentity} {p : ProfileStore} (h : p.map ≠ some id) :
    adopt id p = p.clearTo id .cleared := by
  simp [adopt, h]

/-- A profile of the traverse map is left as it is (R71). -/
theorem adopt_of_eq {id : MapIdentity} {p : ProfileStore} (h : p.map = some id) : adopt id p = p := by
  simp [adopt, h]

@[simp] theorem adopt_map (id : MapIdentity) (p : ProfileStore) : (adopt id p).map = some id := by
  obtain ⟨h, e⟩ | e := adopt_cases id p <;> rw [e]
  · exact h
  · rfl
@[simp] theorem adopt_slots (id : MapIdentity) (p : ProfileStore) : (adopt id p).slots = p.slots := by
  obtain ⟨_, e⟩ | e := adopt_cases id p
  · rw [e]
  · rw [e]; rfl
@[simp] theorem adopt_trend (id : MapIdentity) (p : ProfileStore) : (adopt id p).trend = p.trend := by
  obtain ⟨_, e⟩ | e := adopt_cases id p
  · rw [e]
  · rw [e]; rfl
@[simp] theorem adopt_action (id : MapIdentity) (p : ProfileStore) : (adopt id p).action = p.action := by
  obtain ⟨_, e⟩ | e := adopt_cases id p
  · rw [e]
  · rw [e]; rfl

end Sys2Proof.Machine
end

