-- ==== Sys2Proof/Laws/Sampling.lean ====
section
/-! SUPPORT. What one sample can do: the frame controller by carriage state, the tests of arrival and reversal, and the
fields that each consumer leaves as they are. -/
namespace Sys2Proof.Machine

/-! ### Positions -/

theorem withinWindow_iff (a b : Nat) : withinWindow a b = true ↔ a ≤ b + 8 ∧ b ≤ a + 8 := by
  unfold withinWindow distance Config.arrivalWindow
  rw [decide_eq_true_eq]
  omega

/-- In every state but UNREFERENCED and HALTED a sample sets the last position and restarts the silence timer. -/
theorem notePosition_active (p : Nat) (s : State) (h : s.frame.carriage ≠ .unreferenced)
    (h' : s.frame.carriage ≠ .halted) : notePosition p s = { s with frame := { s.frame with
      lastPosition := some p, silence := some ⟨s.tables.frame.silencePeriod, 0⟩ } } := by
  cases hc : s.frame.carriage <;> simp_all [notePosition, startSilence, Timer.start]

/-- In UNREFERENCED and HALTED a sample sets the last position alone. -/
theorem notePosition_passive (p : Nat) (s : State)
    (h : s.frame.carriage = .unreferenced ∨ s.frame.carriage = .halted) :
    notePosition p s = { s with frame := { s.frame with lastPosition := some p } } := by
  rcases h with h | h <;> simp [notePosition, h]

@[simp] theorem notePosition_carriage (p : Nat) (s : State) :
    (notePosition p s).frame.carriage = s.frame.carriage := by
  unfold notePosition; dsimp only; split <;> rfl

@[simp] theorem notePosition_lastPosition (p : Nat) (s : State) :
    (notePosition p s).frame.lastPosition = some p := by unfold notePosition; dsimp only; split <;> rfl

@[simp] theorem notePosition_lastDrive (p : Nat) (s : State) :
    (notePosition p s).frame.lastDrive = s.frame.lastDrive := by unfold notePosition; dsimp only; split <;> rfl

@[simp] theorem notePosition_scanOn (p : Nat) (s : State) :
    (notePosition p s).frame.scanOn = s.frame.scanOn := by unfold notePosition; dsimp only; split <;> rfl

theorem driveAtRest_iff (s : State) :
    driveAtRest s = true ↔ ∃ d, s.frame.lastDrive = some d ∧ d.moving = false := by
  unfold driveAtRest
  cases s.frame.lastDrive with
  | none => simp
  | some d => simp

/-- The arrival test (R94). -/
theorem isArrival_iff (p q : Nat) (s : State) : isArrival p (notePosition q s) = true ↔
    ∃ m d, s.frame.target = some m ∧ s.frame.lastDrive = some d ∧ d.moving = false ∧
      p ≤ m.position + 8 ∧ m.position ≤ p + 8 := by
  have ht : (notePosition q s).frame.target = s.frame.target := by
    unfold notePosition; dsimp only; split <;> rfl
  unfold isArrival
  rw [ht]
  cases h : s.frame.target with
  | none => simp
  | some m =>
    simp only [Bool.and_eq_true, withinWindow_iff, driveAtRest_iff, notePosition_lastDrive]
    constructor
    · rintro ⟨hw, d, hd, hm⟩
      exact ⟨m, d, rfl, hd, hm, hw⟩
    · rintro ⟨m', d, hm', hd, hm, hw⟩
      cases hm'
      exact ⟨hw, d, hd, hm⟩

/-- The reversal test (R101). -/
theorem isReversal_iff (dir : Direction) (p q : Nat) (s : State) (l : Span) (h : s.frame.limits = some l) :
    isReversal dir p (notePosition q s) = true ↔
      (match dir with
       | .fwd => l.back ≤ p
       | .rev => p ≤ l.front) ∨
      ((∃ d, s.frame.lastDrive = some d ∧ d.moving = false) ∧ p ≤ farLimit dir l + 8 ∧ farLimit dir l ≤ p + 8) := by
  have hl : (notePosition q s).frame.limits = some l := by
    rw [← h]; unfold notePosition; dsimp only; split <;> rfl
  have hd : driveAtRest (notePosition q s) = true ↔ ∃ d, s.frame.lastDrive = some d ∧ d.moving = false := by
    rw [driveAtRest_iff, notePosition_lastDrive]
  unfold isReversal
  rw [hl]
  cases dir <;> simp only [Bool.or_eq_true, Bool.and_eq_true, decide_eq_true_eq, withinWindow_iff, hd] <;> tauto

/-! ### The frame controller by carriage state (R94) -/

section
variable (x : Sample) (s : State)

theorem frameTakes_parking (h : s.frame.carriage = .parking) :
    frameTakes x s = if isArrival x.frame.position (notePosition x.frame.position s)
      then arriveAtPark (notePosition x.frame.position s) else notePosition x.frame.position s := by
  simp [frameTakes, h]

theorem frameTakes_positioning (d : Direction) (h : s.frame.carriage = .traverse .positioning d) :
    frameTakes x s = if isArrival x.frame.position (notePosition x.frame.position s)
      then openTraverse d (endMove (notePosition x.frame.position s)) else notePosition x.frame.position s := by
  simp [frameTakes, h]

theorem frameTakes_scanning (d : Direction) (h : s.frame.carriage = .traverse .scanning d) :
    frameTakes x s = if isReversal d x.frame.position (notePosition x.frame.position s)
      then reverse d (notePosition x.frame.position s) else notePosition x.frame.position s := by
  simp [frameTakes, h]

theorem frameTakes_fixedMoving (h : s.frame.carriage = .fixed .moving) :
    frameTakes x s = if isArrival x.frame.position (notePosition x.frame.position s)
      then startDwell (notePosition x.frame.position s) else notePosition x.frame.position s := by
  simp [frameTakes, h]

theorem frameTakes_fixedDwelling (h : s.frame.carriage = .fixed .dwelling) :
    frameTakes x s = feedWindows x (notePosition x.frame.position s) := by simp [frameTakes, h]

theorem frameTakes_probingMoving (h : s.frame.carriage = .probing .moving) :
    frameTakes x s = if isArrival x.frame.position (notePosition x.frame.position s)
      then startProbeDwell (notePosition x.frame.position s) else notePosition x.frame.position s := by
  simp [frameTakes, h]

/-- In the other states a sample moves nothing on. -/
theorem frameTakes_idle (h : s.frame.carriage = .unreferenced ∨ s.frame.carriage = .parked ∨
    s.frame.carriage = .standardizing ∨ s.frame.carriage = .probing .dwelling ∨ s.frame.carriage = .halted) :
    frameTakes x s = notePosition x.frame.position s := by
  rcases h with h | h | h | h | h <;> simp [frameTakes, h]
end

/-! ### Openings -/

/-- A context taken: it is in effect, its interval is compared, and its action goes to the profile store (R117, R26,
R120). Outside PARKED the comparison only sets the request flag. -/
theorem takeContext_cons (r : MapRecord) (s : State) (c : Context) (rest : List Context)
    (h : s.contexts.queue = c :: rest) (hp : s.frame.carriage ≠ .parked) :
    takeContext r s = takeAction ⟨c.action, r.identity c.map⟩ { s with
      contexts := ⟨rest, some c⟩
      standardize := { s.standardize with request :=
        s.standardize.request || (decide (c.interval ≠ 0) && decide (c.interval ≤ s.standardize.counter)) } } := by
  unfold takeContext
  rw [h]
  dsimp only
  congr 1
  unfold checkDue standardizeDue setRequest
  dsimp only
  rw [if_neg hp]
  by_cases h0 : c.interval = 0
  · simp [h0]
  · by_cases h1 : c.interval ≤ s.standardize.counter <;> simp [h0, h1, bne]

theorem takeContext_nil (r : MapRecord) (s : State) (h : s.contexts.queue = []) : takeContext r s = s := by
  unfold takeContext; rw [h]

/-- What an opening leaves: limits by the context, the far limit as target, a cleared bank on a copy of the map, the staged
calibration in effect; the rest as the context's taking left it (R99). -/
theorem openTraverse_eq (d : Direction) (s : State) (c : Context) (r : MapRecord) (hg : governing s = some c)
    (hm : s.tables.map c.map = some r) :
    openTraverse d s = setCarriage (.traverse .scanning d) (sendMove (farLimit d (limitsNow c (takeContext r s))) c.speed
      { commit (takeContext r s) with
        binning := { (takeContext r s).binning with
          openTraverse := some ⟨⟨c.map, r⟩, c, d, emptyBank r, .start, false⟩ }
        frame := { (takeContext r s).frame with limits := some (limitsNow c (takeContext r s)) } }) := by
  unfold openTraverse
  rw [hg]
  dsimp only
  rw [hm]
  rfl

/-! ### The order of the consumers (log 6) -/

/-- Whatever the free value, every consumer takes the sample once (log 6). -/
theorem consumerOrder_perm (k : Nat) : (consumerOrder k).Perm Consumer.all := arrange_perm 4 k _ (by decide)

/-- A consumer order is one of 24. -/
theorem consumerOrder_mod (k : Nat) : consumerOrder k = consumerOrder (k % 24) := by
  have h1 : k % 24 % 4 = k % 4 := by omega
  have h2 : k % 24 / 4 % 3 = k / 4 % 3 := by omega
  have h3 : k % 24 / 4 / 3 % 2 = k / 4 / 3 % 2 := by omega
  have a : k % 4 = 0 ∨ k % 4 = 1 ∨ k % 4 = 2 ∨ k % 4 = 3 := by omega
  have b : k / 4 % 3 = 0 ∨ k / 4 % 3 = 1 ∨ k / 4 % 3 = 2 := by omega
  have c : k / 4 / 3 % 2 = 0 ∨ k / 4 / 3 % 2 = 1 := by omega
  rcases a with a | a | a | a <;> rcases b with b | b | b <;> rcases c with c | c <;> rw [a] at h1 <;> rw [b] at h2 <;>
    rw [c] at h3 <;> simp [consumerOrder, Consumer.all, arrange, a, b, c, h1, h2, h3, Nat.mod_one]

end Sys2Proof.Machine
end

