-- ==== Sys2Proof/Tests/Slice0.lean ====
section
/-! SUPPORT. Tests: ill-formed operands refused, the manual's worked examples (expected values from spec/, the section in
each test's comment), one small test for a command where its rule gives figures, and a witness for the hypotheses of every
statement that has some. -/
namespace Sys2Proof.Tests

open Sys2Proof.Machine

set_option maxRecDepth 8000

/-! ### Small states -/

/-- A state in which the handler is READY with one command frame waiting. -/
def withCommand (code : Byte) (args : List Byte) (s : State) : State :=
  { s with handler := ⟨[⟨0x07#8, code, args⟩], none, .ready⟩ }

theorem withCommand_atHand (code : Byte) (args : List Byte) (s : State) :
    AtHand ⟨0x07#8, code, args⟩ [] (withCommand code args s) := ⟨rfl, rfl⟩

/-- A state with another carriage state. -/
def inCarriage (c : Carriage) (s : State) : State := { s with frame := { s.frame with carriage := c } }

/-- A state with a drive at rest or moving, referenced and without fault. -/
def withDrive (moving : Bool) (s : State) : State :=
  { s with frame := { s.frame with lastDrive := some ⟨true, moving, false, 0⟩ } }

/-- A state with a MOVE outstanding. -/
def withTarget (position speed : Nat) (s : State) : State :=
  { s with frame := { s.frame with target := some ⟨position, speed⟩, stall := some ⟨⟨2000, 0⟩, none⟩ } }

/-- A SAMPLE frame with every ready bit set. -/
def frameAt (position : Nat) (reference : Bool := false) (sequence : Nat := 0) : SampleFrame :=
  ⟨sequence, position, reference, .fwd, .const true, .const 1000⟩

/-- A conditioned sample with a TR value and nothing else. -/
def sampleAt (position : Nat) (tr : Conditioned) (reference : Bool := false) : Sample :=
  ⟨frameAt position reference, false, .absent, .absent, .absent, tr, .absent⟩

/-- Map B of the worked close-out (4.11): id 21, 8 slices of 800 counts from 2000. -/
def map21 : MapRecord := ⟨21, 8, [2000, 2800, 3600, 4400, 5200, 6000, 6800, 7600, 8400], none⟩

/-- Map A of the worked exclusion (3.6): id 7, 12 slices of 600 counts from 1000, slice 9 ruled out. -/
def map7 : MapRecord :=
  ⟨7, 12, [1000, 1600, 2200, 2800, 3400, 4000, 4600, 5200, 5800, 6400, 7000, 7600, 8200], some (9, 9)⟩

/-- The context of 4.11 and 5.3: tag 305, map B, limits 2000 and 8400, 400 mm/s. -/
def ctx305 : Context := ⟨305, .b, 2000, 8400, 400, 2, 48, 4, 50, 0, none, 12, .keep⟩

/-- A state with map B loaded and the context queued. -/
def queued : State :=
  { State.reset with tables := { State.reset.tables with mapB := some map21 }, contexts := ⟨[ctx305], none⟩ }

/-- An open traverse on map B under the context. -/
def traverse21 (d : Direction) : OpenTraverse := ⟨⟨.b, map21⟩, ctx305, d, emptyBank map21, .start, false⟩

/-- A state that scans forward on map B, the drive moving. -/
def scanning : State :=
  let s := withDrive true (withTarget 8400 400 (inCarriage (.traverse .scanning .fwd) queued))
  { s with
    contexts := ⟨[], some ctx305⟩
    binning := ⟨some (traverse21 .fwd), none⟩
    frame := { s.frame with scanOn := true, limits := some ⟨2000, 8400⟩, silence := some ⟨100, 0⟩ } }

/-- The next state of an outcome, and the state before where there is none. -/
def nextOf (s : State) : Host.Outcome State Fault Refusal → State
  | .next t => t
  | _ => s

/-- The state a command leaves. -/
def after (i : Instr) (s : State) : State := nextOf s (exec i s)

/-- The status and result of the response that a command frame of this code and arguments is given. -/
def answerOf (i : Instr) (code : Byte) (args : List Byte) (s : State) : Option (Status × List Byte) :=
  (after i (withCommand code args s)).mill.response.map (fun r => (r.status, r.result))

/-! ### Operands that no link can deliver -/

theorem test_illFormed_sampleSequence : Instr.wellFormed (.sample (frameAt 0 false 256)) = false := by decide
theorem test_illFormed_samplePosition : Instr.wellFormed (.sample (frameAt 32768)) = false := by decide
theorem test_illFormed_sampleRaw :
    Instr.wellFormed (.sample { frameAt 0 with raw := ⟨0, 0, 0, 65536⟩ }) = false := by decide
theorem test_illFormed_sampleRawOthers :
    Instr.wellFormed (.sample { frameAt 0 with raw := ⟨65536, 0, 0, 0⟩ }) = false ∧
    Instr.wellFormed (.sample { frameAt 0 with raw := ⟨0, 65536, 0, 0⟩ }) = false ∧
    Instr.wellFormed (.sample { frameAt 0 with raw := ⟨0, 0, 65536, 0⟩ }) = false := by decide
theorem test_illFormed_drivePosition : Instr.wellFormed (.driveStatus ⟨true, false, false, 65536⟩) = false := by decide
theorem test_illFormed_passUpEmpty : Instr.wellFormed (.passUp []) = false := by decide
theorem test_illFormed_passUpLong : Instr.wellFormed (.passUp (List.replicate 257 0#8)) = false := by
  simp [Instr.wellFormed, payloadWellFormed]
theorem test_illFormed_commandLong : Instr.wellFormed (.command ⟨0#8, 1#8, List.replicate 4096 0#8⟩) = false := by
  show decide ((List.replicate 4096 0#8).length + 1 ≤ 4096) = false
  rw [List.length_replicate]; rfl
theorem test_illFormed_millFixedLength : Instr.wellFormed (.frameCheckFailure .mill .fixedLength) = false := by decide

/-! ### Frames written out from 11.1 (CRCs computed by hand from its polynomial) -/

/-- The check value of a CRC-16 with this polynomial and this start, over the digits 1 to 9. -/
theorem test_crc_checkValue :
    crc16 [0x31#8, 0x32#8, 0x33#8, 0x34#8, 0x35#8, 0x36#8, 0x37#8, 0x38#8, 0x39#8] = 0x29B1#16 := by decide

/-- HEAD_ANNOUNCE of BW, MO and TR (table 11-1), after three bytes that are no sync pair. -/
theorem test_receive_headAnnounce :
    receive .carriage 2 [0x3C#8, 0xC3#8, 0xC3#8, 0x3C#8, 0x02#8, 0x05#8, 0x00#8, 0x01#8, 0x0B#8, 0x6B#8, 0x90#8] =
      [.syncPairFound .carriage, .headAnnounce ⟨true, true, false, true⟩] := by decide

/-- SAMPLE 42 at position 3850, reference flag set, hint REV, all ready, raw 36000, 1, 65535, 9000. -/
theorem test_receive_sample :
    receive .carriage 1 [0xC3#8, 0x3C#8, 0x01#8, 0x07#8, 0x00#8, 0x0E#8, 0x2A#8, 0x0F#8, 0x0A#8, 0x03#8, 0x0F#8,
      0x8C#8, 0xA0#8, 0x00#8, 0x01#8, 0xFF#8, 0xFF#8, 0x23#8, 0x28#8, 0x00#8, 0xCC#8, 0x19#8] =
      [.syncPairFound .carriage,
       .sample ⟨42, 3850, true, .rev, .const true, ⟨36000, 1, 65535, 9000⟩⟩] := by decide

/-- DRIVE_STATUS: referenced 1, moving 0, fault 1, position 32767 (R195). -/
theorem test_receive_driveStatus :
    receive .carriage 1 [0xC3#8, 0x3C#8, 0x03#8, 0x01#8, 0x00#8, 0x06#8, 0x05#8, 0x7F#8, 0xFF#8, 0x00#8, 0x00#8, 0x00#8,
      0x6A#8, 0x2D#8] = [.syncPairFound .carriage, .driveStatus ⟨true, false, true, 32767⟩] := by decide

/-- COMMAND START_SCAN under sequence 0x10. -/
theorem test_receive_command :
    receive .mill 1 [0xC3#8, 0x3C#8, 0x21#8, 0x10#8, 0x00#8, 0x01#8, 0x07#8, 0xEB#8, 0x98#8] =
      [.syncPairFound .mill, .command ⟨0x10#8, 0x07#8, []⟩] := by decide

/-- A wrong CRC, a kind of the other link, and a length above 4096 fail their checks (R191). -/
theorem test_receive_failures :
    receive .mill 1 [0xC3#8, 0x3C#8, 0x21#8, 0x10#8, 0x00#8, 0x01#8, 0x07#8, 0xEB#8, 0x99#8] =
      [.syncPairFound .mill, .frameCheckFailure .mill .crc] ∧
    receive .carriage 1 [0xC3#8, 0x3C#8, 0x21#8, 0x10#8, 0x00#8, 0x01#8, 0x07#8, 0xEB#8, 0x98#8] =
      [.syncPairFound .carriage, .frameCheckFailure .carriage .kind] ∧
    receive .mill 1 [0xC3#8, 0x3C#8, 0x21#8, 0x10#8, 0x10#8, 0x01#8] =
      [.syncPairFound .mill, .frameCheckFailure .mill .lengthAboveMax] := by decide

/-- The opcode table gives no row any bits. -/
theorem test_decodeTableWord (nbits w : Nat) :
    decodeTableWord nbits w = none ∧ State.reset.withFetchWord nbits w = State.reset := ⟨rfl, rfl⟩

/-! ### Rounding (00_scope.md section 5) -/

theorem test_rounding :
    roundHalfAway (-14295) 10 = -1430 ∧ roundHalfAway 5 2 = 3 ∧ roundHalfUp 18402 4 = 4601 ∧
    roundHalfUpInt (-9) 2 = -4 := by decide

/-! ### Conditioning (1.5, 1.8) -/

/-- The BW curve of 1.5. -/
def curve15 : Curve := ⟨⟨10000, 9000⟩, [⟨30000, 6000⟩, ⟨50000, 1500⟩], 41000, 300⟩

/-- Worked curve (1.5). -/
theorem test_workedCurve :
    [8000, 10000, 10001, 10010, 20000, 30000, 36354, 50000, 50001].map curve15.apply =
      [(9000, true), (9000, false), (9000, false), (8998, false), (7500, false), (6000, false), (4570, false),
       (1500, false), (1500, true)] := by decide

/-- The bias entries of 1.8: entry 2 names BW with +25, entry 5 with −40. -/
def bias18 : List BiasEntry :=
  [⟨false, .bw, 0⟩, ⟨false, .bw, 0⟩, ⟨true, .bw, 25⟩, ⟨false, .bw, 0⟩, ⟨false, .bw, 0⟩, ⟨true, .bw, -40⟩]

/-- Worked conditioning of one sample (1.8): r′, BW and DW. -/
theorem test_workedConditioning :
    Machine.normalize 16545 36000 = (36354, false) ∧
    conditionChannel true (some curve15) true 16545 36000 (biasStep bias18 .bw) = .normal 4595 ∧
    dryWeight bias18 (.normal 4595) (.normal 780) = .normal 4237 := by decide

/-- Normalization at its ends (1.4). -/
theorem test_normalizeEnds :
    Machine.normalize 8192 65535 = (32768, false) ∧ Machine.normalize 32767 32769 = (65535, true) ∧
    Machine.normalize 32767 0 = (0, false) := by decide

/-- A bias below 0 and above the channel maximum is CLAMPED (R13). -/
theorem test_biasClamps :
    biasStep [⟨true, .bw, -40⟩] .bw 39 = (0, true) ∧ biasStep [⟨true, .mo, 1⟩] .mo 10000 = (10000, true) := by decide

/-! ### Standardization (2.6) -/

/-- The four participants of the worked standardize at its 256th reference sample. -/
theorem test_workedStandardize :
    Participant.result 256 ⟨41000, 300, 10393700, 256⟩ = .passes 16545 ∧
    Participant.result 256 ⟨22000, 800, 6272100, 256⟩ = .failsDrift ∧ driftOf 24500 22000 = 1136 ∧
    Participant.result 256 ⟨18000, 500, 2172000, 120⟩ = .failsCoverage ∧
    Participant.result 256 ⟨9000, 200, 2304050, 256⟩ = .passes 16384 := by decide

/-- Generations (R18 step 4): 65535 with in-effect 0 advances twice. -/
theorem test_generations : nextGeneration 65535 0 = 1 ∧ nextGeneration 65535 65535 = 0 ∧ nextGeneration 4 4 = 5 := by
  decide

/-! ### Edges and exclusion (3.4, 3.6) -/

/-- The TR readings of the worked edge finding, its long run cut to its last sample. -/
def readings34 : List Sample :=
  [sampleAt 900 (.normal 985), sampleAt 950 (.normal 980), sampleAt 1000 (.normal 640), sampleAt 1050 (.normal 990),
   sampleAt 1100 (.normal 620), sampleAt 1150 (.normal 610), sampleAt 1200 (.normal 600), sampleAt 1250 (.normal 580),
   sampleAt 1300 (.normal 960), sampleAt 1350 (.normal 955), sampleAt 1400 (.normal 590), sampleAt 7650 (.normal 690),
   sampleAt 7700 (.normal 720), sampleAt 7750 .faulted, sampleAt 7800 (.normal 930), sampleAt 7850 (.normal 940),
   sampleAt 7900 (.normal 950), sampleAt 7950 (.normal 300)]

/-- The edge finder after samples, from a traverse opening, under the reset SHEET settings (TR_PRESENT 700, M 3). -/
def finderAfter (xs : List Sample) : EdgeFinder :=
  xs.foldl (fun e x => EdgeFinder.take Tables.reset.sheet x e) .start

/-- Worked edge finding (3.4). -/
theorem test_workedEdges :
    finderAfter readings34 =
      ⟨.left, 3, none, some 7650, true, some ⟨1100, false⟩, some ⟨7650, false⟩⟩ := by decide

/-- After the sample at 1100, the seventh and the tenth of the worked edge finding. -/
theorem test_workedEdges_onTheWay :
    finderAfter (readings34.take 5) =
      ⟨.seeking, 1, some 1100, none, true, none, none⟩ ∧
    finderAfter (readings34.take 10) =
      ⟨.onSheet, 2, none, some 1250, true, some ⟨1100, false⟩, none⟩ := by decide

/-- Worked exclusion (3.6): slices 0, 1, 2, 9, 10 and 11 are excluded. -/
theorem test_workedExclusion :
    exclusion map7 ⟨1100, 7650, false, false, false⟩ 2 =
      [true, true, true, false, false, false, false, false, false, true, true, true] := by decide

/-- The ends of a map's span (R47). -/
theorem test_sliceOf :
    [1999, 2000, 2799, 2800, 8399, 8400].map map21.sliceOf = [none, some 0, some 0, some 1, some 7, none] := by decide

/-- An accumulator at 4095 only takes the saturated mark (R50). -/
theorem test_accumulatorFull :
    Accumulator.add ⟨4094, 4094, false⟩ 1 = ⟨4095, 4095, false⟩ ∧
    Accumulator.add ⟨4095, 4095, false⟩ 1 = ⟨4095, 4095, true⟩ := by decide

/-! ### Close-out (4.11) -/

/-- A bank whose BW accumulators have these counts and sums. -/
def bankOf (l : List (Nat × Nat)) : Bank := l.map (fun (n, sum) => ⟨⟨sum, n, false⟩, .zero, .zero, .zero⟩)

/-- The bank of the worked close-out. -/
def bank411 : Bank :=
  bankOf [(3, 13710), (4, 18402), (4, 18360), (0, 0), (3, 13806), (4, 18348), (2, 9170), (1, 4590)]

/-- Its closing parameters. -/
def params411 : ClosingParams :=
  ⟨⟨.b, map21⟩, 2, 48, 4, 50, 0, 305, .fwd, ⟨1700, 8650, false, false, false⟩, ⟨true, false, false, false⟩, 0⟩

/-- The slices' outcomes that it gives. -/
def outcomes411 : List SliceOutcome :=
  [.valid 4570 (some (-19)), .valid 4601 (some 12), .valid 4590 (some 1), .empty, .valid 4602 (some 13),
   .valid 4587 (some (-2)), .valid 4585 (some (-4)), .empty]

/-- The results of MEANS that it gives. -/
def means411 : MeansResults :=
  ⟨List.replicate 8 false, 8, ⟨some ⟨outcomes411, 6, false, some 4589⟩, none, none, none⟩⟩

/-- MEANS of the worked close-out. -/
theorem test_workedMeans : computeMeans bank411 params411 = means411 := by decide

/-- The BW records before FILTER. -/
def before411 : List SliceRecord :=
  [⟨-240, .valid, 0, .fresh, none⟩, ⟨160, .valid, 0, .fresh, none⟩, ⟨40, .valid, 0, .fresh, none⟩,
   ⟨80, .valid, 0, .fresh, none⟩, ⟨0, .unset, 0, .unwritten, none⟩, ⟨-48, .valid, 0, .fresh, none⟩,
   ⟨0, .valid, 0, .fresh, none⟩, ⟨0, .unset, 0, .unwritten, none⟩]

/-- The BW records after FILTER. -/
def after411 : List SliceRecord :=
  [⟨-252, .valid, 0, .fresh, some 4570⟩, ⟨166, .valid, 0, .fresh, some 4601⟩, ⟨36, .valid, 0, .fresh, some 4590⟩,
   ⟨80, .valid, 1, .held, none⟩, ⟨208, .valid, 0, .fresh, some 4602⟩, ⟨-45, .valid, 0, .fresh, some 4587⟩,
   ⟨-12, .valid, 0, .fresh, some 4585⟩, ⟨0, .unset, 0, .held, none⟩]

/-- FILTER of the worked close-out. -/
theorem test_workedFilter : filterChannel params411 means411.channels.bw before411 = after411 := by decide

/-- STATS of the worked close-out: the profile mean, Q, σ16, spread 18 and range 29. -/
theorem test_workedStats :
    profileMean (statsValues means411.excluded after411) = 26 ∧ meanSquare (statsValues means411.excluded after411) = 19929 ∧
    sigma16 19929 = 141 ∧ statsOf (statsValues means411.excluded after411) = some ⟨18, 29⟩ := by decide

/-- The short scan that follows: three valid slices of eight are below the quorum of four (4.11). -/
theorem test_shortScan : isShort 8 50 3 = true ∧ isShort 8 50 4 = false ∧ isShort 0 50 0 = true := by decide

/-! ### Monitors (8.6) -/

/-- The channel results that the worked evaluation stands on. -/
def results86 : ChannelResults := ⟨some 4589, some ⟨18, 29⟩, List.replicate 8 false, after411⟩

/-- The worked evaluation of monitors 0 to 4. -/
theorem test_workedMonitors :
    monitorOutcome ⟨true, .bw, .scanAvg, 4500, 4580, 2, .quiet⟩ results86 = (.above, none) ∧
    monitorOutcome ⟨true, .bw, .spread, 0, 15, 3, .strict⟩ results86 = (.above, none) ∧
    monitorOutcome ⟨true, .bw, .range, 0, 40, 2, .quiet⟩ results86 = (.within, none) ∧
    monitorOutcome ⟨true, .bw, .slice 0 7, -15, 12, 4, .quiet⟩ results86 = (.above, some 2) ∧
    monitorOutcome ⟨true, .bw, .slice 5 7, -10, 10, 2, .strict⟩ results86 = (.unordered, some 0) := by decide

/-- Monitor 0 of the worked evaluation: count 1 and persistence 2, so ABOVE trips it. -/
theorem test_workedMonitor_trips :
    Monitor.after ⟨⟨true, .bw, .scanAvg, 4500, 4580, 2, .quiet⟩, 1, .armed, none, none, none⟩ 42 .above none =
      ⟨⟨true, .bw, .scanAvg, 4500, 4580, 2, .quiet⟩, 2, .tripped, some .above, some 42, none⟩ := by decide

/-! ### Tracking (5.3) -/

/-- The table of worked tracking. -/
theorem test_workedTracking :
    let c : Context := { ctx305 with front := 600, back := 19400, tracking := some 300 }
    [none, some ⟨1100, 18650⟩, some ⟨700, 19300⟩, some ⟨9900, 10050⟩, some ⟨10000, 10020⟩].map (limitsOf 400 c) =
      [⟨600, 19400⟩, ⟨800, 18950⟩, ⟨600, 19400⟩, ⟨9600, 10350⟩, ⟨9700, 10320⟩] ∧
    limitsOf 400 { c with tracking := some 150 } (some ⟨10000, 10000⟩) = ⟨600, 19400⟩ := by decide

/-- Worked stall (5.5): 4398 against a reference of 4400 has stalled, 4400 against 5200 has not. -/
theorem test_workedStall :
    hasStalled (some 4400) 4398 = true ∧ hasStalled (some 4400) 4396 = false ∧ hasStalled (some 5200) 4400 = false := by
  decide

/-! ### One command at a time -/

/-- Reset values of R22, R90 and R133. -/
theorem test_powerOnReset :
    (after .powerOnReset scanning).frame.carriage = .unreferenced ∧
    (after .powerOnReset scanning).tables.stdf.staged = ⟨16384, 16384, 16384, 16384⟩ ∧
    (after .powerOnReset scanning).tables.sheet.trBreak = 900 := by decide

/-- Worked start of scanning (5.3): the drive referenced, MOVE 0 at 200 mm/s, PARKING, silence timer started. -/
theorem test_driveStatus_start :
    let t := after (.driveStatus ⟨true, false, false, 15800⟩) State.reset
    t.frame.carriage = .parking ∧ t.port.transmitter.sending = some ⟨0x11#8, 0, be16 0 ++ be16 200⟩ ∧
    t.frame.silence = some ⟨100, 0⟩ := by decide

/-- Worked start of scanning: the sample at 3, the drive at rest, parks the carriage. -/
theorem test_sample_arrivesAtPark :
    (frameTakes (sampleAt 3 .absent) (withDrive false (withTarget 0 200 (inCarriage .parking queued)))).frame.carriage =
      .parked := by decide

/-- Worked start of scanning: the sample at 1996 opens the traverse, and MOVE 8400 at 400 mm/s is sent. -/
theorem test_sample_opens :
    let s := withDrive false (withTarget 2000 400 (inCarriage (.traverse .positioning .fwd) queued))
    let t := frameTakes (sampleAt 1996 .absent) s
    t.frame.carriage = .traverse .scanning .fwd ∧ t.port.transmitter.sending = some ⟨0x11#8, 0, be16 8400 ++ be16 400⟩ ∧
    t.contexts = ⟨[], some ctx305⟩ ∧ t.frame.limits = some ⟨2000, 8400⟩ := by decide

/-- Worked start of scanning: the sample at 8401 reverses, and the close-out starts. -/
theorem test_sample_reverses :
    let t := frameTakes (sampleAt 8401 .absent) scanning
    t.frame.carriage = .traverse .scanning .rev ∧ t.port.transmitter.sending = some ⟨0x11#8, 0, be16 2000 ++ be16 400⟩ ∧
    t.closeOut.engine.code = 1 := by decide

/-- A newly fitted channel is enabled, one no longer fitted is not (R2). -/
theorem test_headAnnounce :
    (after (.headAnnounce ⟨true, false, true, true⟩) State.reset).tables.enables = ⟨true, false, true⟩ ∧
    (after (.headAnnounce ⟨false, true, true, true⟩)
      (after (.headAnnounce ⟨true, false, true, true⟩) State.reset)).tables.enables = ⟨false, true, true⟩ := by decide

/-- The fifth payload is dropped (R192). -/
theorem test_passUp_full :
    (after (.passUp [1#8]) { State.reset with mill := { State.reset.mill with
      passUp := [[1#8], [2#8], [3#8], [4#8]] } }).mill.passUp = [[1#8], [2#8], [3#8], [4#8]] := by decide

/-- A command joins as the newest (R178). -/
theorem test_command_joins :
    (after (.command ⟨9#8, 7#8, []⟩) (withCommand 8#8 [] State.reset)).handler.inbound =
      [⟨7#8, 8#8, []⟩, ⟨9#8, 7#8, []⟩] := by decide

/-- A failed frame leaves its receiver HUNTING (R191). -/
theorem test_frameCheckFailure :
    (after (.frameCheckFailure .mill .crc) (after (.syncPairFound .mill) State.reset)).mill.receiver = .hunting := by
  decide

/-- A sync pair puts the receiver into COLLECTING (R191). -/
theorem test_syncPairFound : (after (.syncPairFound .carriage) State.reset).port.receiver = .collecting := by decide

/-- A RESPONSE carries sequence, code and status (table 11-2), here REFUSED_STATE to START_SCAN in UNREFERENCED. -/
theorem test_millTransmit_response :
    (after .millTransmit (after .startScan (withCommand 7#8 [] State.reset))).mill.transmitter =
      ⟨some ⟨0x31#8, 0, [7#8, 7#8, 2#8]⟩, 1⟩ := by decide

/-- A sent response frees the handler (R177). -/
theorem test_millTransmit_frees :
    (after .millTransmit (after .startScan (withCommand 7#8 [] State.reset))).handler.phase = .ready := by decide

/-- A MOVE frame: kind 0x11, target and speed (table 11-6, R195). -/
theorem test_carriageTransmit_move :
    (after .carriageTransmit { State.reset with port := { State.reset.port with
      drive := some (.move 8400 400) } }).port.transmitter.sending =
      some ⟨0x11#8, 0, [0x20#8, 0xD0#8, 0x01#8, 0x90#8]⟩ := by decide

/-- Transmitters become idle when their frame is complete. -/
theorem test_frameCompleted :
    (after .millFrameCompleted (after .millTransmit (after .startScan (withCommand 7#8 [] State.reset)))).mill.transmitter =
      ⟨none, 1⟩ ∧
    (after .carriageFrameCompleted { State.reset with port := { State.reset.port with
      transmitter := ⟨some ⟨0x12#8, 0, []⟩, 1⟩ } }).port.transmitter = ⟨none, 1⟩ := by decide

/-- Silence while scanning: HALTED, STOP, and the traverse abandoned with HALT (R110, R112, R64). -/
theorem test_silence_halts :
    let t := after .silenceTimerExpiry { scanning with frame := { scanning.frame with silence := some ⟨100, 100⟩ } }
    t.frame.carriage = .halted ∧ t.port.transmitter.sending = some ⟨0x12#8, 0, []⟩ ∧ t.frame.scanOn = false ∧
    t.mill.reports = [.notice ⟨0, 0, .fwd, 305, ⟨.b, 21, 8⟩, .halt⟩] := by decide

/-- Worked stall: at 4398 from a reference of 4400 to target 0 the carriage halts. -/
theorem test_stall_halts :
    let s := inCarriage .parking State.reset
    (after .stallTimerExpiry { s with frame := { s.frame with
      target := some ⟨0, 200⟩, lastPosition := some 4398, stall := some ⟨⟨2000, 2000⟩, some 4400⟩ } }).frame.carriage =
      .halted := by decide

/-- A collection that times out stages nothing and parks (R36, R103). -/
theorem test_stdTimer :
    let s := inCarriage .standardizing State.reset
    let t := after .stdTimerExpiry { s with standardize := ⟨true, 13, some ⟨.const none, 256, 210, ⟨5000, 5000⟩⟩⟩ }
    t.standardize = ⟨false, 13, none⟩ ∧ t.frame.carriage = .parked ∧ t.port.transmitter.sending = some ⟨0x13#8, 0, [0#8]⟩ := by
  decide

/-- A probe from PARKED: MOVE to 8000 at 200 mm/s (R108). -/
theorem test_probeTimer :
    let s := inCarriage .parked State.reset
    let t := after .probeTimerExpiry { s with watch := { s.watch with state := .sheetOff, probe := some ⟨30000, 30000⟩ } }
    t.frame.carriage = .probing .moving ∧ t.port.transmitter.sending = some ⟨0x11#8, 0, be16 8000 ++ be16 200⟩ := by decide

/-- A dwell that saw no sheet goes back to park, and the probe timer starts anew (R145). -/
theorem test_probeDwell :
    let s := inCarriage (.probing .dwelling) State.reset
    let t := after .probeDwellExpiry { s with watch := { s.watch with state := .sheetOff, dwell := some ⟨3000, 3000⟩ } }
    t.frame.carriage = .parking ∧ t.watch.probe = some ⟨30000, 0⟩ ∧ t.watch.dwell = none := by decide

/-- The end of a break in PARK mode with standardize after break on, auto-resume off (R147). -/
theorem test_holdOff :
    let s := inCarriage (.probing .dwelling) State.reset
    let t := after .holdOffExpiry { s with watch := { s.watch with state := .threading, holdOff := some ⟨10000, 10000⟩ } }
    t.watch.state = .sheetOn ∧ t.frame.carriage = .parking ∧ t.standardize.request = true := by decide

/-- The run that was counted in THREADING is 0 after the hold-off, the detector active, and is held (R147 step 1; log 36). -/
theorem test_holdOff_run :
    let s := { scanning with
      tables := { scanning.tables with sheet := { scanning.tables.sheet with mode := .report } }
      watch := { scanning.watch with state := .threading, breakRun := 5, holdOff := some ⟨10000, 10000⟩ } }
    (after .holdOffExpiry s).watch = ⟨.sheetOn, none, 0, 0, none, none, none, some 5⟩ := by decide

/-- The expiry taken first and the declaration after it, in REPORT mode: a new break (R148). A tick between ends it. -/
theorem test_holdOff_thenDeclaration :
    let s := { scanning with
      tables := { scanning.tables with sheet := { scanning.tables.sheet with mode := .report } }
      watch := { scanning.watch with state := .threading, breakRun := 7, holdOff := some ⟨10000, 10000⟩ } }
    let t := after .holdOffExpiry s
    (watchTakes (sampleAt 5000 (.normal 900)) t).watch.state = .broken ∧
    (watchTakes (sampleAt 5000 (.normal 900)) (after .millisecondTick t)).watch.state = .sheetOn := by decide

/-- The same in PARK mode with auto-resume, at the probe position: the park request of the new break follows the start
request and clears the scan-on flag again (R148). -/
theorem test_holdOff_thenDeclaration_park :
    let s := { inCarriage (.probing .dwelling) queued with
      tables := { queued.tables with sheet := { queued.tables.sheet with mode := .park, autoResume := true } }
      watch := { queued.watch with state := .threading, breakRun := 7, holdOff := some ⟨10000, 10000⟩ } }
    let t := after .holdOffExpiry s
    let u := watchTakes (sampleAt 5000 (.normal 900)) t
    (t.watch.state = .sheetOn ∧ t.frame.carriage = .parking ∧ t.frame.scanOn = true) ∧
    (u.watch.state = .broken ∧ u.frame.carriage = .parking ∧ u.frame.scanOn = false) ∧
    (watchTakes (sampleAt 5000 (.normal 899)) t).watch.heldRun = none := by decide

/-- The same with N_BREAK = 1: no run stands at the expiry, and the one sample completes it (R135, R148), after a gap too. -/
theorem test_holdOff_thenDeclaration_one :
    let s := { inCarriage (.probing .dwelling) queued with
      tables := { queued.tables with sheet := { queued.tables.sheet with mode := .park, nBreak := 1 } }
      watch := { queued.watch with state := .threading, holdOff := some ⟨10000, 10000⟩ } }
    let t := after .holdOffExpiry s
    (watchTakes (sampleAt 5000 (.normal 900)) t).watch.state = .broken ∧
    (watchTakes { sampleAt 5000 (.normal 900) with afterGap := true } t).watch.state = .broken ∧
    (watchTakes (sampleAt 5000 (.normal 899)) t).watch.state = .sheetOn := by decide

/-- A PARK or a halt after the expiry ends the detector's activity and the held run: only a notice declares (R134). -/
theorem test_holdOff_thenPark :
    let s := { scanning with
      tables := { scanning.tables with sheet := { scanning.tables.sheet with mode := .report } }
      watch := { scanning.watch with state := .threading, breakRun := 7, holdOff := some ⟨10000, 10000⟩ } }
    let t := after .holdOffExpiry s
    let p := after .park (withCommand 0x09#8 [] t)
    (p.frame.carriage = .parking ∧ (watchTakes (sampleAt 5000 (.normal 900)) p).watch.state = .sheetOn) ∧
    (watchTakes (sampleAt 5000 (.normal 900)) (haltCarriage t)).watch.state = .sheetOn := by decide

/-- A BREAK raised by the watch before the frame controller takes the sample: PARKING with the old position is one of its
moments, as are TRAVERSE before it and PARKING with the new one after it (R166). -/
theorem test_raising_moments :
    let s := { scanning with watch := { scanning.watch with breakRun := 7 } }
    let x := sampleAt 5000 (.normal 900)
    let t := Consumer.takes x (Consumer.takes x s .breakWatch) .frameController
    t.conditions.raised.map (fun r => (r.moments t).map (fun v => (v.carriage, v.position))) =
      [[(.traverse, s.frame.lastPosition), (.parking, s.frame.lastPosition), (.parking, some 5000),
        (.parking, some 5000), (.parking, some 5000)]] := by decide

/-- One sample that turns the carriage and then declares a break: the MOVE to the far limit is sent by the idle
transmitter, and the MOVE to park waits behind it (R140, R192). -/
theorem test_sample_reversesThenDeclares :
    let s := { scanning with
      binning := ⟨some (traverse21 .fwd), some ⟨1720, 8640⟩⟩, watch := { scanning.watch with breakRun := 7 } }
    let x := sampleAt 8401 (.normal 900)
    let t := watchTakes x (frameTakes x s)
    t.port.transmitter.sending = some ⟨0x11#8, 0, be16 2000 ++ be16 400⟩ ∧ t.port.drive = some (.move 0 200) ∧
    t.frame.carriage = .parking ∧ t.watch.state = .broken := by decide

/-- A break declared while scanning in PARK mode: the eighth break sample (7.1 defaults). -/
theorem test_sample_declaresBreak :
    let s := { scanning with watch := { scanning.watch with breakRun := 7 } }
    let t := watchTakes (sampleAt 5000 (.normal 900)) s
    t.watch.state = .broken ∧ t.frame.carriage = .parking ∧ t.binning.openTraverse = none := by decide

/-- The state of the worked close-out (4.11) with its engine in a phase. -/
def closing (e : Engine) (bw : List SliceRecord) : State :=
  { State.reset with
    closeOut := ⟨e, 41⟩
    standardize := ⟨false, 5, none⟩
    contexts := ⟨[], some ctx305⟩
    binning := ⟨none, some ⟨1720, 8640⟩⟩
    profile := { State.reset.profile with
      map := some ⟨.b, 21, 8⟩, records := ⟨bw, List.replicate 8 .cleared, List.replicate 8 .cleared,
        List.replicate 8 .cleared⟩ } }

theorem test_meansComplete :
    (after .meansComplete (closing (.means bank411 params411) before411)).closeOut.engine =
      .filter bank411 params411 means411 := by decide

theorem test_filterComplete :
    (after .filterComplete (closing (.filter bank411 params411 means411) before411)).profile.records.bw =
      after411 := by decide

/-- With the profile map none, as a reset leaves it, FILTER adopts the traverse map (R71, R79). -/
theorem test_filterComplete_adopts :
    let t := (after .filterComplete { State.reset with
      closeOut := ⟨.filter bank411 params411 means411, 0⟩ }).profile
    t.map = some ⟨.b, 21, 8⟩ ∧ t.note = some .cleared := by decide

/-- After a reset the action of the first opening is forced (R121, R122): the first close-out finds its own map, cleared
records and a note that sets PROFILE_CLEARED, as R79 has it, and does not adopt again (log 35). -/
theorem test_firstTake :
    let p (a : ProfileAction) := (takeAction ⟨a, ⟨.b, 21, 8⟩⟩ State.reset).profile
    ((p .keep).note = some .cleared ∧ (p .clear).note = some .cleared ∧ (p (.restore 2)).note = some .restoreFailed) ∧
    ∀ a ∈ [ProfileAction.keep, .clear, .restore 2],
      (p a).map = some ⟨.b, 21, 8⟩ ∧ (p a).records = .const (List.replicate 8 .cleared) ∧
      adopt ⟨.b, 21, 8⟩ (p a) = p a := by decide

/-- The statistics that the worked close-out gives. -/
def stats411 : StatsResults := ⟨some ⟨18, 29⟩, none, none, none⟩

theorem test_statsComplete :
    (after .statsComplete (closing (.stats bank411 params411 means411) after411)).closeOut.engine =
      .monitors bank411 params411 means411 stats411 := by decide

/-- Monitor 1 of 8.6: count 0 to 1, ARMED, last scan 42. -/
theorem test_monitorsComplete :
    let m : MonitorRecord := ⟨true, .bw, .spread, 0, 15, 3, .strict⟩
    (after .monitorsComplete { closing (.monitors bank411 params411 means411 stats411) after411 with
      monitors := [.fresh m] }).monitors = [⟨m, 1, .armed, some .above, some 42, none⟩] := by decide

/-- REPORT of the worked close-out: scan 42, last good edges, counter 6, one trend record. -/
theorem test_reportComplete :
    let t := after .reportComplete (closing (.report bank411 params411 means411 stats411 []) after411)
    t.closeOut = ⟨.idle, 42⟩ ∧ t.binning.lastGood = some ⟨1700, 8650⟩ ∧ t.standardize.counter = 6 ∧
    t.profile.trend = [⟨42, 0, .fwd, 305, ⟨.b, 21, 8⟩, false, false, false, 1700, 8650,
      ⟨some ⟨false, 6, some 4589, some ⟨18, 29⟩⟩, none, none, none⟩⟩] := by decide

/-- The REPORT frame of the worked close-out, byte by byte (tables 11-4, 11-5). -/
theorem test_reportComplete_frame :
    (after .reportComplete (closing (.report bank411 params411 means411 stats411 []) after411)).mill.reports.map
      ReportFrame.payload =
      [[0x00#8, 0x00#8, 0x2A#8, 0x00#8, 0x00#8, 0x00#8, 0x00#8, 0x00#8, 0x00#8, 0x01#8, 0x31#8, 0x01#8, 0x00#8, 0x15#8,
        0x00#8, 0x08#8, 0x06#8, 0xA4#8, 0x21#8, 0xCA#8, 0x00#8, 0x00#8, 0x00#8, 0x00#8, 0x08#8, 0x00#8, 0x06#8, 0x07#8,
        0x11#8, 0xED#8, 0x00#8, 0x00#8, 0x12#8, 0x00#8, 0x00#8, 0x1D#8, 0x00#8, 0x00#8, 0x00#8,
        0xFF#8, 0xFF#8, 0x04#8, 0x01#8, 0x00#8, 0x00#8, 0xA6#8, 0x01#8, 0x00#8, 0x00#8, 0x24#8, 0x01#8,
        0x00#8, 0x00#8, 0x50#8, 0x05#8, 0x00#8, 0x00#8, 0xD0#8, 0x01#8, 0xFF#8, 0xFF#8, 0xD3#8, 0x01#8,
        0xFF#8, 0xFF#8, 0xF4#8, 0x01#8, 0x00#8, 0x00#8, 0x00#8, 0x04#8]] := by decide

/-- The status record after reset: 79 bytes, the first UNREFERENCED (table 11-12). -/
theorem test_readStatus :
    (answerOf .readStatus 1#8 [] State.reset).map (fun a => (a.1, a.2.length, a.2.head?)) =
      some (.ok, 79, some 0#8) := by decide

/-- FRAME defaults (5.1) and an absent map (table 11-11). -/
theorem test_readTable :
    answerOf .readTable 2#8 [6#8] State.reset = some (.ok, [0x00#8, 0x00#8, 0x1F#8, 0x40#8, 0x01#8, 0x90#8, 0x00#8, 0x64#8,
      0x07#8, 0xD0#8, 0x01#8, 0x00#8, 0x13#8, 0x88#8]) ∧
    answerOf .readTable 2#8 [3#8, 1#8] State.reset = some (.ok, [1#8, 0#8]) ∧
    answerOf .readTable 2#8 [9#8] State.reset = some (.badArgument, []) ∧
    answerOf .readTable 2#8 [3#8] State.reset = some (.malformed, []) := by decide

/-- The curve of 1.5 written, and one whose counts do not rise. -/
theorem test_writeCurve :
    (after .writeTableCurve (withCommand 3#8 [0#8, 0#8, 3#8, 0xA0#8, 0x28#8, 0x01#8, 0x2C#8, 0x27#8, 0x10#8, 0x23#8, 0x28#8,
      0x75#8, 0x30#8, 0x17#8, 0x70#8, 0xC3#8, 0x50#8, 0x05#8, 0xDC#8] State.reset)).tables.curve =
      ⟨⟨some curve15, none, none, none⟩, .const none, 1, 0⟩ ∧
    answerOf .writeTableCurve 3#8 [0#8, 0#8, 2#8, 0#8, 1#8, 0#8, 0#8, 0#8, 5#8, 0#8, 0#8, 0#8, 5#8, 0#8, 0#8] State.reset =
      some (.badArgument, []) := by decide

/-- Bias entry 7 enabled for DW with −40; a bias of 2001 refused. -/
theorem test_writeBias :
    (after .writeTableBias (withCommand 3#8 [1#8, 7#8, 1#8, 1#8, 4#8, 0xFF#8, 0xD8#8] State.reset)).tables.bias.staged[7]? =
      some ⟨true, .dw, -40⟩ ∧
    answerOf .writeTableBias 3#8 [1#8, 0#8, 1#8, 1#8, 0#8, 0x07#8, 0xD1#8] State.reset = some (.badArgument, []) := by decide

/-- The TR factor written; 8191 refused; LOCKED under the lock. -/
theorem test_writeStdf :
    (after .writeTableStdf (withCommand 3#8 [2#8, 3#8, 1#8, 0x40#8, 0xA1#8] State.reset)).tables.stdf.staged =
      ⟨16384, 16384, 16384, 16545⟩ ∧
    answerOf .writeTableStdf 3#8 [2#8, 0#8, 1#8, 0x1F#8, 0xFF#8] State.reset = some (.badArgument, []) ∧
    answerOf .writeTableStdf 3#8 [2#8, 0#8, 1#8, 0x40#8, 0x00#8] (after .lockCalibration (withCommand 4#8 [] State.reset)) =
      some (.locked, []) := by decide

/-- The bytes of map B of 4.11. -/
def bytes21 : List Byte :=
  [0x00#8, 0x15#8, 0x00#8, 0x08#8, 0x00#8, 0x09#8, 0x00#8, 0x07#8, 0xD0#8, 0x0A#8, 0xF0#8, 0x0E#8, 0x10#8, 0x11#8, 0x30#8,
   0x14#8, 0x50#8, 0x17#8, 0x70#8, 0x1A#8, 0x90#8, 0x1D#8, 0xB0#8, 0x20#8, 0xD0#8]

theorem test_writeMap :
    (after .writeTableMap (withCommand 3#8 (3#8 :: 1#8 :: bytes21) State.reset)).tables.mapB = some map21 ∧
    answerOf .writeTableMap 3#8 (3#8 :: 2#8 :: bytes21) State.reset = some (.badArgument, []) := by decide

/-- The map in effect is not written while the carriage scans (R45). -/
theorem test_writeMap_held : answerOf .writeTableMap 3#8 (3#8 :: 1#8 :: bytes21) scanning = some (.refusedState, []) := by
  decide

/-- Monitor 3 of 8.6. -/
theorem test_writeMonitor :
    (after .writeTableMonitor (withCommand 3#8 [4#8, 3#8, 1#8, 1#8, 0#8, 3#8, 0#8, 0#8, 0#8, 7#8, 0xFF#8, 0xFF#8, 0xFF#8,
      0xF1#8, 0#8, 0#8, 0#8, 12#8, 4#8, 0#8] State.reset)).monitors[3]? =
      some (.fresh ⟨true, .bw, .slice 0 7, -15, 12, 4, .quiet⟩) := by decide

/-- SHEET to LATCHED, and a second write refused LOCKED (R132). -/
theorem test_writeSheet :
    let args := [5#8, 2#8, 0x03#8, 0x84#8, 8#8, 0#8, 30#8, 3#8, 10#8, 1#8, 0#8, 0x02#8, 0xBC#8, 3#8]
    (after .writeTableSheet (withCommand 3#8 args State.reset)).tables.sheet.mode = .latched ∧
    answerOf .writeTableSheet 3#8 args (after .writeTableSheet (withCommand 3#8 args State.reset)) =
      some (.locked, []) := by decide

/-- FRAME: the park position 20; a silence period of 9 ms refused. -/
theorem test_writeFrame :
    (after .writeTableFrame (withCommand 3#8 [6#8, 0#8, 20#8, 0x1F#8, 0x40#8, 1#8, 0x90#8, 0#8, 100#8, 0x07#8, 0xD0#8, 1#8, 0#8,
      0x13#8, 0x88#8] State.reset)).tables.frame.park = 20 ∧
    answerOf .writeTableFrame 3#8 [6#8, 0#8, 20#8, 0x1F#8, 0x40#8, 1#8, 0x90#8, 0#8, 9#8, 0x07#8, 0xD0#8, 1#8, 0#8,
      0x13#8, 0x88#8] State.reset = some (.badArgument, []) := by decide

/-- A channel that is not fitted stores enable 0 (R6). -/
theorem test_writeChannel :
    (after .writeTableChannel (withCommand 3#8 [7#8, 1#8, 1#8, 0#8]
      (after (.headAnnounce ⟨true, false, true, true⟩) State.reset))).tables.enables = ⟨true, false, false⟩ := by decide

/-- A slot of 8 slices; 7 slices refused. -/
theorem test_writeSlotHeader :
    (after .writeTableSlotHeader (withCommand 3#8 [8#8, 2#8, 0x80#8, 1#8, 0x31#8, 0#8, 8#8] State.reset)).profile.slots[2]? =
      some (some ⟨305, 8, .const none⟩) ∧
    answerOf .writeTableSlotHeader 3#8 [8#8, 2#8, 0x80#8, 1#8, 0x31#8, 0#8, 7#8] State.reset =
      some (.badArgument, []) := by decide

/-- A state with a filled slot 0 of 8 slices. -/
def withSlot : State :=
  after .writeTableSlotHeader (withCommand 3#8 [8#8, 0#8, 0x80#8, 1#8, 0x31#8, 0#8, 8#8] State.reset)

/-- An image of eight entries, F −240 VALID, for BW; SLOT_EMPTY for a slot without header. -/
theorem test_writeSlotImage :
    let args (k : Byte) : List Byte :=
      [8#8, k, 0#8, 0#8, 8#8] ++ (List.replicate 8 [0xFF#8, 0xFF#8, 0x10#8, 0x01#8]).flatten
    (after .writeTableSlotImage (withCommand 3#8 (args 0#8) withSlot)).profile.slots[0]? =
      some (some ⟨305, 8, ⟨some (List.replicate 8 ⟨-240, .valid⟩), none, none, none⟩⟩) ∧
    answerOf .writeTableSlotImage 3#8 (args 1#8) withSlot = some (.slotEmpty, []) := by decide

theorem test_writeUnknownRegion :
    answerOf .writeTableUnknownRegion 3#8 [9#8, 1#8] State.reset = some (.badArgument, []) ∧
    answerOf .writeTableUnknownRegion 3#8 [] State.reset = some (.malformed, []) := by decide

theorem test_lockCalibration : (after .lockCalibration (withCommand 4#8 [] State.reset)).tables.locked = true := by decide

/-- The context of 5.3 pushed (table 11-10). -/
theorem test_pushContext :
    (after .pushContext (withCommand 5#8 [1#8, 0x31#8, 1#8, 0x07#8, 0xD0#8, 0x20#8, 0xD0#8, 0x01#8, 0x90#8, 2#8, 0#8, 48#8, 4#8,
      50#8, 0#8, 12#8, 0#8, 0#8] { queued with contexts := ⟨[], none⟩ })).contexts.queue = [ctx305] := by decide

/-- A speed of 49 mm/s is clamped to 50 (R114 step 2); a margin without tracking is malformed. -/
theorem test_pushContext_clamps :
    (after .pushContext (withCommand 5#8 [1#8, 0x31#8, 1#8, 0x07#8, 0xD0#8, 0x20#8, 0xD0#8, 0#8, 49#8, 2#8, 0#8, 48#8, 4#8,
      50#8, 0#8, 12#8, 0#8, 0#8] { queued with contexts := ⟨[], none⟩ })).contexts.queue = [{ ctx305 with speed := 50 }] ∧
    answerOf .pushContext 5#8 [1#8, 0x31#8, 1#8, 0x07#8, 0xD0#8, 0x20#8, 0xD0#8, 0#8, 49#8, 2#8, 0#8, 48#8, 4#8,
      50#8, 0#8, 12#8, 0#8, 0#8, 0#8, 1#8] queued = some (.malformed, []) := by decide

theorem test_flushQueue : (after .flushQueue (withCommand 6#8 [] queued)).contexts = ⟨[], none⟩ := by decide

/-- Worked start of scanning: MOVE 2000 at 400 mm/s, POSITIONING, scan-on set. -/
theorem test_startScan :
    let t := after .startScan (withCommand 7#8 [] (inCarriage .parked queued))
    t.frame.carriage = .traverse .positioning .fwd ∧ t.port.transmitter.sending = some ⟨0x11#8, 0, be16 2000 ++ be16 400⟩ ∧ t.frame.scanOn = true := by
  decide

/-- Without a context NO_CONTEXT; under the pending summary ALARM_PENDING. -/
theorem test_startScan_refused :
    answerOf .startScan 7#8 [] (inCarriage .parked State.reset) = some (.noContext, []) ∧
    answerOf .startScan 7#8 [] { queued with conditions := { queued.conditions with summary := true } } =
      some (.alarmPending, []) := by decide

/-- STOP_SCAN while scanning: stop pending. -/
theorem test_stopScan :
    let t := after .stopScan (withCommand 8#8 [] scanning)
    t.frame.carriage = .traverse .scanning .fwd ∧ t.frame.scanOn = false := by decide

/-- PARK while scanning: the traverse abandoned with PARK (R96). -/
theorem test_park :
    let t := after .park (withCommand 9#8 [] scanning)
    t.frame.carriage = .parking ∧ t.mill.reports = [.notice ⟨0, 0, .fwd, 305, ⟨.b, 21, 8⟩, .park⟩] := by decide

theorem test_resume :
    (after .resume (withCommand 10#8 [] (inCarriage (.fixed .dwelling) queued))).frame.carriage =
      .traverse .positioning .fwd := by decide

/-- A fixed point at 5000, at 200 mm/s with no context in effect (R91). -/
theorem test_fixedPoint :
    let t := after .fixedPoint (withCommand 11#8 [0x13#8, 0x88#8] (inCarriage .parked queued))
    t.frame.carriage = .fixed .moving ∧ t.port.transmitter.sending = some ⟨0x11#8, 0, be16 5000 ++ be16 200⟩ ∧ t.frame.fixedPoint = some 5000 := by decide

theorem test_standardize :
    let t := after .standardize (withCommand 12#8 [] (inCarriage .parked queued))
    t.frame.carriage = .standardizing ∧ t.port.transmitter.sending = some ⟨0x13#8, 0, [1#8]⟩ := by decide

/-- The mean of 10 and 11 is 11; a channel that is not fitted is NOT_FITTED. -/
theorem test_readFixed :
    let s := after (.headAnnounce ⟨true, false, false, false⟩) (inCarriage (.fixed .dwelling) State.reset)
    answerOf .readFixed 13#8 [0#8] { s with frame := { s.frame with
      fixedPoint := some 5000, windows := ⟨[10, 11], [], [], []⟩ } } =
      some (.ok, [1#8, 0x13#8, 0x88#8, 2#8, 1#8, 0#8, 11#8]) ∧
    answerOf .readFixed 13#8 [1#8] s = some (.notFitted, []) := by decide

/-- The first and the fourth slice record of 4.11 as READ_PROFILE returns them. -/
theorem test_readProfile :
    let s := after (.headAnnounce ⟨true, false, false, false⟩) (closing .idle [⟨-252, .valid, 0, .fresh, some 4570⟩,
      ⟨80, .valid, 1, .held, none⟩])
    answerOf .readProfile 14#8 [0#8] s = some (.ok, [1#8, 0#8, 21#8, 0#8, 8#8, 0#8, 41#8,
      0xFF#8, 0xFF#8, 0x04#8, 0x01#8, 0#8, 1#8, 0x11#8, 0xDA#8, 0#8, 0#8, 0x50#8, 0x05#8, 1#8, 0#8, 0#8, 0#8]) := by decide

theorem test_readTrend :
    answerOf .readTrend 15#8 [64#8] State.reset = some (.ok, [0#8]) ∧
    answerOf .readTrend 15#8 [65#8] State.reset = some (.badArgument, []) := by decide

/-- The profile saved and restored: state and F come back, age 0 and UNWRITTEN (R123, R126). -/
theorem test_saveProfile :
    ((after .saveProfile (withCommand 0x11#8 [1#8, 1#8, 0x31#8] (closing .idle after411))).profile.slots.getD 1 none).map
      (fun x => (x.tag, x.sliceCount, x.images.bw.map (fun l => l.headD ⟨0, .unset⟩))) =
      some (305, 8, some ⟨-252, .valid⟩) := by decide

theorem test_restoreProfile :
    let s := after .saveProfile (withCommand 0x11#8 [1#8, 1#8, 0x31#8] (closing .idle after411))
    (after .restoreProfile (withCommand 0x12#8 [1#8] s)).profile.records.bw.head? =
      some ⟨-252, .valid, 0, .unwritten, none⟩ ∧
    answerOf .restoreProfile 0x12#8 [0#8] s = some (.slotEmpty, []) := by decide

theorem test_clearProfile :
    (after .clearProfile (withCommand 0x13#8 [] (closing .idle after411))).profile.records.bw =
      List.replicate 8 ⟨0, .unset, 0, .unwritten, none⟩ := by decide

/-- A RESTORED notice in BREAK starts the hold-off of 10 s (R136, R144). -/
theorem test_sheetNotice :
    (after .sheetNotice (withCommand 0x14#8 [1#8] { State.reset with watch := { State.reset.watch with
      state := .broken } })).watch.holdOff = some ⟨10000, 0⟩ := by decide

/-- The flags in three bytes, and the summary cleared (R170, table 11-2). -/
theorem test_ackAlarm :
    let s := { State.reset with conditions := { State.reset.conditions with flags := 0x10081#17, summary := true } }
    answerOf .ackAlarm 0x15#8 [] s = some (.ok, [0x01#8, 0x00#8, 0x81#8]) ∧
    (after .ackAlarm (withCommand 0x15#8 [] s)).conditions.summary = false := by decide

theorem test_clearConditions :
    let s := { State.reset with conditions := { State.reset.conditions with flags := 0x10081#17 } }
    (after .clearConditions (withCommand 0x16#8 [0#8, 0#8, 1#8] s)).conditions.flags = 0x10080#17 ∧
    answerOf .clearConditions 0x16#8 [2#8, 0#8, 0#8] s = some (.badArgument, []) := by decide

theorem test_setMask :
    (after .setMask (withCommand 0x17#8 [1#8, 0xFF#8, 0xFF#8] State.reset)).conditions.unmasked = 0x1FFFF#17 := by decide

theorem test_clearCounters :
    (after .clearCounters (withCommand 0x18#8 [] { State.reset with conditions := { State.reset.conditions with
      counters := ⟨1, 2, 3, 4, 5, 6, 7, 8⟩ } })).conditions.counters = ⟨0, 0, 0, 0, 0, 0, 0, 0⟩ := by decide

/-- A decimation above 255 is stored as 255 (R188). -/
theorem test_setStream : answerOf .setStream 0x19#8 [1#8, 0#8] State.reset = some (.ok, [0xFF#8]) := by decide

theorem test_passDown :
    (after .passDown (withCommand 0x1A#8 [5#8, 6#8] State.reset)).port.passDown = [[5#8, 6#8]] ∧
    answerOf .passDown 0x1A#8 [] State.reset = some (.malformed, []) := by decide

/-- RESTART while scanning sends the carriage to park and keeps the tables (R113, R186). -/
theorem test_restart :
    let t := after .restart (withCommand 0x1B#8 [] scanning)
    t.frame.carriage = .parking ∧ t.port.transmitter.sending = some ⟨0x11#8, 0, be16 0 ++ be16 200⟩ ∧
    t.tables.mapB = some map21 ∧ t.contexts = ⟨[], none⟩ := by decide

/-- The clock wraps (R186). -/
theorem test_millisecondTick :
    (after .millisecondTick { scanning with clock := 4294967295 }).clock = 0 ∧
    (after .millisecondTick scanning).frame.silence = some ⟨100, 1⟩ := by decide

theorem test_unknownCommandCode :
    answerOf .unknownCommandCode 0x10#8 [] State.reset = some (.malformed, []) ∧
    answerOf .unknownCommandCode 0x1C#8 [] State.reset = some (.malformed, []) := by decide

/-! ### Witnesses: states and operands that meet the hypotheses of the statements, clause by clause -/

/-- The whole machine: every invariant holds in a state that scans, and a step from it answers a next state. -/
theorem witness_stepKeeps :
    let s := scanning.withPending [.millisecondTick]
    CarriageCoupled s ∧ ScanGoverned s ∧ WatchQuiet s ∧ WithinCapacity s ∧ HandlerAnswers s ∧ TablesValid s ∧
    SlicesAgree s ∧ ∃ t, step s = .next t := by
  refine ⟨by decide, by decide, by decide, by decide, trivial, by decide, by decide, _, rfl⟩

theorem witness_restart (c : Carriage) :
    AtHand ⟨0x07#8, 0x1B#8, []⟩ [] (withCommand 0x1B#8 [] (inCarriage c scanning)) ∧
    (withCommand 0x1B#8 [] (inCarriage c scanning)).frame.carriage = c := ⟨⟨rfl, rfl⟩, rfl⟩

theorem witness_tick : (0 < 1 ∧ 1 ≤ 1) ∧ Timer.due ⟨1, 0⟩ = false ∧ Timer.due ⟨1, 1⟩ = true := by decide


/-- A state at rest 8 counts from a fixed point, with staged copies that differ from those in effect. -/
def dwellStarts : State :=
  let s := withDrive false (withTarget 5000 200 (inCarriage (.fixed .moving) State.reset))
  { s with tables := { s.tables with
      curve := ⟨⟨some curve15, none, none, none⟩, .const none, 1, 0⟩
      bias := ⟨List.replicate 8 ⟨true, .bw, 5⟩, Tables.reset.bias.inEffect, 1, 0⟩
      stdf := ⟨.const 16545, .const 16384, 1, 0⟩ } }

/-- A collection one sample short of its target, whose BW participant will pass with another factor than the staged. -/
def lastSample : State :=
  { inCarriage .standardizing queued with
    standardize := ⟨true, 13, some ⟨⟨some ⟨1100, 1000, 255000, 255⟩, none, none, none⟩, 256, 255, ⟨5000, 0⟩⟩⟩ }

/-- What every consumer order of a sample leaves of the tables, the sample leaves of them. -/
theorem sample_tables {P : Tables → Prop} (f : SampleFrame) (s : State)
    (h : ∀ k < 24, P (sampleIn (consumerOrder k) f (carriageDelivered { s with choices := s.choices + 1 })).tables) :
    ∃ t, exec (.sample f) s = .next t ∧ P t.tables := by
  refine ⟨_, rfl, ?_⟩
  rw [settle_tables]
  unfold takeSample
  rw [consumerOrder_mod]
  exact h _ (Nat.mod_lt _ (by decide))

/-- A sample whose commit changes every copy in effect, whatever the order of the consumers. -/
theorem witness_calibration_inEffect :
    CarriageCoupled dwellStarts ∧ 16 ≤ dwellStarts.tables.frame.s ∧
    ∃ t, exec (.sample (frameAt 5008)) dwellStarts = .next t ∧
      (t.tables.curve.inEffect ≠ dwellStarts.tables.curve.inEffect ∧
        t.tables.bias.inEffect ≠ dwellStarts.tables.bias.inEffect ∧
        t.tables.stdf.inEffect ≠ dwellStarts.tables.stdf.inEffect) :=
  ⟨by decide, by decide, sample_tables (P := fun u => u.curve.inEffect ≠ dwellStarts.tables.curve.inEffect ∧
    u.bias.inEffect ≠ dwellStarts.tables.bias.inEffect ∧ u.stdf.inEffect ≠ dwellStarts.tables.stdf.inEffect) _ _
    (by decide)⟩

/-- A reference sample that ends a passing collection changes the staged factors, whatever the order of the consumers. -/
theorem witness_calibration_factors :
    CarriageCoupled lastSample ∧ 16 ≤ lastSample.tables.frame.s ∧
    ∃ t, exec (.sample (frameAt 0 true)) lastSample = .next t ∧ t.tables.stdf.staged ≠ lastSample.tables.stdf.staged :=
  ⟨by decide, by decide, sample_tables (P := fun u => u.stdf.staged ≠ lastSample.tables.stdf.staged) _ _ (by decide)⟩

/-- Writes that change a staged region. -/
theorem witness_calibration_staged :
    let c := withCommand 3#8 [0#8, 0#8, 2#8, 0#8, 1#8, 0#8, 0#8, 0#8, 0#8, 0#8, 0#8, 0#8, 5#8, 0#8, 0#8] State.reset
    let b := withCommand 3#8 [1#8, 7#8, 1#8, 1#8, 4#8, 0xFF#8, 0xD8#8] State.reset
    let f := withCommand 3#8 [2#8, 3#8, 1#8, 0x40#8, 0xA1#8] State.reset
    (∃ t, exec .writeTableCurve c = .next t ∧ t.tables.curve.staged ≠ c.tables.curve.staged) ∧
    (∃ t, exec .writeTableBias b = .next t ∧ t.tables.bias.staged ≠ b.tables.bias.staged) ∧
    (∃ t, exec .writeTableStdf f = .next t ∧ t.tables.stdf.staged ≠ f.tables.stdf.staged) :=
  ⟨⟨_, rfl, by decide⟩, ⟨_, rfl, by decide⟩, ⟨_, rfl, by decide⟩⟩

/-- What is held stays held: lock, LATCHED, a flag and the summary, over a step that answers a next state. -/
theorem witness_held :
    let s : State := { State.reset with
      tables := { State.reset.tables with locked := true, sheet := { State.reset.tables.sheet with mode := .latched } }
      conditions := { State.reset.conditions with flags := 1#17, summary := true } }
    (∃ t, exec .millisecondTick s = .next t) ∧ s.tables.locked = true ∧ s.tables.sheet.mode = .latched ∧
    s.conditions.flag .sheetBreak = true ∧ s.conditions.summary = true := ⟨⟨_, rfl⟩, by decide⟩

/-- Slots, mask, records and the context in effect change by their owners. -/
theorem witness_held_changes :
    let a := withCommand 0x11#8 [1#8, 1#8, 0x31#8] (closing .idle after411)
    let m := withCommand 0x17#8 [0#8, 0#8, 0#8] State.reset
    let w := withCommand 3#8 [4#8, 0#8, 1#8, 1#8, 0#8, 0#8, 0#8, 0#8, 0#8, 0#8, 0#8, 0#8, 0#8, 1#8, 1#8, 0#8] State.reset
    let r := withCommand 0x1B#8 [] scanning
    (∃ t, exec .saveProfile a = .next t ∧ t.profile.slots ≠ a.profile.slots) ∧
    (∃ t, exec .setMask m = .next t ∧ t.conditions.unmasked ≠ m.conditions.unmasked) ∧
    (∃ t, exec .writeTableMonitor w = .next t ∧ t.monitors.map Monitor.record ≠ w.monitors.map Monitor.record) ∧
    (∃ t, exec .restart r = .next t ∧ t.contexts.inEffect ≠ r.contexts.inEffect) :=
  ⟨⟨_, rfl, by decide⟩, ⟨_, rfl, by decide⟩, ⟨_, rfl, by decide⟩, ⟨_, rfl, by decide⟩⟩

/-! The links. -/

/-- Events at the ends of their ranges that frames carry. -/
theorem witness_receiver :
    let x : SampleFrame := ⟨255, 32767, true, .rev, .const true, .const 65535⟩
    let c : CommandFrame := ⟨0xFF#8, 0x07#8, []⟩
    (Instr.wellFormed (.sample x) = true ∧ Instr.frame (.sample x) = some (.carriage, 0x01#8, x.payload)) ∧
    (Instr.wellFormed (.headAnnounce (.const true)) = true ∧ (Instr.frame (.headAnnounce (.const true))).isSome = true) ∧
    (Instr.wellFormed (.driveStatus ⟨true, true, true, 65535⟩) = true ∧
      (Instr.frame (.driveStatus ⟨true, true, true, 65535⟩)).isSome = true) ∧
    (Instr.wellFormed (.passUp [0#8]) = true ∧ (Instr.frame (.passUp [0#8])).isSome = true) ∧
    (Instr.wellFormed (.command c) = true ∧ Instr.frame (.command c) = some (.mill, 0x21#8, [0x07#8]) ∧
      (∀ f, Instr.command c = .command f → (0xFF#8 : Byte) = f.sequence)) :=
  ⟨by decide, by decide, by decide, by decide, by decide, by decide, fun f h => by cases h; rfl⟩

/-- The longest payloads: 256 bytes up, 4096 bytes of a command. -/
theorem witness_receiver_longest :
    Instr.wellFormed (.passUp (List.replicate 256 0#8)) = true ∧
    Instr.wellFormed (.command ⟨0#8, 0#8, List.replicate 4095 0#8⟩) = true := by
  constructor
  · show (decide (1 ≤ (List.replicate 256 0#8).length) && decide ((List.replicate 256 0#8).length ≤ 256)) = true
    rw [List.length_replicate]; rfl
  · show decide ((List.replicate 4095 0#8).length + 1 ≤ 4096) = true
    rw [List.length_replicate]; rfl

theorem witness_receivers :
    let s := after (.syncPairFound .mill) (after (.syncPairFound .carriage) State.reset)
    State.reset.port.receiver = .hunting ∧ State.reset.mill.receiver = .hunting ∧ s.port.receiver = .collecting ∧
    s.mill.receiver = .collecting ∧ s.conditions.raised = [] := by decide

/-- Queues one short of full and full. -/
theorem witness_arrivals :
    let q (n : Nat) : State := { State.reset with
      handler := ⟨List.replicate n ⟨0#8, 1#8, []⟩, none, .ready⟩
      mill := { State.reset.mill with passUp := List.replicate n [0#8] } }
    (q 7).conditions.raised = [] ∧ (q 7).handler.inbound.length < 8 ∧ 8 ≤ (q 8).handler.inbound.length ∧
    (q 3).mill.passUp.length < 4 ∧ 4 ≤ (q 4).mill.passUp.length := by decide

/-- An alarm, a response, a pass-up payload, a report frame and a stream frame, each alone. -/
theorem witness_arbiter :
    let a := { State.reset with conditions := { State.reset.conditions with
      alarms := [alarmNow .range State.reset] } }
    let m (f : MillPort → MillPort) : State := { State.reset with mill := f State.reset.mill }
    let busy := m (fun p => { p with transmitter := ⟨some ⟨0x34#8, 0, []⟩, 1⟩ })
    let r := m (fun p => { p with response := some ⟨0#8, 1#8, .ok, []⟩ })
    let u := m (fun p => { p with passUp := [[1#8]] })
    let g := m (fun p => { p with reports := [.notice ⟨0, 0, .fwd, 305, ⟨.b, 21, 8⟩, .halt⟩] })
    let x := m (fun p => { p with stream := some ⟨sampleAt 0 .absent, none, 0⟩ })
    busy.mill.transmitter.sending ≠ none ∧
    (a.mill.transmitter.sending = none ∧ a.conditions.alarms ≠ []) ∧
    (r.mill.transmitter.sending = none ∧ r.conditions.alarms = [] ∧ r.mill.response ≠ none) ∧
    (u.conditions.alarms = [] ∧ u.mill.response = none ∧ u.mill.passUp ≠ []) ∧
    (g.conditions.alarms = [] ∧ g.mill.response = none ∧ g.mill.passUp = [] ∧ g.mill.reports ≠ []) ∧
    (x.conditions.alarms = [] ∧ x.mill.response = none ∧ x.mill.passUp = [] ∧ x.mill.reports = [] ∧ x.mill.stream ≠ none) ∧
    (State.reset.mill.reports = [] ∧ State.reset.mill.stream = none) := by decide

/-- A port whose transmitter sends a STOP. -/
def busyPort : CarriagePort := ⟨.hunting, none, none, false, [], ⟨some ⟨0x12#8, 0, []⟩, 1⟩⟩

/-- A MOVE, a STOP and a HEAD_MODE alone and in both orders, a pass-down payload, and nothing. -/
theorem witness_carriageTransmitter :
    let p (d : Option DriveFrame) (h : Option HeadMode) (e : Bool) (l : List (List Byte)) : State :=
      { State.reset with port := ⟨.hunting, d, h, e, l, ⟨none, 0⟩⟩ }
    ((p (some (.move 0 200)) none false []).port.drive = some (.move 0 200) ∧
      (p (some (.move 0 200)) none false []).port.head = none) ∧
    ((p (some .stop) (some .normal) true []).port.drive = some .stop ∧
      (p (some .stop) (some .normal) true []).port.driveEarlier = true) ∧
    ((p (some .stop) (some .normal) false []).port.head = some .normal ∧
      (p (some .stop) (some .normal) false []).port.driveEarlier = false) ∧
    ((p none none false [[1#8]]).port.drive = none ∧ (p none none false [[1#8]]).port.passDown = [[1#8]]) ∧
    (State.reset.port.passDown = [] ∧ State.reset.port.transmitter.sending = none) ∧
    ({ State.reset with port := busyPort } : State).port.transmitter.sending ≠ none := by decide

/-! The condition unit and the conditioner. -/

/-- A set flag, a clear flag of a masked condition, and one of an unmasked condition with 7 and with 8 alarms queued. -/
theorem witness_raising :
    let a := alarmNow .driveFault State.reset
    let u (n : Nat) : ConditionUnit := { State.reset.conditions with alarms := List.replicate n a }
    ((u 0).setFlag .driveFault).flag .driveFault = true ∧
    ((u 0).flag .range = false ∧ (u 0).isUnmasked .range = false) ∧
    ((u 7).flag .driveFault = false ∧ (u 7).isUnmasked .driveFault = true ∧ (u 7).alarms.length < 8) ∧
    ((u 8).flag .driveFault = false ∧ (u 8).isUnmasked .driveFault = true ∧ 8 ≤ (u 8).alarms.length) ∧
    (let s : State := { State.reset with conditions := { State.reset.conditions with flags := 1#17, raised := [⟨a, []⟩] } }
     ⟨a, []⟩ ∈ s.conditions.raised ∧ s.conditions.flag .sheetBreak = true ∧
     ConditionUnit.flag (s.conditions.take a) .driveFault = true) := by decide

/-- A channel newly fitted, one fitted before and after, and one no longer fitted. -/
theorem witness_headAnnounce :
    let s := after (.headAnnounce ⟨true, false, true, false⟩) State.reset
    let n : PerMeasured Bool := ⟨true, true, false, false⟩
    (n.bw = true ∧ s.conditioner.fitted.bw = true) ∧ (n.mo = true ∧ s.conditioner.fitted.mo = false) ∧ n.ca = false := by
  decide

/-- Tables in which every measured channel has a curve in effect and an enable. -/
def fullTables : Tables :=
  { Tables.reset with
    curve := .initial ⟨some curve15, some ⟨⟨0, 0⟩, [⟨65535, 10000⟩], 1, 0⟩, some curve15, some ⟨⟨0, 1000⟩, [⟨65535, 0⟩], 1, 0⟩⟩
    enables := ⟨true, true, true⟩ }

/-- Streams off, short of the nth sample and at it, an empty and a filled slot; expectations absent, met and missed; a
sample with a FAULTED and a CLAMPED channel; a busy carriage transmitter. -/
theorem witness_sample :
    let m (n k : Nat) (x : Option StreamFrame) : State := { State.reset with
      mill := { State.reset.mill with decimation := n, decimationCount := k, stream := x } }
    let x := conditionFrame fullTables (.const true) { frameAt 0 with ready := ⟨true, false, true, true⟩ } false
    (m 0 0 none).mill.decimation = 0 ∧ (m 3 1 none).mill.decimationCount + 1 < 3 ∧
    ((m 3 2 none).mill.decimation ≠ 0 ∧ 3 ≤ (m 3 2 none).mill.decimationCount + 1 ∧ (m 3 2 none).mill.stream = none) ∧
    (1 ≤ (m 1 0 (some ⟨x, none, 0⟩)).mill.decimationCount + 1 ∧ (m 1 0 (some ⟨x, none, 0⟩)).mill.stream ≠ none) ∧
    x.mo = .faulted ∧ x.bw = .clamped 9000 ∧ x.tr ≠ .faulted ∧ State.reset.conditions.raised = [] ∧
    (State.reset.conditioner.expected = none ∧ (frameAt 0 false 41).sequence ≠ 40) ∧
    (busyPort.transmitter.sending ≠ none ∧ State.reset.port.transmitter.sending = none) := by decide

theorem witness_channelClasses :
    (fullTables.enables.bw = true ∧ fullTables.curve.inEffect.bw = some curve15) ∧
    (fullTables.enables.mo = true ∧ fullTables.curve.inEffect.mo ≠ none) ∧
    (fullTables.enables.ca = true ∧ fullTables.curve.inEffect.ca = some curve15) ∧
    fullTables.curve.inEffect.tr ≠ none ∧ Tables.reset.curve.inEffect.bw = none ∧ Tables.reset.enables.mo = false ∧
    curvesValid fullTables.curve.inEffect = true := by decide

/-- Counts below, at and beyond the ends of the curve of 1.5, and at both ends of an interval. -/
theorem witness_curve :
    strictlyRising ((curve15.first :: curve15.rest).map CurvePoint.r) = true ∧ 9999 < curve15.first.r ∧
    (curve15.first :: curve15.rest).getLast? = some ⟨50000, 1500⟩ ∧
    (curve15.first :: curve15.rest)[1]? = some ⟨30000, 6000⟩ ∧ (curve15.first :: curve15.rest)[2]? = some ⟨50000, 1500⟩ ∧
    (30000 ≤ 30000 ∧ 30000 < 50000) ∧ (30000 ≤ 49999 ∧ 49999 < 50000) := by decide

/-- An entry that names the channel after one that is disabled, its value below 0, above the maximum, and at both bounds;
usable, faulted and absent inputs of dry weight. -/
theorem witness_bias :
    let before : List BiasEntry := [⟨false, .mo, 5⟩, ⟨true, .bw, 5⟩]
    (∀ x ∈ before, x.enabled = true → x.channel ≠ .mo) ∧
    (((0 : Nat) : Int) + -1 < 0 ∧ ((ProfileChannel.mo.max : Nat) : Int) < (10000 : Nat) + 1) ∧
    (0 ≤ ((1 : Nat) : Int) + -1 ∧ ((9999 : Nat) : Int) + 1 ≤ (ProfileChannel.mo.max : Nat)) ∧
    (Conditioned.normal 5).usable = some 5 ∧ (Conditioned.clamped 0).usable = some 0 ∧
    (Conditioned.absent ≠ .faulted ∧ Conditioned.normal 5 ≠ .faulted) := by decide

/-- Generations at the wrap, equal and different. -/
theorem witness_generations :
    (65535 < 65536 ∧ 0 < 65536) ∧ State.reset.tables.curve.stagedGen = State.reset.tables.curve.inEffectGen ∧
    State.reset.tables.bias.stagedGen = State.reset.tables.bias.inEffectGen ∧
    State.reset.tables.stdf.stagedGen = State.reset.tables.stdf.inEffectGen ∧
    dwellStarts.tables.curve.stagedGen ≠ dwellStarts.tables.curve.inEffectGen ∧
    (let s := after .writeTableBias (withCommand 3#8 [1#8, 7#8, 1#8, 1#8, 4#8, 0xFF#8, 0xD8#8] State.reset)
     s.tables.bias.stagedGen ≠ s.tables.bias.inEffectGen) ∧
    (let s := after .writeTableStdf (withCommand 3#8 [2#8, 3#8, 1#8, 0x40#8, 0xA1#8] State.reset)
     s.tables.stdf.stagedGen ≠ s.tables.stdf.inEffectGen) := by decide

/-- Participants one valid count short of the half quota, at it with mean 0, above the drift limit and at it. -/
theorem witness_participant :
    (127 < (256 + 1) / 2 ∧ (256 + 1) / 2 ≤ 128) ∧ (2 * 0 + 128) / (2 * 128) = 0 ∧
    (let p : Participant := ⟨10000, 100, 10101 * 128, 128⟩
     let mean := (2 * p.sum + p.valid) / (2 * p.valid)
     mean ≠ 0 ∧ p.driftLimit < (mean - p.rRef + (p.rRef - mean)) * 10000 / p.rRef) ∧
    (let p : Participant := ⟨10000, 100, 10100 * 128, 128⟩
     let mean := (2 * p.sum + p.valid) / (2 * p.valid)
     mean ≠ 0 ∧ (mean - p.rRef + (p.rRef - mean)) * 10000 / p.rRef ≤ p.driftLimit) := by decide

/-- A collection of three samples with one to go; its participants then have a result of each kind. -/
def collection3 : Collection :=
  ⟨⟨some ⟨1000, 500, 2000, 2⟩, some ⟨1000, 0, 2000, 1⟩, some ⟨1000, 500, 0, 0⟩, none⟩, 3, 2, ⟨5000, 0⟩⟩

theorem witness_referenceSamples :
    ((sampleAt 0 .absent true).frame.reference = true ∧ (sampleAt 0 .absent).frame.reference = false) ∧
    (collection3.target ≤ collection3.count + 1 ∧ ({ collection3 with count := 1 } : Collection).count + 1 < 3) ∧
    State.reset.frame.scanOn = false ∧ State.reset.watch.state = .sheetOn ∧
    lastSample.standardize.collection.map (fun c => c.target - c.count) = some 1 ∧
    ((setScanOn true lastSample).frame.scanOn = true ∧ governing (setScanOn true lastSample) = some ctx305) ∧
    (let b : State := { lastSample with watch := { lastSample.watch with state := .broken } }
     b.watch.state = .broken ∧ b.tables.sheet.mode ≠ .report) := by decide

theorem witness_referenceSamples_results :
    Participant.result 3 ⟨1000, 500, 3000, 3⟩ = .passes 16384 ∧ Participant.result 3 ⟨1000, 0, 3000, 2⟩ = .failsDrift ∧
    Participant.result 3 ⟨1000, 500, 1000, 1⟩ = .failsCoverage := by decide

/-! Slices, edges, exclusion. -/

theorem witness_binning :
    strictlyRising map21.boundaries = true ∧ map21.boundaries[0]? = some 2000 ∧ map21.boundaries[1]? = some 2800 ∧
    (map21.boundaries.head? = some 2000 ∧ 1999 < 2000) ∧ (map21.boundaries.getLast? = some 8400 ∧ 8400 ≤ 8400) ∧
    State.reset.binning.openTraverse = none ∧ scanning.binning.openTraverse = some (traverse21 .fwd) ∧
    (sampleAt 2799 .absent).frame.reference = false ∧ map21.sliceOf (sampleAt 2799 .absent).frame.position = some 0 ∧
    (sampleAt 2799 .absent true).frame.reference = true ∧ map21.sliceOf 1999 = none := by decide

/-- The phases, run counts and TR values of the finder's clauses, at the threshold of 700 and the run of 3. -/
theorem witness_edgeFinder :
    let t := Tables.reset.sheet
    let e := EdgeFinder.start
    let on : EdgeFinder := ⟨.onSheet, 1, none, some 1250, true, some ⟨1100, false⟩, none⟩
    let x := sampleAt 1300 (.normal 700)
    let y := sampleAt 1300 (.normal 699)
    (e.phase = .seeking ∧ e.runCount = 0 ∧ 1 < t.m) ∧
    (let r : EdgeFinder := { e with runCount := 1, runStart := some 1100 }
     r.phase = .seeking ∧ r.runCount ≠ 0 ∧ r.runStart = some 1100 ∧ r.runCount + 1 < t.m) ∧
    (on.phase = .onSheet ∧ on.runCount + 1 < t.m) ∧ ({ on with phase := .left } : EdgeFinder).phase = .left ∧
    (x.afterGap = false ∧ x.frame.reference = false ∧ x.tr.usable = some 700 ∧ t.trPresent ≤ 700) ∧
    (y.tr.usable = some 699 ∧ 699 < t.trPresent) ∧ (sampleAt 0 .faulted).tr.usable = none ∧
    (sampleAt 0 .absent true).frame.reference = true ∧ ({ x with afterGap := true } : Sample).afterGap = true := by decide

theorem witness_runs :
    let t := Tables.reset.sheet
    let sheet := [sampleAt 1100 (.normal 620), sampleAt 1150 (.normal 610), sampleAt 1200 (.normal 699)]
    let clear := [sampleAt 7800 (.normal 930), sampleAt 7850 (.normal 940), sampleAt 7900 (.normal 700)]
    EdgeFinder.start.runCount = 0 ∧ EdgeFinder.start.phase = .seeking ∧ sheet.length = t.m ∧ clear.length = t.m ∧
    (∀ y ∈ sheet, y.frame.reference = false ∧ y.afterGap = false ∧ (y.tr.usable.any (fun v => v < t.trPresent)) = true) ∧
    (∀ y ∈ clear, y.frame.reference = false ∧ y.afterGap = false ∧ (y.tr.usable.any (fun v => t.trPresent ≤ v)) = true) ∧
    (⟨.onSheet, 0, none, some 7650, true, some ⟨1100, false⟩, none⟩ : EdgeFinder).phase = .onSheet := by decide

theorem witness_edges :
    let o := traverse21 .fwd
    o.finder.phase = .seeking ∧ (finderAfter (readings34.take 12)).phase = .onSheet ∧
    (finderAfter (readings34.take 12)).entering = some ⟨1100, false⟩ ∧
    (finderAfter (readings34.take 12)).lastSheet = some 7650 ∧
    (finderAfter readings34).phase = .left ∧ (finderAfter readings34).leaving = some ⟨7650, false⟩ := by decide

theorem witness_exclusion :
    strictlyRising map7.boundaries = true ∧ map7.boundaries[1]? = some 1600 ∧ map7.boundaries[2]? = some 2200 ∧
    1100 ≤ 1600 ∧ 2200 - 1 ≤ 7650 ∧ 11 + 1 < map7.boundaries.length := by decide

/-! Close-out and monitors. -/

/-- An engine in each phase. -/
theorem witness_closeOut :
    (closing (.means bank411 params411) before411).closeOut.engine = .means bank411 params411 ∧
    params411.profiled.get .bw = true ∧ params411.profiled.get .mo = false ∧
    (closing (.filter bank411 params411 means411) before411).closeOut.engine = .filter bank411 params411 means411 ∧
    (means411.channels.bw.map ChannelMeans.short) = some false ∧ means411.channels.mo = none ∧
    (closing (.stats bank411 params411 means411) after411).closeOut.engine = .stats bank411 params411 means411 ∧
    (closing (.monitors bank411 params411 means411 stats411) after411).closeOut.engine =
      .monitors bank411 params411 means411 stats411 ∧
    (closing (.monitors bank411 params411 means411 stats411) after411).conditions.raised = [] := by decide

/-- A channel that is SHORT: results of MEANS with three valid slices of eight. -/
theorem witness_short :
    ((computeMeans (bankOf [(0, 0), (4, 18402), (4, 18360), (0, 0), (0, 0), (4, 18348), (0, 0), (0, 0)])
      params411).channels.bw.map ChannelMeans.short) = some true := by decide

/-- The ends of the filter's ranges: w 256 and the largest deviation, an UNSET and a STALE record. -/
theorem witness_filter :
    (256 ≤ 256 ∧ (-65535 : Int) ≤ -65535 ∧ (65535 : Int) ≤ 65535 ∧ (-1048560 : Int) ≤ 1048560) ∧
    SliceRecord.cleared.state = .unset ∧ (⟨0, .stale, 15, .held, none⟩ : SliceRecord).state ≠ .unset := by decide

theorem witness_stats : (2 ^ 42 - 1 < 2 ^ 42) ∧ ([-252, 166, 36] : List Int) ≠ [] := by decide

/-- Figures one below, at and one above a window, and slices in each class. -/
theorem witness_outcomes :
    let r (f : Int) : SliceRecord := ⟨f, .valid, 0, .fresh, none⟩
    ((10 : Int) ≤ 20 ∧ ((9 : Nat) : Int) < 10 ∧ (10 : Int) ≤ (10 : Nat) ∧ ((20 : Nat) : Int) ≤ 20 ∧ (20 : Int) < (21 : Nat)) ∧
    ((r 321).state = .valid ∧ 16 * 20 < (r 321).f) ∧ ((r 159).state = .valid ∧ (r 159).f < 16 * 10) ∧
    (¬ 16 * 20 < (r 320).f ∧ ¬ (r 160).f < 16 * 10) ∧ SliceRecord.cleared.state ≠ .valid ∧
    (MonitorRecord.reset.source = .scanAvg ∧ ({ MonitorRecord.reset with source := .slice 5 7 } : MonitorRecord).source =
      .slice 5 7) ∧
    (watchedSlices 5 479 [true, false, true, false, false, false, true, false] after411).map SliceRecord.f = [-45, 0] := by
  decide

/-- A monitor that is evaluated and trips, one disabled, one on a channel not profiled, one STRICT and UNORDERED. -/
theorem witness_monitors :
    let trips : Monitor := .fresh ⟨true, .bw, .spread, 0, 15, 1, .strict⟩
    let c : ChannelResults := ⟨some 4589, some ⟨18, 29⟩, List.replicate 8 false, after411⟩
    trips.record.enabled = true ∧ (means411.channels.get trips.record.channel).isSome = true ∧
    MonitorRecord.reset.enabled = false ∧ means411.channels.get .mo = none ∧
    ((trips.after 42 (monitorOutcome trips.record c).1 none).state = .tripped ∧ trips.state = .armed) ∧
    (monitorOutcome ⟨true, .bw, .slice 7 7, 0, 0, 1, .strict⟩ c).1 = .unordered ∧
    (let s := closing (.monitors bank411 params411 means411 stats411) after411
     s.conditions.raised = [] ∧ s.monitors[0]? = some (.fresh .reset) ∧ s.monitors[8]? = none) := by decide

theorem witness_report :
    let s := closing (.report bank411 params411 means411 stats411 []) after411
    s.closeOut.engine = .report bank411 params411 means411 stats411 [] ∧ s.profile.action = none ∧
    (∀ c, s.contexts.inEffect = some c → c.interval = 0 ∨ min 255 (s.standardize.counter + 1) < c.interval) ∧
    s.profile.trend.length < 64 := by
  refine ⟨rfl, rfl, fun c h => ?_, by decide⟩
  cases h; exact Or.inr (by decide)

/-- A full ring, and the last counter value before the interval is reached. -/
theorem witness_report_bounds :
    let s := closing (.report bank411 params411 means411 stats411 []) after411
    ({ s with profile := { s.profile with trend := List.replicate 64 (trendRecord 1 none params411 means411 stats411) } }
      : State).profile.trend.length = 64 ∧ min 255 (10 + 1) < ctx305.interval := by
  constructor
  · exact List.length_replicate
  · decide

/-- A standardize that falls due with this REPORT, outside PARKED and in it, and a profile action that waits. -/
theorem witness_report_due :
    let s := { closing (.report bank411 params411 means411 stats411 []) after411 with standardize := ⟨false, 11, none⟩ }
    let p := inCarriage .parked { s with profile := { s.profile with action := some ⟨.clear, ⟨.b, 22, 9⟩⟩ } }
    (s.contexts.inEffect = some ctx305 ∧ ctx305.interval ≠ 0 ∧ ctx305.interval ≤ min 255 (s.standardize.counter + 1)) ∧
    s.frame.carriage ≠ .parked ∧ (p.frame.carriage = .parked ∧ p.profile.action ≠ none) ∧
    (after .reportComplete p).frame.carriage = .standardizing ∧
    (after .reportComplete p).profile.map = some ⟨.b, 22, 9⟩ := by decide

theorem witness_profileActions :
    let p := (closing .idle after411).profile
    let q := { withSlot.profile with map := some ⟨.b, 21, 9⟩ }
    p.map = some ⟨.b, 21, 8⟩ ∧ p.map ≠ some ⟨.b, 22, 8⟩ ∧ p.slots.getD 0 none = none ∧
    (∃ x, q.slots.getD 0 none = some x ∧ x.sliceCount ≠ (⟨.b, 21, 9⟩ : MapIdentity).sliceCount) ∧
    (∃ x, q.slots.getD 0 none = some x ∧ x.sliceCount = (⟨.b, 21, 8⟩ : MapIdentity).sliceCount ∧ x.images.get .bw = none) ∧
    (∃ x, (after .saveProfile (withCommand 0x11#8 [1#8, 1#8, 0x31#8] (closing .idle after411))).profile.slots.getD 1 none =
      some x ∧ x.images.get .bw ≠ none) :=
  ⟨by decide, by decide, by decide, ⟨_, rfl, by decide⟩, ⟨_, rfl, by decide, by decide⟩, ⟨_, rfl, by decide⟩⟩

/-! Frame control. -/

/-- Tracking off, on without edges, on with edges exactly the minimum width apart and one count less. -/
theorem witness_limits :
    let c : Context := { ctx305 with front := 600, back := 19400, tracking := some 0 }
    ctx305.tracking = none ∧ c.tracking = some 0 ∧
    ((400 : Int) ≤ (min 19400 ((10400 : Nat) + (0 : Nat) : Int)) - max 600 ((10000 : Nat) - (0 : Nat) : Int)) ∧
    ((min 19400 ((10399 : Nat) + (0 : Nat) : Int)) - max 600 ((10000 : Nat) - (0 : Nat) : Int) < (400 : Int)) := by decide

/-- PARKING at rest 8 counts from the target and 9, with a request waiting, with scan-on set, and with neither. -/
theorem witness_arrival :
    let s := withDrive false (withTarget 0 200 (inCarriage .parking queued))
    let r := { s with standardize := { s.standardize with request := true } }
    let g := { s with frame := { s.frame with scanOn := true } }
    s.frame.carriage = .parking ∧ s.frame.target = some ⟨0, 200⟩ ∧ s.frame.lastDrive = some ⟨true, false, false, 0⟩ ∧
    s.watch.state = .sheetOn ∧ (8 ≤ 0 + 8 ∧ 0 ≤ 8 + 8) ∧ ¬ (9 ≤ 0 + 8 ∧ 0 ≤ 9 + 8) ∧
    r.standardize.request = true ∧ (g.standardize.request = false ∧ g.frame.scanOn = true ∧ governing g = some ctx305) ∧
    (s.standardize.request = false ∧ s.frame.scanOn = false) ∧
    (withDrive true s).frame.lastDrive = some ⟨true, true, false, 0⟩ := by decide

/-- A fixed point and the probe position reached at rest, windows one short of full and full, and arrivals at park in
BREAK and in SHEET_OFF with both probe timers idle. -/
theorem witness_arrival_dwells :
    let p := withDrive false (withTarget 8000 200 (inCarriage (.probing .moving) queued))
    let off (s : State) (st : BreakState) : State := { s with watch := { s.watch with state := st } }
    let w (n : Nat) : State := { inCarriage (.fixed .dwelling) queued with
      frame := { (inCarriage (.fixed .dwelling) queued).frame with windows := .const (List.replicate n 7) } }
    (dwellStarts.frame.carriage = .fixed .moving ∧ WatchQuiet dwellStarts ∧ (5008 ≤ 5000 + 8 ∧ 5000 ≤ 5008 + 8)) ∧
    (p.frame.carriage = .probing .moving ∧ WatchQuiet p ∧ WatchQuiet (off p .sheetOff)) ∧
    (p.frame.carriage.hasMove = true ∧ p.frame.carriage.isScanning = false) ∧
    ((off queued .broken).watch.state = .broken ∧ queued.tables.sheet.mode ≠ .report) ∧
    ((off queued .sheetOff).watch.probe = none ∧ (off queued .sheetOff).watch.dwell = none) ∧
    ((w 63).frame.windows.get .bw).length < 64 ∧ ((w 64).frame.windows.get .dw).length ≤ 64 ∧
    (w 64).frame.carriage = .fixed .dwelling := by decide

theorem witness_opening (dir : Direction) :
    let s := withDrive false (withTarget 2000 400 (inCarriage (.traverse .positioning dir) queued))
    s.frame.carriage = .traverse .positioning dir ∧ s.frame.target = some ⟨2000, 400⟩ ∧
    s.frame.lastDrive = some ⟨true, false, false, 0⟩ ∧ (1992 ≤ 2000 + 8 ∧ 2000 ≤ 1992 + 8) ∧
    s.contexts.queue.head? = some ctx305 ∧ s.tables.mapB = some map21 ∧ s.closeOut.engine = .idle ∧
    ((closing .idle after411).contexts.queue = [] ∧ (closing .idle after411).contexts.inEffect = some ctx305) ∧
    (closing (.means bank411 params411) before411).closeOut.engine ≠ .idle := by
  cases dir <;> decide

/-- A scanning traverse before its far limit, at it, at rest near it; with and without scan-on, a request, a break mark, and
a busy engine. -/
theorem witness_reversal :
    let s := scanning
    let marked := { s with binning := { s.binning with openTraverse := some { traverse21 .fwd with breakMark := true } } }
    let busy := { s with closeOut := ⟨.means bank411 params411, 41⟩ }
    s.frame.carriage = .traverse .scanning .fwd ∧ s.frame.limits = some ⟨2000, 8400⟩ ∧
    s.binning.openTraverse = some (traverse21 .fwd) ∧ ¬ (8400 ≤ 8399) ∧ 8400 ≤ 8400 ∧
    (s.frame.scanOn = true ∧ s.standardize.request = false ∧ governing s = some ctx305 ∧ s.tables.mapB = some map21) ∧
    (setScanOn false s).frame.scanOn = false ∧ (withDrive false s).frame.lastDrive = some ⟨true, false, false, 0⟩ ∧
    (8392 ≤ 8400 + 8 ∧ 8400 ≤ 8392 + 8) ∧
    (marked.binning.openTraverse.map OpenTraverse.breakMark) = some true ∧
    ((traverse21 .fwd).breakMark = false ∧ s.tables.sheet.mode = .park) ∧
    (s.closeOut.engine = .idle ∧ busy.closeOut.engine ≠ .idle) ∧
    ((edgesAtClosing true none (traverse21 .fwd)).lost = true ∧
      (edgesAtClosing false none (traverse21 .fwd)).lost = false) := by decide

/-- Silence and stall timers that are due, by carriage state. -/
theorem witness_silenceAndStall :
    let due (s : State) : State := { s with frame := { s.frame with silence := some ⟨100, 100⟩ } }
    let std := { inCarriage .standardizing State.reset with
      standardize := ⟨true, 0, some ⟨.const none, 256, 0, ⟨5000, 0⟩⟩⟩ }
    let s := inCarriage .parking State.reset
    let stalled (p : Option Nat) (r : Option Nat) : State := { s with frame := { s.frame with
      target := some ⟨0, 200⟩, lastPosition := p, stall := some ⟨⟨2000, 2000⟩, r⟩ } }
    (timerDue (due (inCarriage .parked State.reset)).frame.silence = true ∧
      (due (inCarriage .parked State.reset)).frame.carriage = .parked) ∧
    ((due scanning).frame.carriage.hasMove = true ∧ (due scanning).standardize.collection = none ∧
      (due scanning).binning.openTraverse = some (traverse21 .fwd)) ∧
    ((due s).frame.carriage.hasMove = true ∧ (due s).binning.openTraverse = none) ∧
    ((due std).frame.carriage = .standardizing ∧ (due std).standardize.collection ≠ none ∧
      (due std).binning.openTraverse = none) ∧
    ((stalled (some 4397) (some 4400)).frame.lastPosition = some 4397 ∧ ((4397 : Nat) : Int) > (4400 : Nat) - 4) ∧
    ((stalled (some 4396) (some 4400)).frame.target = some ⟨0, 200⟩ ∧ ((4396 : Nat) : Int) ≤ (4400 : Nat) - 4) ∧
    ((stalled (some 4396) none).frame.stall = some ⟨⟨2000, 2000⟩, none⟩) ∧
    ((stalled none (some 5)).frame.lastPosition = none ∧ Timer.due ⟨2000, 2000⟩ = true) ∧
    State.reset.conditions.raised = [] := by decide

/-- A collection, a probe timer, a dwell and a hold-off that are due. -/
theorem witness_breakTimers :
    let w (st : BreakState) (p d h : Option Timer) (c : Carriage) : State :=
      { inCarriage c State.reset with watch := ⟨st, none, 0, 0, p, d, h, none⟩ }
    let std := { inCarriage .standardizing queued with
      standardize := ⟨true, 0, some ⟨.const none, 256, 0, ⟨5000, 5000⟩⟩⟩ }
    let report : State := { w .threading none none (some ⟨10000, 10000⟩) .parked with tables := { State.reset.tables with
      sheet := { State.reset.tables.sheet with mode := .report } } }
    (std.standardize.collection.map (fun c => c.timer.due)) = some true ∧ std.watch.state = .sheetOn ∧
    (std.frame.scanOn = false ∧ (setScanOn true std).frame.scanOn = true ∧ governing (setScanOn true std) = some ctx305) ∧
    timerDue (w .sheetOff (some ⟨30000, 30000⟩) none none .parked).watch.probe = true ∧
    timerDue (w .sheetOff none (some ⟨3000, 3000⟩) none (.probing .dwelling)).watch.dwell = true ∧
    ((w .sheetOff none (some ⟨3000, 3000⟩) none .parked).watch.state = .sheetOff ∧
      (w .sheetOff none (some ⟨3000, 3000⟩) none .parking).frame.carriage = .parking) ∧
    (timerDue (w .threading none none (some ⟨10000, 10000⟩) (.probing .dwelling)).watch.holdOff = true ∧
      (w .threading none none (some ⟨10000, 10000⟩) (.probing .dwelling)).tables.sheet.mode ≠ .report) ∧
    (timerDue report.watch.holdOff = true ∧ report.watch.state = .threading ∧ report.tables.sheet.mode = .report ∧
      report.tables.sheet.standardizeAfter = true) := by decide

/-- A due hold-off in THREADING is met in every carriage state and mode, with and without the two settings. -/
theorem witness_holdOff (c : Carriage) (mode : BreakMode) (std auto : Bool) :
    let s := { inCarriage c queued with
      watch := ⟨.threading, some .mill, 0, 0, none, none, some ⟨10000, 10000⟩, none⟩
      tables := { queued.tables with
        sheet := { queued.tables.sheet with mode := mode, standardizeAfter := std, autoResume := auto } } }
    timerDue s.watch.holdOff = true ∧ s.watch.state = .threading ∧ s.frame.carriage = c ∧ s.conditions.raised = [] ∧
    s.tables.sheet.mode = mode ∧ s.tables.sheet.standardizeAfter = std ∧ s.tables.sheet.autoResume = auto ∧
    governing s = some ctx305 ∧ s.contexts.queue ≠ [] :=
  ⟨rfl, rfl, rfl, rfl, rfl, rfl, rfl, rfl, fun h => by cases h⟩

theorem witness_driveStatus :
    let std := { inCarriage .standardizing State.reset with
      standardize := ⟨true, 0, some ⟨.const none, 256, 0, ⟨5000, 0⟩⟩⟩ }
    State.reset.frame.carriage = .unreferenced ∧ (inCarriage .halted State.reset).frame.carriage = .halted ∧
    ((inCarriage .parked State.reset).frame.carriage ≠ .unreferenced ∧
      (inCarriage .parked State.reset).frame.carriage ≠ .halted ∧
      (inCarriage .parked State.reset).binning.openTraverse = none ∧
      (inCarriage .parked State.reset).standardize.collection = none) ∧
    (scanning.binning.openTraverse = some (traverse21 .fwd) ∧ scanning.standardize.collection = none) ∧
    (std.binning.openTraverse = none ∧ std.standardize.collection ≠ none) := by decide

/-! The break watch. -/

theorem witness_breaks :
    let s := scanning
    let n (k : Nat) : State := { s with watch := { s.watch with breakRun := k } }
    let h (k : Nat) : State := { s with watch := { s.watch with heldRun := some k } }
    let report := { s with tables := { s.tables with sheet := { s.tables.sheet with mode := .report } } }
    let x := sampleAt 5000 (.normal 900)
    detectorActive s = true ∧ x.afterGap = false ∧ passedOver x s = false ∧ passedOver (sampleAt 1999 (.normal 900)) s = true ∧
    (x.tr.usable = some 900 ∧ s.tables.sheet.trBreak ≤ 900) ∧ 899 < s.tables.sheet.trBreak ∧
    (sampleAt 5000 .faulted).tr.usable = none ∧
    ((n 6).watch.breakRun + 1 < s.tables.sheet.nBreak ∧ (n 6).watch.heldRun = none) ∧
    (s.tables.sheet.nBreak ≤ (n 7).watch.breakRun + 1 ∧ (h 7).watch.heldRun = some 7 ∧ s.tables.sheet.nBreak ≤ 7 + 1) ∧
    (s.tables.sheet.mode ≠ .report ∧ s.frame.carriage.isScanning = true) ∧
    (let home := { inCarriage .parking (h 6) with tables := s.tables }
     runHeld home = true ∧ detectorActive home = false ∧ passedOver x home = false ∧
     home.watch.breakRun + 1 < home.tables.sheet.nBreak ∧ home.watch.heldRun = some 6 ∧ 6 + 1 < home.tables.sheet.nBreak) ∧
    (runHeld (inCarriage .parked (h 7)) = true ∧ passedOver x (inCarriage .parked (h 7)) = false) ∧
    (report.tables.sheet.mode = .report ∧ report.watch.state = .sheetOn ∧ detectorActive report = true) := by decide

/-- The samples by which the sheet is seen: a probe dwell in SHEET_OFF, and scanning or dwelling in a REPORT break, with
runs short of N_BREAK and at it; a sample after a gap; a state in which nothing is looked for. -/
theorem witness_breaks_looking :
    let w (st : BreakState) (k : Nat) (s : State) : State := { s with watch := { s.watch with state := st, sheetRun := k } }
    let probe := w .sheetOff 6 (inCarriage (.probing .dwelling) queued)
    let report := { scanning with tables := { scanning.tables with sheet := { scanning.tables.sheet with mode := .report } } }
    sheetCounting probe = true ∧ sheetCounting (w .broken 7 report) = true ∧
    sheetCounting (w .broken 0 (inCarriage (.fixed .dwelling) report)) = true ∧
    (detectorActive State.reset = false ∧ sheetCounting State.reset = false) ∧
    (probe.watch.sheetRun + 1 < probe.tables.sheet.nBreak ∧ report.tables.sheet.nBreak ≤ (w .broken 7 report).watch.sheetRun + 1) ∧
    passedOver (sampleAt 5000 (.normal 899)) (w .broken 7 report) = false ∧
    ({ sampleAt 5000 (.normal 899) with afterGap := true } : Sample).afterGap = true := by decide

/-- A BREAK notice in PARK mode finds the carriage in each of its states, with a traverse open and without. -/
theorem witness_notices_park (c : Carriage) :
    (withCommand 0x14#8 [0#8] (inCarriage c queued)).frame.carriage = c ∧
    (withCommand 0x14#8 [0#8] (inCarriage c queued)).watch.state = .sheetOn ∧ queued.tables.sheet.mode ≠ .report ∧
    (inCarriage c queued).binning.openTraverse = none ∧ queued.conditions.raised = [] ∧
    (scanning.frame.carriage = .traverse .scanning .fwd ∧ scanning.binning.openTraverse = some (traverse21 .fwd)) :=
  ⟨rfl, rfl, by decide, rfl, rfl, rfl, rfl⟩

theorem witness_notices :
    let w (st : BreakState) : State := { State.reset with watch := { State.reset.watch with state := st } }
    AtHand ⟨0x07#8, 0x14#8, [0#8]⟩ [] (withCommand 0x14#8 [0#8] (w .threading)) ∧ (w .threading).watch.state = .threading ∧
    (w .broken).watch.state = .broken ∧ (w .sheetOff).watch.state = .sheetOff ∧ (w .sheetOn).watch.state = .sheetOn ∧
    2 ≤ (2#8 : Byte).toNat :=
  ⟨⟨rfl, rfl⟩, by decide⟩

/-! The command handler: each statement's code with its arguments, at the ends of their ranges. -/

/-- The hypotheses that the statements about commands share, met by a frame of this code and these arguments. -/
def Ready (code : Byte) (args : List Byte) (s : State) : Prop :=
  AtHand ⟨0x07#8, code, args⟩ [] (withCommand code args s) ∧ (withCommand code args s).conditions.summary = false ∧
  (withCommand code args s).conditions.raised = []

theorem ready (code : Byte) (args : List Byte) (s : State) (h : s.conditions.summary = false)
    (h' : s.conditions.raised = []) : Ready code args s := ⟨⟨rfl, rfl⟩, h, h'⟩

theorem witness_formThenGate :
    Ready 7#8 [1#8] State.reset ∧
    Ready 7#8 [] State.reset ∧
    Ready 0x1C#8 [] State.reset ∧
    (rowOf ⟨0x07#8, 0x07#8, [1#8]⟩ = .startScan ∧ CommandRow.startScan.wellFormedArgs [1#8] = false) ∧
    (CommandRow.startScan.wellFormedArgs [] = true ∧ CommandRow.startScan.altering = true) ∧
    State.reset.conditions.raised = [] ∧ State.reset.conditions.summary = false ∧
    (after .startScan (withCommand 7#8 [] State.reset)).handler.phase ≠ .ready ∧ 0x1C ≤ (0x1C#8 : Byte).toNat :=
  ⟨ready _ _ _ rfl rfl, ready _ _ _ rfl rfl, ready _ _ _ rfl rfl, by decide⟩

/-- Arguments that have their form, at the least and with every list and optional field, and one byte short. -/
theorem witness_forms :
    let formed (code : Byte) (args : List Byte) : Bool := (rowOf ⟨0#8, code, args⟩).wellFormedArgs args
    let n (k : Nat) : List Byte := List.replicate k 0#8
    (formed 5#8 (n 18) ∧ formed 5#8 (n 16 ++ [1#8, 2#8, 0#8, 0#8, 0#8]) ∧ formed 5#8 (n 16 ++ [1#8, 2#8, 0#8, 0#8]) = false) ∧
    (formed 3#8 (n 7) ∧ formed 3#8 ([0#8, 0#8, 1#8] ++ n 8) ∧ formed 3#8 (n 8) = false) ∧
    (formed 3#8 ([1#8, 0#8, 2#8] ++ n 8) ∧ formed 3#8 [1#8, 0#8, 0#8] = false) ∧
    (formed 3#8 ([2#8, 0#8, 4#8] ++ n 8) ∧ formed 3#8 [2#8, 0#8, 0#8] = false) ∧
    (formed 3#8 ([3#8] ++ n 8) ∧ formed 3#8 ([3#8] ++ n 6 ++ [1#8, 1#8] ++ n 6) ∧ formed 3#8 ([3#8] ++ n 9) = false) ∧
    (formed 3#8 ([4#8, 0#8, 2#8] ++ n 13 ++ [0#8, 0#8, 3#8] ++ n 14) ∧ formed 3#8 ([4#8, 0#8, 1#8] ++ n 12) = false) ∧
    (formed 3#8 ([5#8] ++ n 13) ∧ formed 3#8 ([6#8] ++ n 14) ∧ formed 3#8 ([7#8] ++ n 3) ∧ formed 3#8 [9#8]) ∧
    (formed 3#8 ([8#8, 0#8, 0x80#8] ++ n 4) ∧ formed 3#8 ([8#8, 0#8, 0#8, 0#8, 1#8] ++ n 4) ∧ formed 3#8 [8#8] = false) ∧
    ((List.range 9).map (fun r => formed 2#8 (byte r :: n ([2, 3, 1, 2, 3, 1, 1, 1, 3][r]?.getD 0 - 1)))).all id ∧
    formed 2#8 [9#8, 0#8] ∧ formed 0x1A#8 [0#8] ∧ formed 0x1A#8 [] = false ∧ formed 0x10#8 [] = false := by decide

theorem witness_readings :
    Ready 1#8 [] State.reset ∧
    Ready 2#8 [0#8, 3#8] State.reset ∧
    Ready 13#8 [0#8] State.reset ∧
    Ready 14#8 [4#8] State.reset ∧
    Ready 15#8 [64#8] State.reset ∧
    (∀ args ∈ [[1#8, 0#8, 8#8], [1#8, 7#8, 1#8], [1#8, 7#8, 2#8], [2#8], [3#8, 1#8], [3#8, 2#8], [4#8, 0#8, 8#8],
      [4#8, 8#8, 1#8], [5#8], [6#8], [7#8], [8#8, 3#8, 0x80#8], [8#8, 0#8, 4#8], [8#8, 4#8, 0#8], [8#8, 0#8, 3#8], [9#8]],
      Ready 2#8 args withSlot) ∧
    (withSlot.profile.slots[0]?.join.isSome = true ∧ withSlot.profile.slots[3]? = some none) ∧
    let s := after (.headAnnounce ⟨true, false, false, false⟩) (closing .idle after411)
    ProfileChannel.fittedIn s.conditioner.fitted .mo = false ∧ ProfileChannel.fittedIn s.conditioner.fitted .bw = true ∧
    s.closeOut.engine = .idle ∧ (closing (.means bank411 params411) before411).closeOut.engine ≠ .idle ∧
    queued.tables.mapA = none ∧ ({ queued.tables with mapA := some map7 } : Tables).mapA = some map7 ∧
    ([fullTables.curve.staged.bw, fullTables.curve.staged.mo, fullTables.curve.staged.ca,
      fullTables.curve.staged.tr][3]?).join ≠ none ∧ (4 ≤ (4#8 : Byte).toNat) ∧
    (1 ≤ (1#8 : Byte).toNat ∧ (64#8 : Byte).toNat ≤ 64 ∧ 65 ≤ (65#8 : Byte).toNat ∧ (0#8 : Byte).toNat = 0) :=
  ⟨ready _ _ _ rfl rfl, ready _ _ _ rfl rfl, ready _ _ _ rfl rfl, ready _ _ _ rfl rfl, ready _ _ _ rfl rfl,
    fun _ _ => ready _ _ _ rfl rfl, by decide⟩

theorem witness_calibrationWrites :
    Ready 4#8 [] State.reset ∧
    Ready 3#8 (0#8 :: 0#8 :: curveBytes curve15) State.reset ∧
    Ready 3#8 (1#8 :: 7#8 :: 1#8 :: biasBytes ⟨true, .dw, -2000⟩) State.reset ∧
    Ready 3#8 (2#8 :: 0#8 :: 4#8 :: [8192, 32767, 8192, 32767].flatMap be16) State.reset ∧
    Ready 3#8 (2#8 :: 3#8 :: 1#8 :: [8192].flatMap be16) State.reset ∧
    (1 ≤ [8192].length ∧ 3 + [8192].length ≤ 4 ∧ 0 + [8192, 32767, 8192, 32767].length ≤ 4 ∧
      [16384, 16384, 16384, 16384].take 3 ++ [8192] ++ [16384, 16384, 16384, 16384].drop 4 =
        [16384, 16384, 16384, 8192]) ∧
    Curve.valid ((PerMeasured.at? measuredMax 0).getD 0) curve15 = true ∧
    Curve.valid ((PerMeasured.at? measuredMax 3).getD 0) ⟨⟨0, 1000⟩, [⟨65535, 0⟩], 65535, 5000⟩ = true ∧
    (1 ≤ ([⟨true, .dw, -2000⟩] : List BiasEntry).length ∧ 7 + ([⟨true, .dw, -2000⟩] : List BiasEntry).length ≤ 8) ∧
    (∀ q ∈ [8192, 32767, 8192, 32767], 8192 ≤ q ∧ q ≤ 32767) ∧ State.reset.tables.locked = false ∧
    (after .lockCalibration (withCommand 4#8 [] State.reset)).tables.locked = true ∧
    CommandRow.writeStdf.wellFormedArgs [2#8, 0#8, 1#8, 0x40#8, 0#8] = true ∧
    CommandRow.writeBias.wellFormedArgs [1#8, 0#8, 1#8, 1#8, 0#8, 0#8, 1#8] = true ∧
    CommandRow.writeCurve.wellFormedArgs [0#8, 0#8, 1#8, 0#8, 1#8, 0#8, 0#8, 0#8, 0#8, 0#8, 0#8] = true :=
  ⟨ready _ _ _ rfl rfl, ready _ _ _ rfl rfl, ready _ _ _ rfl rfl, ready _ _ _ rfl rfl, ready _ _ _ rfl rfl, by decide⟩

/-- Arguments that pass the form and fail a value just out of range, one for each region and for PUSH_CONTEXT, with the
command at hand of a machine in which nothing else stands in the way (R10, R12, R18, R43, R151). -/
theorem witness_writesOutOfRange :
    let frame (args : List Byte) : CommandFrame := ⟨0#8, 3#8, args⟩
    let curve := [0#8, 0#8, 1#8, 0#8, 1#8, 0#8, 0#8, 0#8, 0#8, 0#8, 0#8]
    let bias := 1#8 :: 0#8 :: 1#8 :: [1#8, 0#8, 0x07#8, 0xD1#8]
    let stdf := [2#8, 3#8, 2#8, 0x40#8, 0#8, 0x40#8, 0#8]
    let map := 3#8 :: 0#8 :: mapBytes { map21 with id := 0 }
    let monitor : List (List Byte) := [[1#8, 0#8, 0#8, 0#8, 0#8, 0#8, 9#8, 0#8, 0#8, 0#8, 8#8, 1#8, 0#8]]
    Ready 3#8 curve State.reset ∧ Ready 3#8 bias State.reset ∧ Ready 3#8 stdf State.reset ∧ Ready 3#8 map State.reset ∧
    (CommandRow.writeCurve.wellFormedArgs curve = true ∧ argByte (frame curve) 2 < 2) ∧
    (CommandRow.writeBias.wellFormedArgs bias = true ∧ 2000 < argWord (frame bias) 5 ∧
      argWord (frame bias) 5 < 65536 - 2000) ∧
    (CommandRow.writeStdf.wellFormedArgs stdf = true ∧ 4 < argByte (frame stdf) 1 + argByte (frame stdf) 2) ∧
    (CommandRow.writeMap.wellFormedArgs map = true ∧ argByte (frame map) 1 = MapLetter.a.code ∧
      argWord (frame map) 2 = 0) ∧
    CommandRow.writeMonitor.wellFormedArgs (4#8 :: 0#8 :: 1#8 :: monitor.flatten) = true ∧
    (∀ r ∈ monitor, r.length = 13 ∧ signed 32 (65536 * 0 + 8) < signed 32 (65536 * 0 + 9)) :=
  ⟨ready _ _ _ rfl rfl, ready _ _ _ rfl rfl, ready _ _ _ rfl rfl, ready _ _ _ rfl rfl, by decide⟩

/-- The same for SHEET, FRAME and CHANNEL, the slots and PUSH_CONTEXT (R132, R184, R129, R130, R126, R127, R114). -/
theorem witness_settingsSlotsContextsOutOfRange :
    let frame (args : List Byte) : CommandFrame := ⟨0#8, 3#8, args⟩
    let sheet := 5#8 :: sheetBytes { State.reset.tables.sheet with m := 16 }
    let settings := 6#8 :: frameBytes { State.reset.tables.frame with s := 1025 }
    let header := [8#8, 3#8, 0x80#8, 0#8, 0#8, 0#8, 7#8]
    let image := [8#8, 1#8, 0#8, 0#8, 1#8, 0#8, 0#8, 0#8, 3#8]
    let context := Context.bytes { ctx305 with nmin := 16 }
    Ready 3#8 sheet State.reset ∧ Ready 3#8 settings State.reset ∧ Ready 3#8 [7#8, 0#8, 2#8, 0#8] State.reset ∧
    let filled := { State.reset with profile := State.reset.profile.setSlot 1 ⟨305, 1, .const none⟩ }
    Ready 3#8 header State.reset ∧ Ready 3#8 image filled ∧ Ready 0x11#8 [4#8, 0#8, 0#8] State.reset ∧
    Ready 0x12#8 [4#8] State.reset ∧ Ready 5#8 context State.reset ∧
    (sheet.length = 14 ∧ argByte (frame sheet) 13 = 16 ∧ State.reset.tables.sheet.mode ≠ .latched) ∧
    (settings.length = 15 ∧ argWord (frame settings) 11 = 1025) ∧
    (header.length = 7 ∧ argWord (frame header) 5 = 7) ∧
    (CommandRow.writeSlotImage.wellFormedArgs image = true ∧ argByte (frame image) 2 ≠ 0x80 ∧
      filled.profile.slots[argByte (frame image) 1]? = some (some ⟨305, 1, .const none⟩) ∧
      argWord (frame image) 3 = 1 ∧ argByte (frame image) (4 * 0 + 8) % 4 = 3) ∧
    (CommandRow.pushContext.wellFormedArgs context = true ∧ argByte (frame context) 9 = 16) ∧
    State.reset.closeOut.engine = .idle :=
  ⟨ready _ _ _ rfl rfl, ready _ _ _ rfl rfl, ready _ _ _ rfl rfl, ready _ _ _ rfl rfl, ready _ _ _ rfl rfl,
    ready _ _ _ rfl rfl, ready _ _ _ rfl rfl, ready _ _ _ rfl rfl, by decide⟩

theorem witness_mapAndMonitorWrites :
    Ready 3#8 (3#8 :: 0#8 :: (mapBytes map21).set 6 2#8) State.reset ∧
    Ready 3#8 (3#8 :: 0#8 :: mapBytes map21) State.reset ∧
    Ready 3#8 (3#8 :: 1#8 :: mapBytes map7) State.reset ∧
    Ready 3#8 (4#8 :: 6#8 :: 2#8 :: ([⟨true, .mo, .scanAvg, 0, 10000, 15, .strict⟩,
      ⟨true, .dw, .slice 0 479, -65535, 65535, 1, .quiet⟩] : List MonitorRecord).flatMap monitorRecordBytes) State.reset ∧
    let held := { scanning with
      contexts := ⟨[], some { ctx305 with map := .a }⟩, tables := { scanning.tables with mapA := some map21 } }
    map21.valid = true ∧ map7.valid = true ∧
    ((held.contexts.inEffect.map Context.map) = some .a ∧ held.frame.carriage = .traverse .scanning .fwd) ∧
    State.reset.contexts.inEffect = none ∧ State.reset.tables.mapA = none ∧
    (let odd : CommandFrame := ⟨0x07#8, 3#8, 3#8 :: 0#8 :: (mapBytes map21).set 6 2#8⟩
     CommandRow.writeMap.wellFormedArgs odd.args = true ∧ argByte odd 0 = 3 ∧ argByte odd 1 = 0 ∧ argByte odd 8 = 2) ∧
    ({ map21 with fixedRange := some (0, 7) } : MapRecord).valid = true ∧
    (map21.id = ({ map21 with sliceCount := 12 } : MapRecord).id ∧ map21.sliceCount ≠ 12) ∧
    (let r : MonitorRecord := ⟨true, .mo, .scanAvg, 0, 10000, 15, .strict⟩
     1 ≤ r.persistence ∧ r.persistence ≤ 15 ∧ r.low ≤ r.high ∧ 0 ≤ r.low ∧ r.high ≤ r.channel.max) ∧
    ((0 : Int) ≤ 0 ∧ (65535 : Int) ≤ 65535 ∧ (-65535 : Int) ≤ -65535 ∧ 0 ≤ 479 ∧ 479 ≤ 479) :=
  ⟨ready _ _ _ rfl rfl, ready _ _ _ rfl rfl, ready _ _ _ rfl rfl, ready _ _ _ rfl rfl, by decide⟩

theorem witness_settingsWrites :
    Ready 3#8 (5#8 :: sheetBytes ⟨.latched, 1000, 255, 600, 30, 120, true, true, 1000, 15⟩) State.reset ∧
    Ready 3#8 (6#8 :: frameBytes ⟨32767, 32767, 32767, 1000, 10000, 1024, 30000⟩) State.reset ∧
    Ready 3#8 [7#8, 1#8, 0#8, 1#8] State.reset ∧
    Ready 3#8 [9#8] State.reset ∧
    State.reset.tables.sheet.valid = true ∧ validFrame State.reset.tables.frame = true ∧
    (⟨.latched, 1000, 255, 600, 30, 120, true, true, 1000, 15⟩ : SheetSettings).valid = true ∧
    validFrame ⟨32767, 32767, 32767, 1000, 10000, 1024, 30000⟩ = true ∧
    (State.reset.tables.sheet.mode ≠ .latched ∧ State.reset.tables.sheet.mode ≠ .report ∧
      State.reset.watch.state = .sheetOn) ∧ 9 ≤ (9#8 : Byte).toNat :=
  ⟨ready _ _ _ rfl rfl, ready _ _ _ rfl rfl, ready _ _ _ rfl rfl, ready _ _ _ rfl rfl, by decide⟩

theorem witness_slots :
    Ready 3#8 ([8#8, 3#8, 0x80#8] ++ be16 65535 ++ be16 480) State.reset ∧
    Ready 3#8 ([8#8, 0#8, 4#8] ++ imageBytes (List.replicate 8 ⟨-1048560, .stale⟩)) withSlot ∧
    Ready 0x11#8 [3#8, 0xFF#8, 0xFF#8] (closing .idle after411) ∧
    Ready 0x12#8 [3#8] (closing .idle after411) ∧
    Ready 0x12#8 [0#8] withSlot ∧
    Ready 0x13#8 [] (closing .idle after411) ∧
    (3 ≤ 3 ∧ 65535 ≤ 65535 ∧ 8 ≤ 8 ∧ 480 ≤ 480) ∧ withSlot.profile.slots[0]? = some (some ⟨305, 8, .const none⟩) ∧
    withSlot.profile.slots[1]? = some none ∧ (List.replicate 8 (⟨-1048560, .stale⟩ : ImageEntry)).length = 8 ∧
    (∀ e ∈ ([⟨1048560, .valid⟩, ⟨0, .unset⟩] : List ImageEntry),
      -1048560 ≤ e.f ∧ e.f ≤ 1048560 ∧ (e.state = .unset → e.f = 0)) ∧
    (withSlot.closeOut.engine = .idle ∧ withSlot.profile.map = none ∧ withSlot.conditions.summary = false) ∧
    (closing .idle after411).profile.map = some ⟨.b, 21, 8⟩ ∧
    (closing (.means bank411 params411) before411).closeOut.engine ≠ .idle :=
  ⟨ready _ _ _ rfl rfl, ready _ _ _ rfl rfl, ready _ _ _ rfl rfl, ready _ _ _ rfl rfl, ready _ _ _ rfl rfl,
    ready _ _ _ rfl rfl, by decide⟩

theorem witness_contexts :
    Ready 5#8 (Context.bytes ⟨65535, .b, 32766, 65535, 65535, 15, 256, 15, 100, 16, some 2000, 255, .restore 3⟩) queued ∧
    Ready 6#8 [] queued ∧
    mapLoaded queued.tables ctx305 = true ∧ (2000 < 8400) ∧ queued.contexts.queue.length < 4 ∧
    4 ≤ ({ queued with contexts := ⟨[ctx305, ctx305, ctx305, ctx305], none⟩ } : State).contexts.queue.length ∧
    (let c : Context := ⟨65535, .b, 32766, 65535, 65535, 15, 256, 15, 100, 16, some 2000, 255, .restore 3⟩
     mapLoaded queued.tables c = true ∧ min c.front 32767 < min c.back 32767 ∧ c.nmin ≤ 15 ∧ c.weight ≤ 256 ∧
     c.staleLimit ≤ 15 ∧ c.quorum ≤ 100 ∧ c.edgeWidth ≤ 16 ∧ c.interval ≤ 255) ∧
    (let c : Context := ⟨0, .b, 40000, 50000, 0, 1, 1, 1, 10, 0, none, 0, .keep⟩
     min c.back 32767 ≤ min c.front 32767 ∧ 1 ≤ c.nmin ∧ 1 ≤ c.weight ∧ 1 ≤ c.staleLimit ∧ 10 ≤ c.quorum) ∧
    (queued.contexts.inEffect = none ∧ (setScanOn true queued).frame.scanOn = true ∧ queued.frame.scanOn = false) :=
  ⟨ready _ _ _ rfl rfl, ready _ _ _ rfl rfl, by decide⟩

/-- Each carriage state that the scan commands tell apart, with a context, without one, and in a break. -/
theorem witness_scanCommands (c : Carriage) :
    (Ready 7#8 [] (inCarriage c queued) ∧ Ready 8#8 [] (inCarriage c queued) ∧ Ready 9#8 [] (inCarriage c queued) ∧
      Ready 10#8 [] (inCarriage c queued) ∧ Ready 11#8 (be16 32767) (inCarriage c queued) ∧
      Ready 12#8 [] (inCarriage c queued) ∧ Ready 11#8 (be16 5000) scanning) ∧
    (inCarriage c queued).frame.carriage = c ∧ (inCarriage c queued).conditions.summary = false ∧
    governing (inCarriage c queued) = some ctx305 ∧ (inCarriage c queued).binning.openTraverse = none ∧
    ((inCarriage c State.reset).contexts.queue = [] ∧ (inCarriage c State.reset).contexts.inEffect = none) ∧
    ((inCarriage c queued).tables.sheet.mode ≠ .report ∧ (inCarriage c queued).watch.state = .sheetOn) ∧
    (scanning.binning.openTraverse = some (traverse21 .fwd) ∧ scanning.frame.carriage = .traverse .scanning .fwd) ∧
    (withDrive false (inCarriage c queued)).frame.lastDrive = some ⟨true, false, false, 0⟩ ∧
    (32767 ≤ 32767 ∧ 32767 < 32768 ∧ 32768 ≤ 65535) :=
  ⟨⟨ready _ _ _ rfl rfl, ready _ _ _ rfl rfl, ready _ _ _ rfl rfl, ready _ _ _ rfl rfl, ready _ _ _ rfl rfl,
    ready _ _ _ rfl rfl, ready _ _ _ rfl rfl⟩, rfl, rfl, rfl, rfl, ⟨rfl, rfl⟩, ⟨fun h => BreakMode.noConfusion h, rfl⟩, by decide, rfl, by decide⟩

/-- Condition sets at the ends of seventeen bits, a decimation at its end, and pass-down payloads of 256 and 257 bytes. -/
theorem witness_conditionCommands :
    (Ready 0x15#8 [] State.reset ∧ Ready 0x16#8 (be24 131072) State.reset ∧ Ready 0x17#8 (be24 131071) State.reset ∧
      Ready 0x18#8 [] State.reset ∧ Ready 0x19#8 (be16 65535) State.reset ∧
      Ready 0x1A#8 (List.replicate 256 0#8) State.reset) ∧
    (131072 ≤ 131072 ∧ 16777215 < 16777216) ∧ 65535 ≤ 65535 ∧ (List.replicate 257 (0#8 : Byte)).length > 256 ∧
    (List.replicate 256 (0#8 : Byte)).length ≤ 256 ∧ State.reset.port.passDown.length < 4 ∧
    4 ≤ (List.replicate 4 [0#8]).length ∧ ([5#8] : List Byte) ≠ [] := by
  refine ⟨⟨ready _ _ _ rfl rfl, ready _ _ _ rfl rfl, ready _ _ _ rfl rfl, ready _ _ _ rfl rfl, ready _ _ _ rfl rfl,
    ready _ _ _ rfl rfl⟩, by decide, by decide, ?_, ?_, by decide, by decide, by decide⟩
  · rw [List.length_replicate]; decide
  · rw [List.length_replicate]

end Sys2Proof.Tests
end

/-! ## Frames: what the operations of the part leave as it is -/

namespace Sys2Proof.Machine

/-! ### Fields that only their owners touch -/

/-- Whether a condition is one that the conditioner alone raises (R3, R7, R8). -/
def Condition.ofConditioner (c : Condition) : Bool := c == .sampleGap || c == .headFault || c == .range

/-- What no part of a SAMPLE behind the conditioner and no operation of the carriage, the break watch, the standardize unit
or the close-out's start changes: the fitted set, the tables but for the calibration regions, and the other records but for
the fields named. -/
structure Untouched (s t : State) : Prop where
  fitted : t.conditioner.fitted = s.conditioner.fitted
  tables : t.tables = { s.tables with curve := t.tables.curve, bias := t.tables.bias, stdf := t.tables.stdf }
  slots : t.profile.slots = s.profile.slots
  trend : t.profile.trend = s.profile.trend
  scanNumber : t.closeOut.scanNumber = s.closeOut.scanNumber
  lastGood : t.binning.lastGood = s.binning.lastGood
  lastDrive : t.frame.lastDrive = s.frame.lastDrive
  monitors : t.monitors = s.monitors
  handler : t.handler = s.handler
  clock : t.clock = s.clock
  pending : t.pending = s.pending
  conditions : t.conditions = { s.conditions with
    raised := t.conditions.raised
    counters := { s.conditions.counters with
      reportsDropped := t.conditions.counters.reportsDropped
      streamDropped := t.conditions.counters.streamDropped } }
  raised : ∀ c : Condition, c.ofConditioner = true →
    (c ∈ t.conditions.raised.map Raising.condition ↔ c ∈ s.conditions.raised.map Raising.condition)
  mill : t.mill = { s.mill with
    reports := t.mill.reports, stream := t.mill.stream, decimationCount := t.mill.decimationCount }
  receiver : t.port.receiver = s.port.receiver
  passDown : t.port.passDown = s.port.passDown
  transmitter : s.port.transmitter.sending ≠ none → t.port.transmitter = s.port.transmitter

/-- What only the stream changes besides (R189, R194). -/
structure StreamKept (s t : State) : Prop where
  stream : t.mill.stream = s.mill.stream
  decimationCount : t.mill.decimationCount = s.mill.decimationCount
  streamDropped : t.conditions.counters.streamDropped = s.conditions.counters.streamDropped

/-- A collection that runs afterwards ran before with what it holds, or has only been started (R29). -/
def CollectsAnew (s t : State) : Prop := ∀ c : Collection, t.standardize.collection = some c →
  s.standardize.collection = some c ∨ (c.count = 0 ∧ c.target = s.tables.frame.s)

/-- What an operation leaves that neither opens a traverse, begins a dwell, ends a collection with a result, nor streams. -/
structure Steady (s t : State) : Prop where
  untouched : Untouched s t
  stream : StreamKept s t
  tables : t.tables = s.tables
  contexts : t.contexts = s.contexts
  lastPosition : t.frame.lastPosition = s.frame.lastPosition
  collection : CollectsAnew s t

variable {s t u : State}

theorem Untouched.refl (s : State) : Untouched s s := by
  constructor <;> intros <;> rfl

theorem Untouched.trans (h : Untouched s t) (k : Untouched t u) : Untouched s u where
  fitted := k.fitted.trans h.fitted
  tables := k.tables.trans (congrArg
    (fun x : Tables => { x with curve := u.tables.curve, bias := u.tables.bias, stdf := u.tables.stdf }) h.tables)
  slots := k.slots.trans h.slots
  trend := k.trend.trans h.trend
  scanNumber := k.scanNumber.trans h.scanNumber
  lastGood := k.lastGood.trans h.lastGood
  lastDrive := k.lastDrive.trans h.lastDrive
  monitors := k.monitors.trans h.monitors
  handler := k.handler.trans h.handler
  clock := k.clock.trans h.clock
  pending := k.pending.trans h.pending
  conditions := k.conditions.trans (congrArg
    (fun x : ConditionUnit => { x with
      raised := u.conditions.raised
      counters := { x.counters with
        reportsDropped := u.conditions.counters.reportsDropped
        streamDropped := u.conditions.counters.streamDropped } }) h.conditions)
  raised c hc := (k.raised c hc).trans (h.raised c hc)
  mill := k.mill.trans (congrArg
    (fun x : MillPort => { x with
      reports := u.mill.reports, stream := u.mill.stream, decimationCount := u.mill.decimationCount }) h.mill)
  receiver := k.receiver.trans h.receiver
  passDown := k.passDown.trans h.passDown
  transmitter hs := (k.transmitter (by rw [h.transmitter hs]; exact hs)).trans (h.transmitter hs)

theorem StreamKept.refl (s : State) : StreamKept s s := ⟨rfl, rfl, rfl⟩

theorem StreamKept.trans (h : StreamKept s t) (k : StreamKept t u) : StreamKept s u :=
  ⟨k.stream.trans h.stream, k.decimationCount.trans h.decimationCount, k.streamDropped.trans h.streamDropped⟩

theorem CollectsAnew.of_eq (h : t.standardize.collection = s.standardize.collection) : CollectsAnew s t :=
  fun _ hc => .inl (h ▸ hc)

theorem CollectsAnew.trans (h : CollectsAnew s t) (k : CollectsAnew t u) (hf : t.tables.frame = s.tables.frame) :
    CollectsAnew s u := by
  intro c hc
  rcases k c hc with hc | hc
  · exact h c hc
  · exact .inr (hf ▸ hc)

theorem Steady.refl (s : State) : Steady s s := ⟨.refl s, .refl s, rfl, rfl, rfl, .of_eq rfl⟩

theorem Steady.trans (h : Steady s t) (k : Steady t u) : Steady s u :=
  ⟨h.untouched.trans k.untouched, h.stream.trans k.stream, k.tables.trans h.tables, k.contexts.trans h.contexts,
    k.lastPosition.trans h.lastPosition, h.collection.trans k.collection (by rw [h.tables])⟩

/-- An operation that changes none of the fields in question, by definition. -/
theorem Steady.of_eq (fitted : t.conditioner.fitted = s.conditioner.fitted) (tables : t.tables = s.tables)
    (profile : t.profile = s.profile) (scanNumber : t.closeOut.scanNumber = s.closeOut.scanNumber)
    (lastGood : t.binning.lastGood = s.binning.lastGood) (lastDrive : t.frame.lastDrive = s.frame.lastDrive)
    (lastPosition : t.frame.lastPosition = s.frame.lastPosition) (contexts : t.contexts = s.contexts)
    (monitors : t.monitors = s.monitors) (handler : t.handler = s.handler) (clock : t.clock = s.clock)
    (pending : t.pending = s.pending) (conditions : t.conditions = s.conditions) (mill : t.mill = s.mill)
    (port : t.port = s.port) (collection : CollectsAnew s t) : Steady s t := by
  obtain ⟨_, _, _, _, _, _, _, _, _, _, _, _, _, _, _, _, _⟩ := t
  subst tables profile contexts monitors handler clock pending conditions mill port
  exact ⟨⟨fitted, rfl, rfl, rfl, scanNumber, lastGood, lastDrive, rfl, rfl, rfl, rfl, rfl, fun _ _ => .rfl, rfl, rfl, rfl,
    fun _ => rfl⟩, ⟨rfl, rfl, rfl⟩, rfl, rfl, lastPosition, collection⟩

/-! ### The port under a hand-over -/

theorem CarriagePort.handDrive_transmitter_busy (p : CarriagePort) (f : DriveFrame) (h : p.transmitter.sending ≠ none) :
    (p.handDrive f).transmitter = p.transmitter := by
  rw [CarriagePort.handDrive_busy p f (Option.isSome_iff_ne_none.mpr h)]

theorem CarriagePort.handHead_transmitter_busy (p : CarriagePort) (m : HeadMode) (h : p.transmitter.sending ≠ none) :
    (p.handHead m).transmitter = p.transmitter := by
  rw [CarriagePort.handHead_busy p m (Option.isSome_iff_ne_none.mpr h)]

/-! ### Single updates -/

theorem quietRuns_steady (s : State) : Steady s (quietRuns s) :=
  .of_eq rfl rfl rfl rfl rfl rfl rfl rfl rfl rfl rfl rfl rfl rfl rfl (.of_eq rfl)

theorem setCarriage_steady (c : Carriage) (s : State) : Steady s (setCarriage c s) :=
  .of_eq rfl rfl rfl rfl rfl rfl rfl rfl rfl rfl rfl rfl rfl rfl rfl (.of_eq rfl)

theorem setScanOn_steady (b : Bool) (s : State) : Steady s (setScanOn b s) :=
  .of_eq rfl rfl rfl rfl rfl rfl rfl rfl rfl rfl rfl rfl rfl rfl rfl (.of_eq rfl)

theorem endMove_steady (s : State) : Steady s (endMove s) :=
  .of_eq rfl rfl rfl rfl rfl rfl rfl rfl rfl rfl rfl rfl rfl rfl rfl (.of_eq rfl)

theorem startSilence_steady (s : State) : Steady s (startSilence s) :=
  .of_eq rfl rfl rfl rfl rfl rfl rfl rfl rfl rfl rfl rfl rfl rfl rfl (.of_eq rfl)

theorem startProbeTimer_steady (s : State) : Steady s (startProbeTimer s) :=
  .of_eq rfl rfl rfl rfl rfl rfl rfl rfl rfl rfl rfl rfl rfl rfl rfl (.of_eq rfl)

theorem enterThreading_steady (s : State) : Steady s (enterThreading s) :=
  .of_eq rfl rfl rfl rfl rfl rfl rfl rfl rfl rfl rfl rfl rfl rfl rfl (.of_eq rfl)

theorem setBreakRun_steady (n : Nat) (s : State) : Steady s (setBreakRun n s) :=
  .of_eq rfl rfl rfl rfl rfl rfl rfl rfl rfl rfl rfl rfl rfl rfl rfl (.of_eq rfl)

theorem setSheetRun_steady (n : Nat) (s : State) : Steady s (setSheetRun n s) :=
  .of_eq rfl rfl rfl rfl rfl rfl rfl rfl rfl rfl rfl rfl rfl rfl rfl (.of_eq rfl)

theorem setWatch_steady (w : BreakWatch) (s : State) : Steady s { s with watch := w } :=
  .of_eq rfl rfl rfl rfl rfl rfl rfl rfl rfl rfl rfl rfl rfl rfl rfl (.of_eq rfl)

theorem setRequestFlag_steady (s : State) :
    Steady s { s with standardize := { s.standardize with request := true } } :=
  .of_eq rfl rfl rfl rfl rfl rfl rfl rfl rfl rfl rfl rfl rfl rfl rfl (.of_eq rfl)

theorem setSilence_steady (k : Option Timer) (s : State) :
    Steady s { s with frame := { s.frame with silence := k } } :=
  .of_eq rfl rfl rfl rfl rfl rfl rfl rfl rfl rfl rfl rfl rfl rfl rfl (.of_eq rfl)

theorem setStall_steady (k : Option StallTimer) (s : State) :
    Steady s { s with frame := { s.frame with stall := k } } :=
  .of_eq rfl rfl rfl rfl rfl rfl rfl rfl rfl rfl rfl rfl rfl rfl rfl (.of_eq rfl)

theorem setFixedPoint_steady (p : Option Nat) (s : State) :
    Steady s { s with frame := { s.frame with fixedPoint := p } } :=
  .of_eq rfl rfl rfl rfl rfl rfl rfl rfl rfl rfl rfl rfl rfl rfl rfl (.of_eq rfl)

theorem endCollection_steady (s : State) : Steady s (endCollection s) :=
  .of_eq rfl rfl rfl rfl rfl rfl rfl rfl rfl rfl rfl rfl rfl rfl rfl (by simp [CollectsAnew])

theorem dropTraverse_steady (s : State) : Steady s (dropTraverse s) :=
  .of_eq rfl rfl rfl rfl rfl rfl rfl rfl rfl rfl rfl rfl rfl rfl rfl (.of_eq rfl)

theorem markTraverse_steady (s : State) : Steady s (markTraverse s) :=
  .of_eq rfl rfl rfl rfl rfl rfl rfl rfl rfl rfl rfl rfl rfl rfl rfl (.of_eq rfl)

theorem setEngine_steady (e : Engine) (s : State) : Steady s (setEngine e s) :=
  .of_eq rfl rfl rfl rfl rfl rfl rfl rfl rfl rfl rfl rfl rfl rfl rfl (.of_eq rfl)

theorem startedCollection_steady (s : State) (p : PerMeasured (Option Participant)) (k : Timer) :
    Steady s { s with standardize := { s.standardize with collection := some ⟨p, s.tables.frame.s, 0, k⟩ } } :=
  .of_eq rfl rfl rfl rfl rfl rfl rfl rfl rfl rfl rfl rfl rfl rfl rfl (by
    intro c hc
    obtain rfl := Option.some.inj hc
    exact .inr ⟨rfl, rfl⟩)

theorem binningTakes_steady (x : Sample) (s : State) : Steady s (binningTakes x s) := by
  unfold binningTakes
  split
  · exact .refl s
  · exact Steady.of_eq rfl rfl rfl rfl rfl rfl rfl rfl rfl rfl rfl rfl rfl rfl rfl (.of_eq rfl)

theorem feedWindows_steady (x : Sample) (s : State) : Steady s (feedWindows x s) := by
  unfold feedWindows
  split
  · exact .refl s
  · exact Steady.of_eq rfl rfl rfl rfl rfl rfl rfl rfl rfl rfl rfl rfl rfl rfl rfl (.of_eq rfl)

/-! ### Hand-overs, raisings and notices -/

theorem handDrive_steady (f : DriveFrame) (s : State) : Steady s (handDrive f s) :=
  ⟨⟨rfl, rfl, rfl, rfl, rfl, rfl, rfl, rfl, rfl, rfl, rfl, rfl, fun _ _ => .rfl, rfl, by simp, by simp,
    s.port.handDrive_transmitter_busy f⟩, ⟨rfl, rfl, rfl⟩, rfl, rfl, rfl,
    .of_eq rfl⟩

theorem handHead_steady (m : HeadMode) (s : State) : Steady s (handHead m s) :=
  ⟨⟨rfl, rfl, rfl, rfl, rfl, rfl, rfl, rfl, rfl, rfl, rfl, rfl, fun _ _ => .rfl, rfl, by simp, by simp,
    s.port.handHead_transmitter_busy m⟩, ⟨rfl, rfl, rfl⟩, rfl, rfl, rfl,
    .of_eq rfl⟩

theorem raise_steady {c : Condition} (h : c.ofConditioner = false) (s : State) : Steady s (raise c s) := by
  have raised (d : Condition) (hd : d.ofConditioner = true) :
      d ∈ (raise c s).conditions.raised.map Raising.condition ↔ d ∈ s.conditions.raised.map Raising.condition := by
    have hne : d ≠ c := fun e => by simp [e, h] at hd
    simp [Raising.condition, alarmNow, hne]
  exact ⟨⟨rfl, rfl, rfl, rfl, rfl, rfl, rfl, rfl, rfl, rfl, rfl, rfl, raised, rfl, rfl, rfl, fun _ => rfl⟩, ⟨rfl, rfl, rfl⟩, rfl,
    rfl, rfl, .of_eq rfl⟩

theorem raiseIf_steady (b : Bool) {c : Condition} (h : c.ofConditioner = false) (s : State) :
    Steady s (raiseIf b c s) := by
  cases b
  · exact .refl s
  · exact raise_steady h s

theorem noteMoment_steady (v : View) (s : State) : Steady s (noteMoment v s) :=
  ⟨⟨rfl, rfl, rfl, rfl, rfl, rfl, rfl, rfl, rfl, rfl, rfl, rfl, fun c _ => by rw [noteMoment_condition], rfl, rfl, rfl,
    fun _ => rfl⟩, ⟨rfl, rfl, rfl⟩, rfl, rfl, rfl,
    .of_eq rfl⟩

theorem placeNotice_steady (n : Notice) (s : State) : Steady s (placeNotice n s) := by
  rw [placeNotice_eq]
  exact ⟨⟨rfl, rfl, rfl, rfl, rfl, rfl, rfl, rfl, rfl, rfl, rfl, rfl, fun _ _ => .rfl, rfl, rfl, rfl, fun _ => rfl⟩,
    ⟨rfl, rfl, rfl⟩, rfl, rfl, rfl,
    .of_eq rfl⟩

theorem abandonTraverse_steady (r : AbandonReason) (s : State) : Steady s (abandonTraverse r s) := by
  cases h : s.binning.openTraverse with
  | none => rw [abandonTraverse_none r s h]; exact .refl s
  | some o => rw [abandonTraverse_some r s o h]; exact (dropTraverse_steady s).trans (placeNotice_steady _ _)

theorem closeTraverse_steady (s : State) : Steady s (closeTraverse s) := by
  cases h : s.binning.openTraverse with
  | none => simp only [closeTraverse, h]; exact .refl s
  | some o =>
    by_cases hi : s.closeOut.engine = .idle
    · rw [closeTraverse_idle s o h hi]
      exact ((dropTraverse_steady s).trans (setEngine_steady _ _)).trans (raiseIf_steady _ rfl _)
    · rw [closeTraverse_busy s o h hi]
      exact ((dropTraverse_steady s).trans (placeNotice_steady _ _)).trans (raise_steady rfl _)

/-! ### Moves, approaches, requests and halts -/

theorem sendMove_steady (target speed : Nat) (s : State) : Steady s (sendMove target speed s) :=
  (handDrive_steady _ s).trans (.of_eq rfl rfl rfl rfl rfl rfl rfl rfl rfl rfl rfl rfl rfl rfl rfl (.of_eq rfl))

theorem sendStop_steady (s : State) : Steady s (sendStop s) := (handDrive_steady _ s).trans (endMove_steady _)

theorem goPark_steady (s : State) : Steady s (goPark s) := (sendMove_steady _ _ s).trans (setCarriage_steady _ _)

theorem beginApproach_steady (s : State) : Steady s (beginApproach s) := by
  unfold beginApproach
  split
  · exact (sendMove_steady _ _ s).trans (setCarriage_steady _ _)
  · exact setCarriage_steady _ s

theorem enterSheetOff_steady (s : State) : Steady s (enterSheetOff s) :=
  ((setWatch_steady _ s).trans (startProbeTimer_steady _)).trans (quietRuns_steady _)

theorem watchArrival_steady (s : State) : Steady s (watchArrival s) := by
  unfold watchArrival
  split
  · split
    · exact enterSheetOff_steady s
    · exact .refl s
  · split
    · exact startProbeTimer_steady s
    · exact .refl s
  · exact .refl s
  · exact .refl s

theorem watchStandardizeEnd_steady (s : State) : Steady s (watchStandardizeEnd s) := by
  unfold watchStandardizeEnd
  split
  · exact enterSheetOff_steady s
  · exact .refl s

theorem watchDwellStart_steady (s : State) : Steady s (watchDwellStart s) := by
  unfold watchDwellStart
  split
  · exact setWatch_steady _ s
  all_goals exact .refl s

theorem enterStandardizing_steady (s : State) : Steady s (enterStandardizing s) :=
  ((setCarriage_steady _ s).trans (startedCollection_steady _ _ _)).trans (handHead_steady _ _)

theorem abandonCollection_steady (s : State) : Steady s (abandonCollection s) := by
  unfold abandonCollection
  split
  · exact .refl s
  · exact (handHead_steady _ s).trans (endCollection_steady _)

theorem setRequest_steady (s : State) : Steady s (setRequest s) := by
  unfold setRequest
  dsimp only
  split
  · exact (setRequestFlag_steady s).trans (enterStandardizing_steady _)
  · exact setRequestFlag_steady s

theorem checkDue_steady (s : State) : Steady s (checkDue s) := by
  unfold checkDue
  split
  · exact setRequest_steady s
  · exact .refl s

theorem parkRequest_steady (s : State) : Steady s (parkRequest s) := by
  have clear := setScanOn_steady false s
  unfold parkRequest
  split
  · exact .refl s
  · exact .refl s
  · exact clear.trans (watchArrival_steady _)
  · exact clear
  · exact clear
  · exact (clear.trans (abandonTraverse_steady _ _)).trans (goPark_steady _)
  · exact clear.trans (goPark_steady _)
  · exact clear.trans (goPark_steady _)

theorem probeRequest_steady (s : State) : Steady s (probeRequest s) := by
  unfold probeRequest
  split
  · exact (sendMove_steady _ _ s).trans (setCarriage_steady _ _)
  · exact startProbeTimer_steady s

theorem startScanning_steady (s : State) : Steady s (startScanning s) := by
  unfold startScanning
  dsimp only
  split
  · exact (setScanOn_steady _ s).trans (beginApproach_steady _)
  · exact setScanOn_steady _ s

theorem startRequest_steady (s : State) : Steady s (startRequest s) := by
  unfold startRequest
  split
  · exact startScanning_steady s
  · exact .refl s

theorem haltCarriage_steady (s : State) : Steady s (haltCarriage s) := by
  refine (abandonTraverse_steady .halt s).trans ?_
  rw [haltCarriage_eq]
  exact Steady.of_eq rfl rfl rfl rfl rfl rfl rfl rfl rfl rfl rfl rfl rfl rfl rfl (.of_eq rfl)

theorem standardizeEnded_steady (s : State) : Steady s (standardizeEnded s) := by
  unfold standardizeEnded
  split
  · exact (beginApproach_steady s).trans (watchStandardizeEnd_steady _)
  · exact (setCarriage_steady _ s).trans (watchStandardizeEnd_steady _)

/-! ### The break watch -/

theorem declareBreak_steady (source : BreakSource) (s : State) : Steady s (declareBreak source s) := by
  unfold declareBreak
  dsimp only
  split
  · exact (((setWatch_steady _ s).trans (quietRuns_steady _)).trans (raise_steady rfl _)).trans (parkRequest_steady _)
  · exact (((setWatch_steady _ s).trans (quietRuns_steady _)).trans (raise_steady rfl _)).trans (markTraverse_steady _)

theorem gapResetRuns_steady (x : Sample) (s : State) : Steady s (gapResetRuns x s) := by
  unfold gapResetRuns
  split
  · exact setWatch_steady _ s
  · exact .refl s

theorem detect_steady (tr : Conditioned) (s : State) : Steady s (detect tr s) := by
  unfold detect
  split
  · exact .refl s
  · split
    · split
      · exact (setBreakRun_steady _ s).trans (declareBreak_steady _ _)
      · exact setBreakRun_steady _ s
    · exact setBreakRun_steady _ s

theorem lookForSheet_steady (tr : Conditioned) (s : State) : Steady s (lookForSheet tr s) := by
  unfold lookForSheet
  split
  · exact .refl s
  · split
    · split
      · exact enterThreading_steady s
      · exact setSheetRun_steady _ s
    · exact setSheetRun_steady _ s

theorem watchTakes_steady (x : Sample) (s : State) : Steady s (watchTakes x s) := by
  have reset := gapResetRuns_steady x s
  unfold watchTakes
  dsimp only
  split
  · exact reset
  · split
    · exact reset.trans (detect_steady _ _)
    · split
      · exact reset.trans (lookForSheet_steady _ _)
      · exact reset

end Sys2Proof.Machine

/-! ## What a SAMPLE's consumers do to tables, contexts, position and stream -/

namespace Sys2Proof.Machine

variable {s t u : State}

/-- The tables after a commit of all three calibration regions (R20). -/
def Tables.commit (t : Tables) : Tables :=
  { t with curve := t.curve.commit, bias := t.bias.commit, stdf := t.stdf.commit }

theorem commit_tables_eq (s : State) : (commit s).tables = s.tables.commit := rfl

/-- What an operation leaves that may open a traverse or begin a dwell: the tables as they were or committed. -/
structure CommitsAtMost (s t : State) : Prop where
  untouched : Untouched s t
  stream : StreamKept s t
  tables : t.tables = s.tables ∨ t.tables = s.tables.commit
  lastPosition : t.frame.lastPosition = s.frame.lastPosition
  collection : CollectsAnew s t

theorem Untouched.tables_frame (h : Untouched s t) : t.tables.frame = s.tables.frame := by rw [h.tables]

theorem Steady.commitsAtMost (h : Steady s t) : CommitsAtMost s t :=
  ⟨h.untouched, h.stream, .inl h.tables, h.lastPosition, h.collection⟩

theorem Steady.thenCommits (h : Steady s t) (k : CommitsAtMost t u) : CommitsAtMost s u :=
  ⟨h.untouched.trans k.untouched, h.stream.trans k.stream, by rw [← h.tables]; exact k.tables,
    k.lastPosition.trans h.lastPosition, h.collection.trans k.collection h.untouched.tables_frame⟩

theorem CommitsAtMost.thenSteady (h : CommitsAtMost s t) (k : Steady t u) : CommitsAtMost s u :=
  ⟨h.untouched.trans k.untouched, h.stream.trans k.stream, by rw [k.tables]; exact h.tables,
    k.lastPosition.trans h.lastPosition, h.collection.trans k.collection h.untouched.tables_frame⟩

theorem commit_commits (s : State) : CommitsAtMost s (commit s) :=
  ⟨⟨rfl, rfl, rfl, rfl, rfl, rfl, rfl, rfl, rfl, rfl, rfl, rfl, fun _ _ => .rfl, rfl, rfl, rfl, fun _ => rfl⟩,
    ⟨rfl, rfl, rfl⟩, .inr rfl, rfl, .of_eq rfl⟩

/-! ### Openings -/

@[simp] theorem applyAction_slots (p : ProfileStore) (a : PendingAction) : (p.applyAction a).slots = p.slots := by
  unfold ProfileStore.applyAction
  split
  · split <;> rfl
  · rfl
  · split
    · split <;> rfl
    · rfl

@[simp] theorem applyAction_trend (p : ProfileStore) (a : PendingAction) : (p.applyAction a).trend = p.trend := by
  unfold ProfileStore.applyAction
  split
  · split <;> rfl
  · rfl
  · split
    · split <;> rfl
    · rfl

theorem takeAction_commits (a : PendingAction) (s : State) : CommitsAtMost s (takeAction a s) := by
  unfold takeAction
  split
  all_goals exact ⟨⟨rfl, rfl, by simp, by simp, rfl, rfl, rfl, rfl, rfl, rfl, rfl, rfl, fun _ _ => .rfl, rfl, rfl, rfl,
    fun _ => rfl⟩, ⟨rfl, rfl, rfl⟩, .inl rfl, rfl, .of_eq rfl⟩

theorem setContexts_commits (q : ContextQueue) (s : State) : CommitsAtMost s { s with contexts := q } :=
  ⟨⟨rfl, rfl, rfl, rfl, rfl, rfl, rfl, rfl, rfl, rfl, rfl, rfl, fun _ _ => .rfl, rfl, rfl, rfl, fun _ => rfl⟩,
    ⟨rfl, rfl, rfl⟩, .inl rfl, rfl, .of_eq rfl⟩

/-- The tables stay when a context is taken. -/
theorem takeContext_tables (r : MapRecord) (s : State) : (takeContext r s).tables = s.tables := by
  unfold takeContext
  split
  · rfl
  · rw [takeAction_tables, (checkDue_steady _).tables]

theorem CommitsAtMost.trans_of_tables (h : CommitsAtMost s t) (ht : t.tables = s.tables) (k : CommitsAtMost t u) :
    CommitsAtMost s u :=
  ⟨h.untouched.trans k.untouched, h.stream.trans k.stream, by rw [← ht]; exact k.tables,
    k.lastPosition.trans h.lastPosition, h.collection.trans k.collection h.untouched.tables_frame⟩

theorem takeContext_commits (r : MapRecord) (s : State) : CommitsAtMost s (takeContext r s) := by
  unfold takeContext
  split
  · exact (Steady.refl s).commitsAtMost
  · rename_i c rest _
    exact (setContexts_commits ⟨rest, some c⟩ s).trans_of_tables rfl ((checkDue_steady _).thenCommits (takeAction_commits _ _))

theorem openTraverse_commits (d : Direction) (s : State) : CommitsAtMost s (openTraverse d s) := by
  cases hg : governing s with
  | none => simp only [openTraverse, hg]; exact (goPark_steady s).commitsAtMost
  | some c =>
    cases hm : s.tables.map c.map with
    | none => simp only [openTraverse, hg, hm]; exact (goPark_steady s).commitsAtMost
    | some r =>
      rw [openTraverse_eq d s c r hg hm]
      have committed := (takeContext_commits r s).trans_of_tables (takeContext_tables r s) (commit_commits _)
      refine committed.thenSteady (.trans (.of_eq ?_ ?_ ?_ ?_ ?_ ?_ ?_ ?_ ?_ ?_ ?_ ?_ ?_ ?_ ?_ (.of_eq ?_))
        ((sendMove_steady _ _ _).trans (setCarriage_steady _ _)))
      all_goals rfl

theorem reverse_commits (d : Direction) (s : State) : CommitsAtMost s (reverse d s) := by
  have ended : Steady s (if breakAtReversal s then abandonTraverse .brk s else closeTraverse s) := by
    split
    · exact abandonTraverse_steady .brk s
    · exact closeTraverse_steady s
  unfold reverse
  dsimp only
  generalize (if breakAtReversal s then abandonTraverse .brk s else closeTraverse s) = u at ended ⊢
  split
  · exact (ended.trans (goPark_steady _)).commitsAtMost
  · exact ended.thenCommits (openTraverse_commits _ _)

/-! ### The frame controller -/

theorem arriveAtPark_steady (s : State) : Steady s (arriveAtPark s) := by
  have arrived := (endMove_steady s).trans (watchArrival_steady _)
  unfold arriveAtPark
  dsimp only
  split
  · exact arrived.trans (enterStandardizing_steady _)
  · split
    · exact arrived.trans (beginApproach_steady _)
    · exact arrived.trans (setCarriage_steady _ _)

theorem startDwell_commits (s : State) : CommitsAtMost s (startDwell s) :=
  (((endMove_steady s).thenCommits (commit_commits _)).thenSteady (setCarriage_steady (.fixed .dwelling) _)).thenSteady
    (.of_eq rfl rfl rfl rfl rfl rfl rfl rfl rfl rfl rfl rfl rfl rfl rfl (.of_eq rfl))

theorem startProbeDwell_steady (s : State) : Steady s (startProbeDwell s) :=
  ((endMove_steady s).trans (setCarriage_steady _ _)).trans (watchDwellStart_steady _)

/-- What the frame controller does after it has noted the position (R94). -/
theorem frameTakes_commits (x : Sample) (s : State) :
    CommitsAtMost (notePosition x.frame.position s) (frameTakes x s) := by
  have rest := (Steady.refl (notePosition x.frame.position s)).commitsAtMost
  unfold frameTakes
  dsimp only
  split
  · split
    · exact (arriveAtPark_steady _).commitsAtMost
    · exact rest
  · split
    · exact (endMove_steady _).thenCommits (openTraverse_commits _ _)
    · exact rest
  · split
    · exact reverse_commits _ _
    · exact rest
  · split
    · exact startDwell_commits _
    · exact rest
  · exact (feedWindows_steady _ _).commitsAtMost
  · split
    · exact (startProbeDwell_steady _).commitsAtMost
    · exact rest
  all_goals exact rest

theorem notePosition_untouched (p : Nat) (s : State) : Untouched s (notePosition p s) := by
  unfold notePosition
  dsimp only
  split
  all_goals
    exact ⟨rfl, rfl, rfl, rfl, rfl, rfl, rfl, rfl, rfl, rfl, rfl, rfl, fun _ _ => .rfl, rfl, rfl, rfl, fun _ => rfl⟩

theorem frameTakes_untouched (x : Sample) (s : State) : Untouched s (frameTakes x s) :=
  (notePosition_untouched _ s).trans (frameTakes_commits x s).untouched

theorem frameTakes_stream (x : Sample) (s : State) : StreamKept s (frameTakes x s) := by
  obtain ⟨h1, h2, h3⟩ := (frameTakes_commits x s).stream
  exact ⟨h1.trans (by simp), h2.trans (by simp), h3.trans (by simp)⟩

theorem frameTakes_tables (x : Sample) (s : State) :
    (frameTakes x s).tables = s.tables ∨ (frameTakes x s).tables = s.tables.commit := by
  simpa using (frameTakes_commits x s).tables

theorem frameTakes_lastPosition (x : Sample) (s : State) :
    (frameTakes x s).frame.lastPosition = some x.frame.position := by
  rw [(frameTakes_commits x s).lastPosition, notePosition_lastPosition]

theorem frameTakes_collection (x : Sample) (s : State) : CollectsAnew s (frameTakes x s) :=
  (CollectsAnew.of_eq (by simp)).trans (frameTakes_commits x s).collection (by simp)

/-! ### The standardize unit -/

theorem stageFactors_tables_cases (r : PerMeasured (Option ParticipantResult)) (s : State) :
    (stageFactors r s).tables = s.tables ∨
    (∃ a ∈ resultList r, a.isPass = true) ∧ (stageFactors r s).tables = { s.tables with
      stdf := s.tables.stdf.stage ⟨stagedFactor s.tables.stdf.staged.bw r.bw, stagedFactor s.tables.stdf.staged.mo r.mo,
        stagedFactor s.tables.stdf.staged.ca r.ca, stagedFactor s.tables.stdf.staged.tr r.tr⟩ } := by
  unfold stageFactors
  split
  · rename_i h
    exact .inr ⟨List.any_eq_true.mp h, rfl⟩
  · exact .inl rfl

theorem stageFactors_untouched (r : PerMeasured (Option ParticipantResult)) (s : State) :
    Untouched s (stageFactors r s) := by
  unfold stageFactors
  split
  all_goals
    exact ⟨rfl, rfl, rfl, rfl, rfl, rfl, rfl, rfl, rfl, rfl, rfl, rfl, fun _ _ => .rfl, rfl, rfl, rfl, fun _ => rfl⟩

/-- A completed standardize, after its factors have been staged (R31, R35). -/
theorem completeStandardize_steady (c : Collection) (s : State) :
    Steady (stageFactors c.results (handHead .normal s)) (completeStandardize c s) := by
  refine .trans (.trans (.trans (.trans (.of_eq ?_ ?_ ?_ ?_ ?_ ?_ ?_ ?_ ?_ ?_ ?_ ?_ ?_ ?_ ?_ (.of_eq ?_))
    (endCollection_steady _)) (raiseIf_steady _ ?_ _)) (raiseIf_steady _ ?_ _)) (standardizeEnded_steady _)
  all_goals rfl

/-- What the standardize unit can do with a sample (R30, R31): leave the tables, or complete the collection and stage the
passing factors. -/
theorem standardizeTakes_tables (x : Sample) (s : State) :
    (standardizeTakes x s).tables = s.tables ∨
    ∃ c, s.standardize.collection = some c ∧ x.frame.reference = true ∧ c.target ≤ c.count + 1 ∧
      (∃ a ∈ resultList (c.add x.frame).results, a.isPass = true) ∧
      (standardizeTakes x s).tables = (stageFactors (c.add x.frame).results s).tables := by
  unfold standardizeTakes
  split
  · exact .inl rfl
  · rename_i c hc
    split
    · rename_i hr
      dsimp only
      split
      · rename_i ht
        rw [(completeStandardize_steady _ s).tables]
        rcases stageFactors_tables_cases (c.add x.frame).results (handHead .normal s) with h | ⟨hp, h⟩
        · exact .inl h
        · refine .inr ⟨c, hc, hr, ht, hp, ?_⟩
          unfold stageFactors
          split <;> rfl
      · exact .inl rfl
    · exact .inl rfl

theorem standardizeTakes_untouched (x : Sample) (s : State) : Untouched s (standardizeTakes x s) := by
  unfold standardizeTakes
  split
  · exact .refl s
  · split
    · dsimp only
      split
      · exact ((handHead_steady .normal s).untouched.trans (stageFactors_untouched _ _)).trans
          (completeStandardize_steady _ s).untouched
      · exact ⟨rfl, rfl, rfl, rfl, rfl, rfl, rfl, rfl, rfl, rfl, rfl, rfl, fun _ _ => .rfl, rfl, rfl, rfl, fun _ => rfl⟩
    · exact .refl s

/-- Stream, contexts and last position are none of the standardize unit's. -/
theorem standardizeTakes_keeps (x : Sample) (s : State) :
    StreamKept s (standardizeTakes x s) ∧ (standardizeTakes x s).contexts = s.contexts ∧
    (standardizeTakes x s).frame.lastPosition = s.frame.lastPosition := by
  unfold standardizeTakes
  split
  · exact ⟨.refl s, rfl, rfl⟩
  · split
    · dsimp only
      split
      · rename_i c _ _ _
        have h := completeStandardize_steady (c.add x.frame) s
        have k : StreamKept s (stageFactors (c.add x.frame).results (handHead .normal s)) := ⟨by simp, by simp, by simp⟩
        exact ⟨k.trans h.stream, h.contexts.trans (by simp), h.lastPosition.trans (by simp)⟩
      · exact ⟨⟨rfl, rfl, rfl⟩, rfl, rfl⟩
    · exact ⟨.refl s, rfl, rfl⟩

/-! ### The stream -/

theorem placeStream_eq (x : Sample) (s : State) : placeStream x s = { s with
    conditions := { s.conditions with counters := { s.conditions.counters with
      streamDropped := if s.mill.stream = none then s.conditions.counters.streamDropped
        else min 65535 (s.conditions.counters.streamDropped + 1) } }
    mill := { s.mill with stream := some ⟨x, s.frame.carriage.direction, s.clock⟩ } } := by
  unfold placeStream
  cases h : s.mill.stream <;> simp [countStreamDropped, saturate_eq_min, Config.counterMax]

/-- With a decimation of 0 nothing is streamed (R188). -/
theorem streamTakes_off (x : Sample) (s : State) (h : s.mill.decimation = 0) : streamTakes x s = s := by
  simp [streamTakes, h]

/-- A sample before the nth is counted (R189). -/
theorem streamTakes_counts (x : Sample) (s : State) (h : s.mill.decimationCount + 1 < s.mill.decimation) :
    streamTakes x s = { s with mill := { s.mill with decimationCount := s.mill.decimationCount + 1 } } := by
  unfold streamTakes
  rw [if_neg (by omega), if_neg (by omega)]

/-- The nth sample is offered to the stream slot (R189, R194). -/
theorem streamTakes_offers (x : Sample) (s : State) (h0 : s.mill.decimation ≠ 0)
    (h : s.mill.decimation ≤ s.mill.decimationCount + 1) :
    streamTakes x s = { s with
      conditions := { s.conditions with counters := { s.conditions.counters with
        streamDropped := if s.mill.stream = none then s.conditions.counters.streamDropped
          else min 65535 (s.conditions.counters.streamDropped + 1) } }
      mill := { s.mill with
        stream := some ⟨x, s.frame.carriage.direction, s.clock⟩, decimationCount := 0 } } := by
  unfold streamTakes
  rw [if_neg h0, if_pos h, placeStream_eq]

/-- The stream changes its count, its slot and the count of what it dropped alone. -/
theorem streamTakes_eq (x : Sample) (s : State) : streamTakes x s = { s with
    conditions := { s.conditions with counters := { s.conditions.counters with
      streamDropped := (streamTakes x s).conditions.counters.streamDropped } }
    mill := { s.mill with
      stream := (streamTakes x s).mill.stream, decimationCount := (streamTakes x s).mill.decimationCount } } := by
  by_cases h0 : s.mill.decimation = 0
  · rw [streamTakes_off x s h0]
  · by_cases h : s.mill.decimation ≤ s.mill.decimationCount + 1
    · rw [streamTakes_offers x s h0 h]
    · rw [streamTakes_counts x s (by omega)]

theorem streamTakes_untouched (x : Sample) (s : State) : Untouched s (streamTakes x s) := by
  rw [streamTakes_eq]
  exact ⟨rfl, rfl, rfl, rfl, rfl, rfl, rfl, rfl, rfl, rfl, rfl, rfl, fun _ _ => .rfl, rfl, rfl, rfl, fun _ => rfl⟩

/-! ### Every consumer -/

/-- A consumer's part of the sample, before its end is noted as a moment (R16; log 7). -/
def Consumer.part (x : Sample) (s : State) : Consumer → State
  | .frameController => frameTakes x (noteMoment { viewNow s with position := some x.frame.position } s)
  | .breakWatch => watchTakes x s
  | .standardizeUnit => standardizeTakes x s
  | .stream => streamTakes x s

theorem Consumer.takes_eq (x : Sample) (s : State) (c : Consumer) :
    c.takes x s = noteMoment (viewNow (c.part x s)) (c.part x s) := by
  cases c <;> rfl

theorem Consumer.takes_steady (x : Sample) (s : State) (c : Consumer) : Steady (c.part x s) (c.takes x s) := by
  rw [Consumer.takes_eq]
  exact noteMoment_steady _ _

theorem Consumer.takes_untouched (x : Sample) (s : State) (c : Consumer) : Untouched s (c.takes x s) := by
  refine .trans ?_ (c.takes_steady x s).untouched
  cases c with
  | frameController => exact (noteMoment_steady _ s).untouched.trans (frameTakes_untouched x _)
  | breakWatch => exact (watchTakes_steady x s).untouched
  | standardizeUnit => exact standardizeTakes_untouched x s
  | stream => exact streamTakes_untouched x s

theorem Consumer.takes_stream (x : Sample) (s : State) (c : Consumer) (h : c ≠ .stream) :
    StreamKept s (c.takes x s) := by
  refine .trans ?_ (c.takes_steady x s).stream
  cases c with
  | frameController => exact (noteMoment_steady _ s).stream.trans (frameTakes_stream x _)
  | breakWatch => exact (watchTakes_steady x s).stream
  | standardizeUnit => exact (standardizeTakes_keeps x s).1
  | stream => exact absurd rfl h

theorem Consumer.takes_lastPosition (x : Sample) (s : State) (c : Consumer) (h : c ≠ .frameController) :
    (c.takes x s).frame.lastPosition = s.frame.lastPosition := by
  rw [(c.takes_steady x s).lastPosition]
  cases c with
  | frameController => exact absurd rfl h
  | breakWatch => exact (watchTakes_steady x s).lastPosition
  | standardizeUnit => exact (standardizeTakes_keeps x s).2.2
  | stream => show (streamTakes x s).frame.lastPosition = _; rw [streamTakes_eq]

/-! ### A list of consumers -/

/-- A relation that holds of every consumer's part holds of the whole list's. -/
theorem foldl_takes_rel {R : State → State → Prop} (x : Sample) (l : List Consumer) (s : State)
    (refl : ∀ s, R s s) (trans : ∀ {a b c}, R a b → R b c → R a c) (h : ∀ c ∈ l, ∀ u, R u (c.takes x u)) :
    R s (l.foldl (Consumer.takes x) s) := by
  induction l generalizing s with
  | nil => exact refl s
  | cons c l ih => exact trans (h c (by simp) s) (ih _ fun d hd => h d (by simp [hd]))

/-- Every order has each consumer at one place: some consumers take the sample before it, the others after it. -/
theorem consumerOrder_split (k : Nat) (c : Consumer) :
    ∃ p q, consumerOrder k = p ++ c :: q ∧ c ∉ p ∧ c ∉ q := by
  have hperm := consumerOrder_perm k
  obtain ⟨p, q, e⟩ := List.append_of_mem (hperm.mem_iff.mpr (show c ∈ Consumer.all by cases c <;> decide))
  have hnodup : (p ++ c :: q).Nodup := e ▸ hperm.nodup_iff.mpr (by decide)
  have hcount : (p ++ c :: q).count c = 1 := List.count_eq_one_of_mem hnodup (by simp)
  simp only [List.count_append, List.count_cons_self] at hcount
  exact ⟨p, q, e, List.count_eq_zero.mp (by omega), List.count_eq_zero.mp (by omega)⟩

end Sys2Proof.Machine

/-! ## What a row leaves that owns none of the held state -/

namespace Sys2Proof.Machine

variable {s t u : State}

/-- What no row but its owners changes: the fitted set, the tables, the save slots, the monitor records, the mask, the
context in effect, a flag that is set and the pending summary that stands. -/
structure Leaves (s t : State) : Prop where
  fitted : t.conditioner.fitted = s.conditioner.fitted
  tables : t.tables = s.tables
  slots : t.profile.slots = s.profile.slots
  records : t.monitors.map Monitor.record = s.monitors.map Monitor.record
  unmasked : t.conditions.unmasked = s.conditions.unmasked
  inEffect : t.contexts.inEffect = s.contexts.inEffect
  flags : ∀ c : Condition, s.conditions.flag c = true → t.conditions.flag c = true
  summary : s.conditions.summary = true → t.conditions.summary = true

theorem Leaves.refl (s : State) : Leaves s s := ⟨rfl, rfl, rfl, rfl, rfl, rfl, fun _ => id, id⟩

theorem Leaves.trans (h : Leaves s t) (k : Leaves t u) : Leaves s u :=
  ⟨k.fitted.trans h.fitted, k.tables.trans h.tables, k.slots.trans h.slots, k.records.trans h.records,
    k.unmasked.trans h.unmasked, k.inEffect.trans h.inEffect, fun c hc => k.flags c (h.flags c hc),
    fun hs => k.summary (h.summary hs)⟩

/-- An operation that leaves the blocks in question. -/
theorem Leaves.of_eq (fitted : t.conditioner.fitted = s.conditioner.fitted) (tables : t.tables = s.tables)
    (slots : t.profile.slots = s.profile.slots) (records : t.monitors.map Monitor.record = s.monitors.map Monitor.record)
    (inEffect : t.contexts.inEffect = s.contexts.inEffect) (unmasked : t.conditions.unmasked = s.conditions.unmasked)
    (flags : t.conditions.flags = s.conditions.flags) (summary : t.conditions.summary = s.conditions.summary) :
    Leaves s t :=
  ⟨fitted, tables, slots, records, unmasked, inEffect, fun c hc => by rw [ConditionUnit.flag, flags]; exact hc,
    fun hs => summary.trans hs⟩

theorem Untouched.flags (h : Untouched s t) : t.conditions.flags = s.conditions.flags := by rw [h.conditions]

theorem Untouched.summary (h : Untouched s t) : t.conditions.summary = s.conditions.summary := by rw [h.conditions]

theorem Untouched.unmasked (h : Untouched s t) : t.conditions.unmasked = s.conditions.unmasked := by rw [h.conditions]

theorem Steady.leaves (h : Steady s t) : Leaves s t :=
  .of_eq h.untouched.fitted h.tables h.untouched.slots (by rw [h.untouched.monitors]) (by rw [h.contexts])
    h.untouched.unmasked h.untouched.flags h.untouched.summary

theorem settle_leaves (s : State) : Leaves s (settle s) := by
  obtain ⟨_, unmasked, _, _, _, flags, summary⟩ := settle_frame s
  exact ⟨by simp, by simp, by simp, by simp, unmasked, by simp, flags, summary⟩

theorem Steady.settle_leaves (h : Steady s t) : Leaves s (settle t) := h.leaves.trans (Machine.settle_leaves t)

/-! ### Events -/

theorem carriageDelivered_leaves (s : State) : Leaves s (carriageDelivered s) :=
  .of_eq rfl rfl rfl rfl rfl rfl rfl rfl

theorem millDelivered_leaves (s : State) : Leaves s (millDelivered s) :=
  .of_eq rfl rfl rfl rfl rfl rfl rfl rfl

theorem raise_leaves (c : Condition) (s : State) : Leaves s (raise c s) :=
  .of_eq rfl rfl rfl rfl rfl rfl rfl rfl

theorem raiseIf_leaves (b : Bool) (c : Condition) (s : State) : Leaves s (raiseIf b c s) := by
  cases b
  · exact .refl s
  · exact raise_leaves c s

theorem queuePassUp_leaves (p : List Byte) (s : State) : Leaves s (queuePassUp p s) := by
  unfold queuePassUp
  split <;> exact .of_eq rfl rfl rfl rfl rfl rfl rfl rfl

theorem queueCommand_leaves (f : CommandFrame) (s : State) : Leaves s (queueCommand f s) := by
  unfold queueCommand
  split <;> exact .of_eq rfl rfl rfl rfl rfl rfl rfl rfl

theorem setReceiver_leaves (l : Link) (r : Receiver) (s : State) : Leaves s (setReceiver l r s) := by
  cases l <;> exact .of_eq rfl rfl rfl rfl rfl rfl rfl rfl

theorem countCheckFailure_leaves (l : Link) (s : State) : Leaves s (countCheckFailure l s) := by
  cases l <;> exact .of_eq rfl rfl rfl rfl rfl rfl rfl rfl

theorem driveFault_steady (s : State) : Steady s (driveFault s) :=
  (((haltCarriage_steady s).trans (abandonCollection_steady _)).trans (sendStop_steady _)).trans (raise_steady rfl _)

theorem takeDriveStatus_leaves (d : DriveStatus) (s : State) : Leaves s (takeDriveStatus d s) := by
  have noted : Leaves s { s with frame := { s.frame with lastDrive := some d } } :=
    .of_eq rfl rfl rfl rfl rfl rfl rfl rfl
  unfold takeDriveStatus
  dsimp only
  split
  · split
    · exact noted.trans ((sendStop_steady _).trans (raise_steady rfl _)).leaves
    · split
      · exact noted.trans ((goPark_steady _).trans (startSilence_steady _)).leaves
      · exact noted
  · exact noted.trans (raiseIf_leaves _ _ _)
  all_goals
    split
    · exact noted.trans (driveFault_steady _).leaves
    · exact noted

theorem arbitrate_leaves (s : State) : Leaves s (arbitrate s) := by
  unfold arbitrate
  split <;> exact .of_eq rfl rfl rfl rfl rfl rfl rfl rfl

theorem abortCollection_steady (s : State) : Steady s (abortCollection s) := by
  unfold abortCollection
  split
  · exact .refl s
  · exact (abandonCollection_steady s).trans (raise_steady rfl _)

theorem haltFor_steady {c : Condition} (h : c.ofConditioner = false) (s : State) : Steady s (haltFor c s) :=
  (((haltCarriage_steady s).trans (sendStop_steady _)).trans (raise_steady h _)).trans (abortCollection_steady _)

theorem silenceExpires_steady (s : State) : Steady s (silenceExpires s) := by
  have idle := setSilence_steady none s
  unfold silenceExpires
  dsimp only
  split
  all_goals first
    | exact idle
    | exact idle.trans (raise_steady rfl _)
    | exact idle.trans (haltFor_steady rfl _)

theorem stallExpires_steady (k : StallTimer) (s : State) : Steady s (stallExpires k s) := by
  unfold stallExpires
  split
  · dsimp only
    split
    · exact haltFor_steady rfl s
    · exact setStall_steady _ s
  · exact setStall_steady _ s

theorem endBreak_steady (s : State) : Steady s (endBreak s) := by
  have park (v : State) : Steady v (if parkMode v then parkRequest v else v) := by
    split
    · exact parkRequest_steady v
    · exact .refl v
  have request (v : State) : Steady v (if v.tables.sheet.standardizeAfter then setRequest v else v) := by
    split
    · exact setRequest_steady v
    · exact .refl v
  have start (v : State) : Steady v (if v.tables.sheet.autoResume then startRequest v else v) := by
    split
    · exact startRequest_steady v
    · exact .refl v
  exact (((((setWatch_steady _ s).trans (quietRuns_steady _)).trans (raise_steady rfl _)).trans (park _)).trans
    ((request _).trans (start _))).trans (setWatch_steady _ _)

theorem tickTimers_leaves (s : State) : Leaves s (tickTimers s) := .of_eq rfl rfl rfl rfl rfl rfl rfl rfl

theorem filterProfile_slots (p : ClosingParams) (m : MeansResults) (st : ProfileStore) :
    (filterProfile p m st).slots = st.slots := by
  simp [filterProfile]

theorem completeFilter_leaves (bank : Bank) (p : ClosingParams) (m : MeansResults) (s : State) :
    Leaves s (completeFilter bank p m s) := by
  have written : Leaves s { s with profile := filterProfile p m s.profile } :=
    .of_eq rfl rfl (filterProfile_slots p m _) rfl rfl rfl rfl rfl
  exact (written.trans (setEngine_steady _ _).leaves).trans (raiseIf_leaves _ _ _)

@[simp] theorem after_record (m : Monitor) (scan : Nat) (o : MonitorOutcome) (n : Option Nat) :
    (m.after scan o n).record = m.record := by
  cases o <;> rfl

@[simp] theorem evaluate_record (scan : Nat) (r : MonitorRecord → Option ChannelResults) (m : Monitor) :
    (Monitor.evaluate scan r m).record = m.record := by
  unfold Monitor.evaluate
  split
  · exact after_record _ _ _ _
  · rfl

theorem completeMonitors_leaves (bank : Bank) (p : ClosingParams) (m : MeansResults) (st : StatsResults) (s : State) :
    Leaves s (completeMonitors bank p m st s) := by
  have evaluated : Leaves s { s with
      monitors := s.monitors.map (Monitor.evaluate (nextScan s) (handedOver m st s.profile.records)) } :=
    .of_eq rfl rfl rfl (by simp [Function.comp_def]) rfl rfl rfl rfl
  exact ((evaluated.trans (setEngine_steady _ _).leaves).trans (raiseIf_leaves _ _ _)).trans (raiseIf_leaves _ _ _)

theorem applyPending_leaves (s : State) : Leaves s (applyPending s) := by
  unfold applyPending
  split
  · exact .of_eq rfl rfl (by simp) rfl rfl rfl rfl rfl
  · exact .refl s

theorem completeReport_leaves (bank : Bank) (p : ClosingParams) (m : MeansResults) (st : StatsResults)
    (mons : List MonitorResult) (s : State) : Leaves s (completeReport bank p m st mons s) := by
  refine .trans ?_ ((applyPending_leaves _).trans (checkDue_steady _).leaves)
  rw [placeReport_eq]
  exact .of_eq rfl rfl rfl rfl rfl rfl rfl rfl

/-! ### Commands -/

/-- What the handler can do with a row: nothing; refuse the command at its front; or hand it to its owner (R177, R179). -/
theorem serve_cases {α : Type} (row : CommandRow) (parse : List Byte → Option α) (owner : α → State → Answer)
    (s : State) :
    serve row parse owner s = s ∨
    (∃ f rest st, serve row parse owner s = s.answered f rest st []) ∨
    ∃ f rest a, AtHand f rest s ∧ rowOf f = row ∧ parse f.args = some a ∧
      serve row parse owner s = respond f (owner a (s.taken f rest)) := by
  by_cases hp : s.handler.phase = .ready
  · cases hq : s.handler.inbound with
    | nil => exact .inl (by simp [serve, takeCommand, hp, hq])
    | cons f rest =>
      by_cases hr : rowOf f = row
      · refine .inr ?_
        have hand : AtHand f rest s := ⟨hp, hq⟩
        cases ha : parse f.args with
        | none => exact .inl ⟨f, rest, .malformed, serve_malformed hand hr ha⟩
        | some a =>
          by_cases hg : row.altering = true ∧ s.conditions.summary = true
          · exact .inl ⟨f, rest, .alarmPending, serve_alarmPending hand hr ha hg.1 hg.2⟩
          · refine .inr ⟨f, rest, a, hand, hr, ha, serve_owner hand hr ha ?_⟩
            simpa [imp_iff_not_or] using hg
      · exact .inl (by simp [serve, takeCommand, hp, hq, hr])
  · exact .inl (serve_notReady hp)

theorem answered_leaves (f : CommandFrame) (rest : List CommandFrame) (st : Status) (r : List Byte) (s : State) :
    Leaves s (s.answered f rest st r) := .of_eq rfl rfl rfl rfl rfl rfl rfl rfl

theorem taken_leaves (f : CommandFrame) (rest : List CommandFrame) (s : State) : Leaves s (s.taken f rest) :=
  .of_eq rfl rfl rfl rfl rfl rfl rfl rfl

theorem respond_leaves (f : CommandFrame) (a : Answer) : Leaves a.state (respond f a) :=
  .of_eq rfl rfl rfl rfl rfl rfl rfl rfl

/-- A row whose owner leaves the held state. -/
theorem serve_leaves {α : Type} {row : CommandRow} {parse : List Byte → Option α} {owner : α → State → Answer}
    (h : ∀ a u, Leaves u (owner a u).state) (s : State) : Leaves s (serve row parse owner s) := by
  rcases serve_cases row parse owner s with e | ⟨f, rest, st, e⟩ | ⟨f, rest, a, _, _, _, e⟩ <;> rw [e]
  · exact .refl s
  · exact answered_leaves f rest st [] s
  · exact ((taken_leaves f rest s).trans (h a _)).trans (respond_leaves f _)

section
variable (s : State)

theorem readTable_leaves (a : ReadArgs) : Leaves s (readTable a s).state := by
  unfold readTable
  split <;> exact .refl s

theorem standardizeCommand_leaves (a : Unit) : Leaves s (standardizeCommand a s).state := by
  unfold standardizeCommand
  split
  all_goals first
    | exact .refl s
    | exact (setRequest_steady s).leaves

theorem parkCommand_leaves (a : Unit) : Leaves s (parkCommand a s).state := by
  have clear := setScanOn_steady false s
  have sent := (clear.trans (abandonTraverse_steady .park _)).trans (goPark_steady _)
  unfold parkCommand
  split
  case h_1 => exact .refl s
  case h_2 => exact clear.leaves
  case h_3 => exact ((clear.trans (abandonCollection_steady _)).trans (goPark_steady _)).leaves
  case h_8 =>
    split
    · exact ((goPark_steady s).trans (startSilence_steady _)).leaves
    · exact .refl s
  all_goals exact sent.leaves

theorem startCommand_leaves (a : Unit) : Leaves s (startCommand a s).state := by
  unfold startCommand
  split
  · exact .refl s
  · exact (startScanning_steady s).leaves

theorem stopCommand_leaves (a : Unit) : Leaves s (stopCommand a s).state := by
  have clear := setScanOn_steady false s
  unfold stopCommand
  dsimp only
  split
  all_goals first
    | exact clear.leaves
    | exact (clear.trans (goPark_steady _)).leaves

theorem resumeCommand_leaves (a : Unit) : Leaves s (resumeCommand a s).state := by
  unfold resumeCommand
  split
  · split
    · exact .refl s
    · split
      · exact .refl s
      · exact ((setScanOn_steady true s).trans (beginApproach_steady _)).leaves
  all_goals exact .refl s

theorem goFixed_steady (p : Nat) : Steady s (goFixed p s) :=
  ((((setScanOn_steady false s).trans (abandonTraverse_steady .fixed _)).trans (setFixedPoint_steady _ _)).trans
    (sendMove_steady _ _ _)).trans (setCarriage_steady _ _)

theorem fixedPointCommand_leaves (p : Nat) : Leaves s (fixedPointCommand p s).state := by
  unfold fixedPointCommand
  split
  · exact .refl s
  · split
    case h_1 | h_2 | h_3 | h_4 => exact .refl s
    all_goals
      split
      · exact .refl s
      · exact (goFixed_steady s p).leaves

theorem readFixed_leaves (n : Nat) : Leaves s (readFixed n s).state := by
  unfold readFixed
  split
  · exact .refl s
  · split <;> exact .refl s

theorem pushContext_leaves (a : ContextArgs) : Leaves s (pushContext a s).state := by
  unfold pushContext
  split
  · exact .refl s
  · split
    · exact raise_leaves _ s
    · exact .of_eq rfl rfl rfl rfl rfl rfl rfl rfl

theorem flushQueue_leaves (a : Unit) : Leaves s (flushQueue a s).state := by
  unfold flushQueue
  split <;> exact .of_eq rfl rfl rfl rfl rfl rfl rfl rfl

theorem sheetNotice_leaves (k : Nat) : Leaves s (sheetNotice k s).state := by
  have declared := (declareBreak_steady .mill s).leaves
  have threading := (enterThreading_steady s).leaves
  unfold sheetNotice breakNotice restoredNotice
  split
  · split
    all_goals first
      | exact .refl s
      | exact declared
  · split
    all_goals first
      | exact .refl s
      | exact threading
  · exact .refl s

theorem readProfile_leaves (n : Nat) : Leaves s (readProfile n s).state := by
  unfold readProfile
  split
  · exact .refl s
  · split
    · exact .refl s
    · split <;> exact .refl s

theorem readTrend_leaves (n : Nat) : Leaves s (readTrend n s).state := by
  unfold readTrend
  split <;> exact .refl s

theorem restoreProfile_leaves (k : Nat) : Leaves s (restoreProfile k s).state := by
  unfold restoreProfile
  split
  · exact .refl s
  · split
    · exact .refl s
    · split
      · exact .refl s
      · split
        · exact .refl s
        · split <;> exact .of_eq rfl rfl rfl rfl rfl rfl rfl rfl

theorem clearProfile_leaves (a : Unit) : Leaves s (clearProfile a s).state := by
  unfold clearProfile
  split
  · exact .refl s
  · split <;> exact .of_eq rfl rfl rfl rfl rfl rfl rfl rfl

theorem passDown_leaves (p : List Byte) : Leaves s (passDown p s).state := by
  unfold passDown
  split
  · exact .refl s
  · split <;> exact .of_eq rfl rfl rfl rfl rfl rfl rfl rfl

end

/-! ### Every row that owns none of the held state -/

/-- The rows that own some of it. -/
def ownsHeldState : Instr → Bool
  | .powerOnReset | .sample _ | .headAnnounce _ | .writeTableCurve | .writeTableBias | .writeTableStdf | .writeTableMap
  | .writeTableMonitor | .writeTableSheet | .writeTableFrame | .writeTableChannel | .writeTableSlotHeader
  | .writeTableSlotImage | .lockCalibration | .saveProfile | .ackAlarm | .clearConditions | .setMask | .restart => true
  | _ => false

theorem exec_leaves (i : Instr) (hi : ownsHeldState i = false) (h : exec i s = .next t) : Leaves s t := by
  cases i
  case powerOnReset | sample | headAnnounce | writeTableCurve | writeTableBias | writeTableStdf | writeTableMap
    | writeTableMonitor | writeTableSheet | writeTableFrame | writeTableChannel | writeTableSlotHeader
    | writeTableSlotImage | lockCalibration | saveProfile | ackAlarm | clearConditions | setMask | restart =>
    exact absurd hi (by simp [ownsHeldState])
  all_goals obtain rfl := Host.Outcome.next.inj h
  case driveStatus d =>
    exact ((carriageDelivered_leaves s).trans (takeDriveStatus_leaves d _)).trans (settle_leaves _)
  case passUp p => exact ((carriageDelivered_leaves s).trans (queuePassUp_leaves p _)).trans (settle_leaves _)
  case command f => exact ((millDelivered_leaves s).trans (queueCommand_leaves f _)).trans (settle_leaves _)
  case frameCheckFailure l c =>
    exact (((setReceiver_leaves l .hunting s).trans (countCheckFailure_leaves l _)).trans (raise_leaves _ _)).trans
      (settle_leaves _)
  case millTransmit =>
    split
    · exact arbitrate_leaves s
    · exact .refl s
  case carriageTransmit | millFrameCompleted | carriageFrameCompleted =>
    exact .of_eq rfl rfl rfl rfl rfl rfl rfl rfl
  case syncPairFound l =>
    split
    · exact setReceiver_leaves l _ s
    · exact .refl s
  case millisecondTick => exact (tickTimers_leaves s).trans (.of_eq rfl rfl rfl rfl rfl rfl rfl rfl)
  case silenceTimerExpiry =>
    split
    · exact (silenceExpires_steady s).settle_leaves
    · exact .refl s
  case stallTimerExpiry =>
    split
    · split
      · exact (stallExpires_steady _ s).settle_leaves
      · exact .refl s
    · exact .refl s
  case stdTimerExpiry =>
    split
    · split
      · exact (((abandonCollection_steady s).trans (raise_steady rfl _)).trans (standardizeEnded_steady _)).settle_leaves
      · exact .refl s
    · exact .refl s
  case probeTimerExpiry =>
    split
    · exact ((setWatch_steady _ s).trans (probeRequest_steady _)).leaves
    · exact .refl s
  case probeDwellExpiry =>
    split
    · exact (((setWatch_steady _ s).trans (parkRequest_steady _)).trans (startProbeTimer_steady _)).leaves
    · exact .refl s
  case holdOffExpiry =>
    split
    · exact (endBreak_steady s).settle_leaves
    · exact .refl s
  case meansComplete | statsComplete =>
    split
    · exact (setEngine_steady _ s).leaves
    · exact .refl s
  case filterComplete =>
    split
    · exact (completeFilter_leaves _ _ _ s).trans (settle_leaves _)
    · exact .refl s
  case monitorsComplete =>
    split
    · exact (completeMonitors_leaves _ _ _ _ s).trans (settle_leaves _)
    · exact .refl s
  case reportComplete =>
    split
    · exact completeReport_leaves _ _ _ _ _ s
    · exact .refl s
  case readTable => exact serve_leaves (fun a u => readTable_leaves u a) s
  case pushContext => exact (serve_leaves (fun a u => pushContext_leaves u a) s).trans (settle_leaves _)
  case flushQueue => exact serve_leaves (fun a u => flushQueue_leaves u a) s
  case startScan => exact serve_leaves (fun a u => startCommand_leaves u a) s
  case stopScan => exact serve_leaves (fun a u => stopCommand_leaves u a) s
  case park => exact serve_leaves (fun a u => parkCommand_leaves u a) s
  case resume => exact serve_leaves (fun a u => resumeCommand_leaves u a) s
  case fixedPoint => exact serve_leaves (fun a u => fixedPointCommand_leaves u a) s
  case standardize => exact serve_leaves (fun a u => standardizeCommand_leaves u a) s
  case readFixed => exact serve_leaves (fun a u => readFixed_leaves u a) s
  case readProfile => exact serve_leaves (fun a u => readProfile_leaves u a) s
  case readTrend => exact serve_leaves (fun a u => readTrend_leaves u a) s
  case restoreProfile => exact serve_leaves (fun a u => restoreProfile_leaves u a) s
  case clearProfile => exact serve_leaves (fun a u => clearProfile_leaves u a) s
  case sheetNotice => exact (serve_leaves (fun a u => sheetNotice_leaves u a) s).trans (settle_leaves _)
  case passDown => exact (serve_leaves (fun a u => passDown_leaves u a) s).trans (settle_leaves _)
  case readStatus | writeTableUnknownRegion | unknownCommandCode => exact serve_leaves (fun _ u => .refl u) s
  case clearCounters | setStream => exact serve_leaves (fun _ u => .of_eq rfl rfl rfl rfl rfl rfl rfl rfl) s

end Sys2Proof.Machine

/-! ## The conditioner, whole samples, and what the owners of held state change -/

namespace Sys2Proof.Machine

variable {s t u : State}

/-! ### The conditioner (R1, R3, R7, R8) -/

/-- The gap total after a sample (R3, R174). -/
def gapTotalAfter (f : SampleFrame) (s : State) : Nat :=
  match gapOf s.conditioner.expected f.sequence with
  | none => s.conditions.counters.gapTotal
  | some g => min 65535 (s.conditions.counters.gapTotal + g)

/-- What the conditioner raises of a sample, in its order (R3, R7, R8; log 28). -/
def conditionerRaises (f : SampleFrame) (s : State) : List Condition :=
  (if (gapOf s.conditioner.expected f.sequence).isSome then [.sampleGap] else []) ++
  (if (sampleOf f s).anyFaulted then [.headFault] else []) ++ (if (sampleOf f s).anyClamped then [.range] else [])

theorem raiseIf_eq (b : Bool) (c : Condition) (s : State) : raiseIf b c s = { s with
    conditions := { s.conditions with raised := (raiseIf b c s).conditions.raised } } := by
  cases b <;> rfl

theorem raiseIf_raised (b : Bool) (c : Condition) (s : State) :
    (raiseIf b c s).conditions.raised.map Raising.condition =
      s.conditions.raised.map Raising.condition ++ (if b then [c] else []) := by
  cases b <;> simp [raiseIf, Raising.condition, alarmNow]

theorem trackSequence_eq (f : SampleFrame) (s : State) : trackSequence f s = { s with
    conditioner := { s.conditioner with expected := some ((f.sequence + 1) % 256) }
    conditions := { s.conditions with
      counters := { s.conditions.counters with gapTotal := gapTotalAfter f s }
      raised := (trackSequence f s).conditions.raised } } := by
  unfold trackSequence gapTotalAfter
  cases gapOf s.conditioner.expected f.sequence with
  | none => rfl
  | some g => simp [raise, countGap, saturate_eq_min, Config.counterMax]

theorem trackSequence_raised (f : SampleFrame) (s : State) :
    (trackSequence f s).conditions.raised.map Raising.condition = s.conditions.raised.map Raising.condition ++
      (if (gapOf s.conditioner.expected f.sequence).isSome then [.sampleGap] else []) := by
  unfold trackSequence
  cases gapOf s.conditioner.expected f.sequence with
  | none => simp
  | some g => simp [countGap, Raising.condition, alarmNow]

/-- The conditioner changes its expectation, the gap total and the raisings alone. -/
theorem conditionerTakes_eq (f : SampleFrame) (s : State) : conditionerTakes f s = { s with
    conditioner := { s.conditioner with expected := some ((f.sequence + 1) % 256) }
    conditions := { s.conditions with
      counters := { s.conditions.counters with gapTotal := gapTotalAfter f s }
      raised := (conditionerTakes f s).conditions.raised } } := by
  unfold conditionerTakes
  dsimp only
  rw [raiseIf_eq, raiseIf_eq, trackSequence_eq]

theorem conditionerTakes_raised (f : SampleFrame) (s : State) :
    (conditionerTakes f s).conditions.raised.map Raising.condition =
      s.conditions.raised.map Raising.condition ++ conditionerRaises f s := by
  unfold conditionerTakes conditionerRaises
  dsimp only
  rw [raiseIf_raised, raiseIf_raised, trackSequence_raised, List.append_assoc, List.append_assoc, List.append_assoc]

/-! ### A whole sample -/

/-- The state in which a SAMPLE frame has been delivered, before the conditioner acts (log 6, log 10). -/
def delivered (s : State) : State := carriageDelivered { s with choices := s.choices + 1 }

/-- The state in which conditioner, binning unit and edge finder have taken the sample (log 8). -/
def beforeConsumers (f : SampleFrame) (s : State) : State :=
  binningTakes (sampleOf f s) (conditionerTakes f (delivered s))

theorem beforeConsumers_standardize (f : SampleFrame) (s : State) :
    (beforeConsumers f s).standardize = s.standardize := by
  rw [beforeConsumers, binningTakes_standardize, conditionerTakes_eq]
  rfl

theorem beforeConsumers_frame (f : SampleFrame) (s : State) : (beforeConsumers f s).frame = s.frame := by
  rw [beforeConsumers, binningTakes_frame, conditionerTakes_eq]
  rfl

theorem takeSample_eq (f : SampleFrame) (s : State) : takeSample f s =
    (consumerOrder (Config.consumerOrder s.choices)).foldl (Consumer.takes (sampleOf f s)) (beforeConsumers f s) := rfl

/-- What the consumers of a sample together leave. -/
theorem takeSample_untouched (f : SampleFrame) (s : State) :
    Untouched (conditionerTakes f (delivered s)) (takeSample f s) := by
  rw [takeSample_eq]
  refine (binningTakes_steady (sampleOf f s) _).untouched.trans ?_
  exact foldl_takes_rel _ _ _ Untouched.refl Untouched.trans fun c _ u => c.takes_untouched _ u

theorem conditionerTakes_leaves (f : SampleFrame) (s : State) : Leaves s (conditionerTakes f (delivered s)) := by
  rw [conditionerTakes_eq]
  exact .of_eq rfl rfl rfl rfl rfl rfl rfl rfl

theorem beforeConsumers_leaves (f : SampleFrame) (s : State) : Leaves s (beforeConsumers f s) :=
  (conditionerTakes_leaves f s).trans (binningTakes_steady _ _).leaves

/-! ### Held state and its owners (O14) -/

/-- What a row changes of the held state, power-on reset apart: each item by its owners alone. -/
structure HeldBy (i : Instr) (s t : State) : Prop where
  locked : s.tables.locked = true → t.tables.locked = true
  sheet : s.tables.sheet.mode = .latched → t.tables.sheet = s.tables.sheet
  flags : i ≠ .restart → i ≠ .clearConditions → ∀ c : Condition, s.conditions.flag c = true → t.conditions.flag c = true
  summary : i ≠ .restart → i ≠ .ackAlarm → s.conditions.summary = true → t.conditions.summary = true
  slots : t.profile.slots ≠ s.profile.slots → i = .saveProfile ∨ i = .writeTableSlotHeader ∨ i = .writeTableSlotImage
  unmasked : t.conditions.unmasked ≠ s.conditions.unmasked → i = .setMask
  records : t.monitors.map Monitor.record ≠ s.monitors.map Monitor.record → i = .writeTableMonitor
  inEffect : t.contexts.inEffect ≠ s.contexts.inEffect → i = .restart ∨ ∃ f, i = .sample f

theorem Leaves.heldBy (h : Leaves s t) (i : Instr) : HeldBy i s t where
  locked hl := by rw [h.tables]; exact hl
  sheet _ := by rw [h.tables]
  flags _ _ := h.flags
  summary _ _ := h.summary
  slots hne := absurd h.slots hne
  unmasked hne := absurd h.unmasked hne
  records hne := absurd h.records hne
  inEffect hne := absurd h.inEffect hne

theorem HeldBy.thenLeaves {i : Instr} (h : HeldBy i s t) (k : Leaves t u) : HeldBy i s u where
  locked hl := by rw [k.tables]; exact h.locked hl
  sheet hl := by rw [k.tables]; exact h.sheet hl
  flags h1 h2 c hc := k.flags c (h.flags h1 h2 c hc)
  summary h1 h2 hs := k.summary (h.summary h1 h2 hs)
  slots := by rw [k.slots]; exact h.slots
  unmasked := by rw [k.unmasked]; exact h.unmasked
  records := by rw [k.records]; exact h.records
  inEffect := by rw [k.inEffect]; exact h.inEffect

/-- What holds of a row of the handler: it leaves the held state, or its owner acts on the command at its front. -/
theorem serve_ind {α : Type} {row : CommandRow} {parse : List Byte → Option α} {owner : α → State → Answer}
    {P : State → Prop} (leaves : ∀ t, Leaves s t → P t)
    (owned : ∀ f rest a, parse f.args = some a → P (respond f (owner a (s.taken f rest)))) :
    P (serve row parse owner s) := by
  rcases serve_cases row parse owner s with e | ⟨f, rest, st, e⟩ | ⟨f, rest, a, _, _, ha, e⟩ <;> rw [e]
  · exact leaves s (.refl s)
  · exact leaves _ (answered_leaves f rest st [] s)
  · exact owned f rest a ha

/-- A row whose owner changes held state as its owner. -/
theorem serve_heldBy {α : Type} {row : CommandRow} {parse : List Byte → Option α} {owner : α → State → Answer}
    {i : Instr} (h : ∀ a u, HeldBy i u (owner a u).state) (s : State) : HeldBy i s (serve row parse owner s) := by
  refine serve_ind (P := HeldBy i s) (fun t ht => ht.heldBy i) fun f rest a _ => ?_
  obtain ⟨h1, h2, h3, h4, h5, h6, h7, h8⟩ := h a (s.taken f rest)
  exact HeldBy.thenLeaves ⟨h1, h2, h3, h4, h5, h6, h7, h8⟩ (respond_leaves f _)

/-- A write to the tables that keeps a set lock and LATCHED settings. -/
theorem heldBy_of_tables (i : Instr) (s : State) (x : Tables) (locked : s.tables.locked = true → x.locked = true)
    (sheet : s.tables.sheet.mode = .latched → x.sheet = s.tables.sheet) : HeldBy i s { s with tables := x } where
  locked := locked
  sheet := sheet
  flags _ _ _ := id
  summary _ _ := id
  slots hne := absurd rfl hne
  unmasked hne := absurd rfl hne
  records hne := absurd rfl hne
  inEffect hne := absurd rfl hne

theorem heldBy_of_slots {i : Instr} (hi : i = .saveProfile ∨ i = .writeTableSlotHeader ∨ i = .writeTableSlotImage)
    (s : State) (x : ProfileStore) : HeldBy i s { s with profile := x } where
  locked := id
  sheet _ := rfl
  flags _ _ _ := id
  summary _ _ := id
  slots _ := hi
  unmasked hne := absurd rfl hne
  records hne := absurd rfl hne
  inEffect hne := absurd rfl hne

section
variable (s : State)

theorem writeCurve_heldBy (i : Instr) (a : CurveArgs) : HeldBy i s (writeCurve a s).state := by
  unfold writeCurve
  split
  · exact (Leaves.refl s).heldBy i
  · split
    · exact (Leaves.refl s).heldBy i
    · exact heldBy_of_tables i s _ id fun _ => rfl

theorem writeBias_heldBy (i : Instr) (a : Nat × List BiasArgs) : HeldBy i s (writeBias a s).state := by
  unfold writeBias
  split
  · exact (Leaves.refl s).heldBy i
  · split
    · exact (Leaves.refl s).heldBy i
    · split
      · exact (Leaves.refl s).heldBy i
      · exact heldBy_of_tables i s _ id fun _ => rfl

theorem writeStdf_heldBy (i : Instr) (a : Nat × List Nat) : HeldBy i s (writeStdf a s).state := by
  unfold writeStdf
  split
  · exact (Leaves.refl s).heldBy i
  · split
    · exact (Leaves.refl s).heldBy i
    · exact heldBy_of_tables i s _ id fun _ => rfl

theorem writeMap_heldBy (i : Instr) (a : MapArgs) : HeldBy i s (writeMap a s).state := by
  unfold writeMap
  split
  · exact (Leaves.refl s).heldBy i
  · rename_i l _
    split
    · exact (Leaves.refl s).heldBy i
    · split
      · exact (Leaves.refl s).heldBy i
      · refine heldBy_of_tables i s _ (fun h => ?_) fun _ => ?_
        · cases l <;> exact h
        · cases l <;> rfl

theorem writeMonitor_heldBy (a : Nat × List MonitorArgs) : HeldBy .writeTableMonitor s (writeMonitor a s).state := by
  have rest := (Leaves.refl s).heldBy .writeTableMonitor
  unfold writeMonitor
  split
  · exact rest
  · split
    · exact rest
    · split
      · exact rest
      · exact ⟨id, fun _ => rfl, fun _ _ _ => id, fun _ _ => id, fun h => absurd rfl h, fun h => absurd rfl h,
          fun _ => rfl, fun h => absurd rfl h⟩

theorem writeSheet_heldBy (i : Instr) (a : SheetArgs) : HeldBy i s (writeSheet a s).state := by
  unfold writeSheet
  split
  · exact (Leaves.refl s).heldBy i
  · rename_i hl
    split
    · exact (Leaves.refl s).heldBy i
    · split
      · exact (Leaves.refl s).heldBy i
      · exact heldBy_of_tables i s _ id fun h => absurd h hl

theorem writeFrame_heldBy (i : Instr) (a : FrameSettings) : HeldBy i s (writeFrame a s).state := by
  unfold writeFrame
  split
  · exact heldBy_of_tables i s _ id fun _ => rfl
  · exact (Leaves.refl s).heldBy i

theorem writeChannel_heldBy (i : Instr) (a : Nat × Nat × Nat) : HeldBy i s (writeChannel a s).state := by
  unfold writeChannel
  split
  · exact heldBy_of_tables i s _ id fun _ => rfl
  · exact (Leaves.refl s).heldBy i

theorem writeSlotHeader_heldBy (a : Nat × Nat × Nat) :
    HeldBy .writeTableSlotHeader s (writeSlotHeader a s).state := by
  unfold writeSlotHeader
  split
  · exact (Leaves.refl s).heldBy _
  · exact heldBy_of_slots (by simp) s _

theorem writeSlotImage_heldBy (a : ImageArgs) : HeldBy .writeTableSlotImage s (writeSlotImage a s).state := by
  have rest := (Leaves.refl s).heldBy .writeTableSlotImage
  unfold writeSlotImage
  split
  · exact rest
  · split
    · exact rest
    · split
      · exact rest
      · split
        · exact rest
        · split
          · exact rest
          · exact heldBy_of_slots (by simp) s _

theorem saveProfile_heldBy (a : Nat × Nat) : HeldBy .saveProfile s (saveProfile a s).state := by
  have rest := (Leaves.refl s).heldBy .saveProfile
  unfold saveProfile
  split
  · exact rest
  · split
    · exact rest
    · split
      · exact rest
      · exact heldBy_of_slots (by simp) s _

theorem clearConditions_heldBy (n : Nat) : HeldBy .clearConditions s (clearConditions n s).state := by
  unfold clearConditions
  split
  · exact (Leaves.refl s).heldBy _
  · exact ⟨id, fun _ => rfl, fun _ h => absurd rfl h, fun _ _ => id, fun h => absurd rfl h, fun h => absurd rfl h,
      fun h => absurd rfl h, fun h => absurd rfl h⟩

theorem setMask_heldBy (n : Nat) : HeldBy .setMask s (setMask n s).state := by
  unfold setMask
  split
  · exact (Leaves.refl s).heldBy _
  · exact ⟨id, fun _ => rfl, fun _ _ _ => id, fun _ _ => id, fun h => absurd rfl h, fun _ => rfl,
      fun h => absurd rfl h, fun h => absurd rfl h⟩

theorem ackAlarm_heldBy (a : Unit) : HeldBy .ackAlarm s (ackAlarm a s).state :=
  ⟨id, fun _ => rfl, fun _ _ _ => id, fun _ h => absurd rfl h, fun h => absurd rfl h, fun h => absurd rfl h,
    fun h => absurd rfl h, fun h => absurd rfl h⟩

theorem restartCarriage_steady : Steady s (restartCarriage s) := by
  unfold restartCarriage
  split
  all_goals first
    | exact .refl s
    | exact setCarriage_steady _ s
    | exact goPark_steady s

theorem restartBlocks_heldBy : HeldBy .restart s (restartBlocks s) :=
  ⟨id, fun _ => rfl, fun h => absurd rfl h, fun h => absurd rfl h, fun h => absurd rfl h, fun h => absurd rfl h,
    fun h => absurd (by simp [restartBlocks, Monitor.fresh, Function.comp_def]) h, fun _ => .inl rfl⟩

theorem restartCommand_heldBy (a : Unit) : HeldBy .restart s (restartCommand a s).state := by
  have abandoned := (abandonCollection_steady s).leaves
  obtain ⟨h1, h2, _, _, h5, h6, h7, _⟩ := restartBlocks_heldBy (abandonCollection s)
  refine HeldBy.thenLeaves ?_ (restartCarriage_steady _).leaves
  rw [abandoned.tables] at h1 h2
  rw [abandoned.slots] at h5
  rw [abandoned.unmasked] at h6
  rw [abandoned.records] at h7
  exact ⟨h1, h2, fun h => absurd rfl h, fun h => absurd rfl h, h5, h6, h7, fun _ => .inl rfl⟩

/-- A SAMPLE changes the context in effect alone (by a traverse opening). -/
theorem takeSample_heldBy (f : SampleFrame) : HeldBy (.sample f) s (takeSample f s) := by
  have conditioned := conditionerTakes_leaves f s
  have h := takeSample_untouched f s
  exact {
    locked := fun hl => by rw [h.tables, conditioned.tables]; exact hl
    sheet := fun _ => by rw [h.tables, conditioned.tables]
    flags := fun _ _ c hc => by rw [ConditionUnit.flag, h.flags]; exact conditioned.flags c hc
    summary := fun _ _ hs => by rw [h.summary]; exact conditioned.summary hs
    slots := fun hne => absurd (h.slots.trans conditioned.slots) hne
    unmasked := fun hne => absurd (h.unmasked.trans conditioned.unmasked) hne
    records := fun hne => absurd ((congrArg _ h.monitors).trans conditioned.records) hne
    inEffect := fun _ => .inr ⟨f, rfl⟩ }

end

/-- Every row changes held state as its owner alone, power-on reset apart. -/
theorem exec_heldBy (i : Instr) (hi : i ≠ .powerOnReset) (h : exec i s = .next t) : HeldBy i s t := by
  by_cases ho : ownsHeldState i = false
  · exact (exec_leaves i ho h).heldBy i
  cases i
  all_goals obtain rfl := Host.Outcome.next.inj h
  case powerOnReset => exact absurd rfl hi
  case sample f => exact (takeSample_heldBy s f).thenLeaves (settle_leaves _)
  case headAnnounce n =>
    exact ⟨id, fun _ => rfl, fun _ _ _ => id, fun _ _ => id, fun h => absurd rfl h, fun h => absurd rfl h,
      fun h => absurd rfl h, fun h => absurd rfl h⟩
  case writeTableCurve => exact serve_heldBy (fun a u => writeCurve_heldBy u _ a) s
  case writeTableBias => exact serve_heldBy (fun a u => writeBias_heldBy u _ a) s
  case writeTableStdf => exact serve_heldBy (fun a u => writeStdf_heldBy u _ a) s
  case writeTableMap => exact serve_heldBy (fun a u => writeMap_heldBy u _ a) s
  case writeTableMonitor => exact serve_heldBy (fun a u => writeMonitor_heldBy u a) s
  case writeTableSheet => exact serve_heldBy (fun a u => writeSheet_heldBy u _ a) s
  case writeTableFrame => exact serve_heldBy (fun a u => writeFrame_heldBy u _ a) s
  case writeTableChannel => exact serve_heldBy (fun a u => writeChannel_heldBy u _ a) s
  case writeTableSlotHeader => exact serve_heldBy (fun a u => writeSlotHeader_heldBy u a) s
  case writeTableSlotImage => exact serve_heldBy (fun a u => writeSlotImage_heldBy u a) s
  case lockCalibration =>
    exact serve_heldBy (fun _ u => heldBy_of_tables _ u { u.tables with locked := true } (fun _ => rfl) fun _ => rfl) s
  case saveProfile => exact serve_heldBy (fun a u => saveProfile_heldBy u a) s
  case ackAlarm => exact serve_heldBy (fun a u => ackAlarm_heldBy u a) s
  case clearConditions => exact serve_heldBy (fun a u => clearConditions_heldBy u a) s
  case setMask => exact serve_heldBy (fun a u => setMask_heldBy u a) s
  case restart => exact serve_heldBy (fun a u => restartCommand_heldBy u a) s
  all_goals exact absurd rfl ho

/-- Settles O14: the held state, row by row, by its owners. -/
theorem heldStateChangesByItsOwnersAlone : Obligations.HeldStateChangesByItsOwnersAlone := by
  unfold Obligations.HeldStateChangesByItsOwnersAlone
  refine ⟨fun i s t hi h => ?_, fun i s t h hi hr => ?_, fun i s t hi h => ?_⟩
  · have k := exec_heldBy i hi h
    exact ⟨k.locked, k.sheet⟩
  · have k := exec_heldBy i hi h
    exact ⟨k.flags hr, k.summary hr⟩
  · have k := exec_heldBy i hi h
    exact ⟨k.slots, k.unmasked, k.records, k.inEffect⟩

end Sys2Proof.Machine

/-! ## The tables stay within their write rules (O11) -/

namespace Sys2Proof.Machine

variable {s t u : State}

/-! ### Regions -/

theorem Region.valid_iff {α : Type} (test : α → Bool) (r : Region α) : r.valid test = true ↔
    test r.staged = true ∧ test r.inEffect = true ∧ r.stagedGen ≤ 65535 ∧ r.inEffectGen ≤ 65535 := by
  simp [Region.valid, and_assoc]

theorem nextGeneration_le (a b : Nat) : nextGeneration a b ≤ 65535 := by
  unfold nextGeneration
  dsimp only
  split <;> omega

theorem Region.stage_valid {α : Type} {test : α → Bool} {r : Region α} {a : α} (h : r.valid test = true)
    (ha : test a = true) : (r.stage a).valid test = true := by
  obtain ⟨_, inEffect, _, gen⟩ := (Region.valid_iff test r).mp h
  exact (Region.valid_iff test _).mpr ⟨ha, inEffect, nextGeneration_le _ _, gen⟩

theorem Region.commit_valid {α : Type} {test : α → Bool} {r : Region α} (h : r.valid test = true) :
    r.commit.valid test = true := by
  unfold Region.commit
  split
  · exact h
  · obtain ⟨staged, _, gen, _⟩ := (Region.valid_iff test r).mp h
    exact (Region.valid_iff test _).mpr ⟨staged, staged, gen, gen⟩

/-! ### Operations that leave the tables valid -/

theorem tablesValid_of_eq (h : TablesValid s) (tables : t.tables = s.tables)
    (fitted : t.conditioner.fitted = s.conditioner.fitted) : TablesValid t := by
  unfold TablesValid
  rw [tables, fitted]
  exact h

theorem Leaves.tablesValid (h : Leaves s t) (hs : TablesValid s) : TablesValid t :=
  tablesValid_of_eq hs h.tables h.fitted

theorem tablesValid_commit (h : TablesValid s) (tables : t.tables = s.tables.commit)
    (fitted : t.conditioner.fitted = s.conditioner.fitted) : TablesValid t := by
  obtain ⟨curve, bias, stdf, rest⟩ := h
  unfold TablesValid
  rw [tables, fitted]
  exact ⟨Region.commit_valid curve, Region.commit_valid bias, Region.commit_valid stdf, rest⟩

/-! ### Bytes of the writes -/

theorem toNat_byte_le (b : Byte) : b.toNat ≤ 255 := Nat.le_of_lt_succ b.isLt

theorem u16_le (h l : Byte) : u16 h l ≤ 65535 := by
  have := toNat_byte_le h
  have := toNat_byte_le l
  unfold u16
  omega

theorem counted_eq_some {α : Type} {n : Nat} {o : Option (List α)} {l : List α} :
    counted n o = some l ↔ o = some l ∧ l.length = n := by
  cases o <;> simp [counted, Option.filter]
  grind

/-- What every group of four bytes gives holds of every member of the list. -/
theorem foursOf_forall {α : Type} {f : Byte → Byte → Byte → Byte → α} {P : α → Prop} (hf : ∀ a b c d, P (f a b c d)) :
    ∀ {bytes : List Byte} {l : List α}, foursOf f bytes = some l → ∀ x ∈ l, P x
  | [], _, h, x, hx => by
    obtain rfl := Option.some.inj h
    exact absurd hx (by simp)
  | a :: b :: c :: d :: rest, _, h, x, hx => by
    simp only [foursOf, Option.map_eq_some_iff] at h
    obtain ⟨l, hl, rfl⟩ := h
    rcases List.mem_cons.mp hx with rfl | hx
    · exact hf a b c d
    · exact foursOf_forall hf hl x hx
  | [_], _, h, _, _ => by simp [foursOf] at h
  | [_, _], _, h, _, _ => by simp [foursOf] at h
  | [_, _, _], _, h, _, _ => by simp [foursOf] at h

theorem curveArgs_bounded {bytes : List Byte} {a : CurveArgs} (h : curveArgs bytes = some a) :
    (∀ p ∈ a.points, p.r ≤ 65535) ∧ a.rRef ≤ 65535 := by
  unfold curveArgs at h
  split at h
  · simp only [Option.map_eq_some_iff, counted_eq_some] at h
    obtain ⟨ps, ⟨hps, _⟩, rfl⟩ := h
    exact ⟨foursOf_forall (P := fun p => p.r ≤ 65535) (fun _ _ _ _ => u16_le _ _) hps, u16_le _ _⟩
  · exact absurd h (by simp)

theorem mapArgs_id_le {bytes : List Byte} {a : MapArgs} (h : mapArgs bytes = some a) : a.id ≤ 65535 := by
  unfold mapArgs at h
  split at h
  · split at h
    · split at h
      · simp only [Option.map_eq_some_iff] at h
        obtain ⟨_, _, rfl⟩ := h
        exact u16_le _ _
      · exact absurd h (by simp)
    · simp only [Option.map_eq_some_iff] at h
      obtain ⟨_, _, rfl⟩ := h
      exact u16_le _ _
  · exact absurd h (by simp)

/-! ### What the checks of the writes establish -/

theorem between_iff (lo hi n : Nat) : between lo hi n = true ↔ lo ≤ n ∧ n ≤ hi := by simp [between]

/-- A curve that passes R10 is one that its channel admits. -/
theorem validCurve_valid {a : CurveArgs} {c : Curve} (h : validCurve a = some c) (hr : ∀ p ∈ a.points, p.r ≤ 65535)
    (hf : a.rRef ≤ 65535) : ∃ top, PerMeasured.at? measuredMax a.index = some top ∧ c.valid top = true := by
  unfold validCurve at h
  split at h
  · rename_i p rest top hp htop
    split at h
    · rename_i hc
      obtain rfl := Option.some.inj h
      rw [hp] at hc hr
      simp only [Bool.and_eq_true, bne_iff_ne, decide_eq_true_eq, List.all_eq_true] at hc
      obtain ⟨⟨⟨⟨count, rising⟩, values⟩, ref⟩, limit⟩ := hc
      refine ⟨top, htop, ?_⟩
      simp only [Curve.valid, Bool.and_eq_true, decide_eq_true_eq, List.all_eq_true, between_iff]
      exact ⟨⟨⟨⟨(between_iff _ _ _).mp count, rising⟩, fun q hq => ⟨hr q hq, values q hq⟩⟩, by omega, hf⟩, limit⟩
    · exact absurd h (by simp)
  · exact absurd h (by simp)

theorem curvesValid_iff (p : PerMeasured (Option Curve)) : curvesValid p = true ↔
    (p.bw.all (Curve.valid 65535) = true ∧ p.mo.all (Curve.valid 10000) = true) ∧
    p.ca.all (Curve.valid 65535) = true ∧ p.tr.all (Curve.valid 1000) = true := by
  simp [curvesValid, measuredMax, and_assoc]

theorem curvesValid_setAt {p : PerMeasured (Option Curve)} {k top : Nat} {c : Curve} (h : curvesValid p = true)
    (htop : PerMeasured.at? measuredMax k = some top) (hc : c.valid top = true) :
    curvesValid (PerMeasured.setAt p k (some c)) = true := by
  obtain ⟨⟨bw, mo⟩, ca, tr⟩ := (curvesValid_iff p).mp h
  rw [curvesValid_iff]
  match k with
  | 0 => obtain rfl := Option.some.inj htop; exact ⟨⟨hc, mo⟩, ca, tr⟩
  | 1 => obtain rfl := Option.some.inj htop; exact ⟨⟨bw, hc⟩, ca, tr⟩
  | 2 => obtain rfl := Option.some.inj htop; exact ⟨⟨bw, mo⟩, hc, tr⟩
  | 3 => obtain rfl := Option.some.inj htop; exact ⟨⟨bw, mo⟩, ca, hc⟩
  | _ + 4 => exact absurd htop (by simp [PerMeasured.at?])

theorem validBias_range {a : BiasArgs} {b : BiasEntry} (h : validBias a = some b) : -2000 ≤ b.bias ∧ b.bias ≤ 2000 := by
  unfold validBias at h
  split at h
  · split at h
    · obtain rfl := Option.some.inj h
      assumption
    · exact absurd h (by simp)
  · exact absurd h (by simp)

/-- A list that a check maps whole has every member from a member that passes. -/
theorem mapM_some_mem {α β : Type} {f : α → Option β} :
    ∀ {l : List α} {r : List β}, l.mapM f = some r → r.length = l.length ∧ ∀ b ∈ r, ∃ a ∈ l, f a = some b
  | [], _, h => by
    obtain rfl := Option.some.inj h
    simp
  | a :: l, _, h => by
    rw [List.mapM_cons] at h
    simp only [Option.bind_eq_bind, Option.bind_eq_some_iff, Option.pure_def, Option.some.injEq] at h
    obtain ⟨b, hb, r, hr, rfl⟩ := h
    obtain ⟨len, mem⟩ := mapM_some_mem hr
    refine ⟨by simp [len], fun x hx => ?_⟩
    rcases List.mem_cons.mp hx with rfl | hx
    · exact ⟨a, by simp, hb⟩
    · obtain ⟨y, hy, hf⟩ := mem x hx
      exact ⟨y, by simp [hy], hf⟩

theorem biasesValid_iff (l : List BiasEntry) :
    biasesValid l = true ↔ l.length = 8 ∧ ∀ b ∈ l, -2000 ≤ b.bias ∧ b.bias ≤ 2000 := by
  simp [biasesValid]

theorem biasesValid_writeAt {l new : List BiasEntry} {k : Nat} (h : biasesValid l = true) (hk : k + new.length ≤ 8)
    (hn : ∀ b ∈ new, -2000 ≤ b.bias ∧ b.bias ≤ 2000) : biasesValid (writeAt l k new) = true := by
  obtain ⟨len, old⟩ := (biasesValid_iff l).mp h
  rw [biasesValid_iff]
  refine ⟨by rw [writeAt_length _ _ _ (by omega), len], fun b hb => ?_⟩
  simp only [writeAt, List.mem_append] at hb
  rcases hb with (hb | hb) | hb
  · exact old b (List.mem_of_mem_take hb)
  · exact hn b hb
  · exact old b (List.mem_of_mem_drop hb)

theorem factorsValid_iff (p : PerMeasured Nat) : factorsValid p = true ↔
    ((8192 ≤ p.bw ∧ p.bw ≤ 32767) ∧ (8192 ≤ p.mo ∧ p.mo ≤ 32767)) ∧
    (8192 ≤ p.ca ∧ p.ca ≤ 32767) ∧ 8192 ≤ p.tr ∧ p.tr ≤ 32767 := by
  simp [factorsValid, between, and_assoc]

theorem factorsValid_writeAt {new : List Nat} : ∀ {p : PerMeasured Nat} {k : Nat}, factorsValid p = true →
    (∀ q ∈ new, 8192 ≤ q ∧ q ≤ 32767) → factorsValid (PerMeasured.writeAt p k new) = true := by
  induction new with
  | nil => exact fun h _ => h
  | cons q new ih =>
    intro p k h hq
    refine ih ?_ fun r hr => hq r (by simp [hr])
    have hq := hq q (by simp)
    obtain ⟨⟨bw, mo⟩, ca, tr⟩ := (factorsValid_iff p).mp h
    rw [factorsValid_iff]
    match k with
    | 0 => exact ⟨⟨hq, mo⟩, ca, tr⟩
    | 1 => exact ⟨⟨bw, hq⟩, ca, tr⟩
    | 2 => exact ⟨⟨bw, mo⟩, hq, tr⟩
    | 3 => exact ⟨⟨bw, mo⟩, ca, hq⟩
    | _ + 4 => exact ⟨⟨bw, mo⟩, ca, tr⟩

theorem validRange_valid {present n : Nat} {r : Option (Nat × Nat)} {v : Option (Nat × Nat)}
    (h : validRange present n r = some v) : v.all (fun p => decide (p.1 ≤ p.2) && decide (p.2 < n)) = true := by
  unfold validRange at h
  split at h
  · obtain rfl := Option.some.inj h
    rfl
  · split at h
    · obtain rfl := Option.some.inj h
      simpa
    · exact absurd h (by simp)
  · exact absurd h (by simp)

/-- A map that passes R43 is one that R43 admits. -/
theorem validMap_valid {stored : Option MapRecord} {a : MapArgs} {r : MapRecord} (h : validMap stored a = some r)
    (hid : a.id ≤ 65535) : r.valid = true := by
  unfold validMap at h
  split at h
  · exact absurd h (by simp)
  · rename_i range hrange
    dsimp only at h
    split at h
    · rename_i hc
      obtain rfl := Option.some.inj h
      simp only [Bool.and_eq_true, bne_iff_ne, beq_iff_eq] at hc
      obtain ⟨⟨⟨⟨⟨id, count⟩, len⟩, positions⟩, rising⟩, _⟩ := hc
      simp only [MapRecord.valid, Bool.and_eq_true, decide_eq_true_eq]
      exact ⟨⟨⟨⟨⟨(between_iff _ _ _).mpr ⟨by omega, hid⟩, count⟩, len⟩, positions⟩, rising⟩, validRange_valid hrange⟩
    · exact absurd h (by simp)

theorem validSheet_valid {a : SheetArgs} {x : SheetSettings} (h : validSheet a = some x) : x.valid = true := by
  unfold validSheet at h
  split at h
  · split at h
    · obtain rfl := Option.some.inj h
      assumption
    · exact absurd h (by simp)
  · exact absurd h (by simp)

/-! ### The owners of table memory -/

section
variable (hs : TablesValid s)
include hs

theorem writeCurve_tablesValid {bytes : List Byte} {a : CurveArgs} (ha : curveArgs bytes = some a) :
    TablesValid (writeCurve a s).state := by
  unfold writeCurve
  split
  · exact hs
  · split
    · exact hs
    · rename_i c hc
      obtain ⟨positions, ref⟩ := curveArgs_bounded ha
      obtain ⟨top, htop, valid⟩ := validCurve_valid hc positions ref
      obtain ⟨curve, rest⟩ := hs
      exact ⟨Region.stage_valid curve (curvesValid_setAt ((Region.valid_iff _ _).mp curve).1 htop valid), rest⟩

theorem writeBias_tablesValid (a : Nat × List BiasArgs) : TablesValid (writeBias a s).state := by
  unfold writeBias
  split
  · exact hs
  · split
    · exact hs
    · rename_i hlen
      split
      · exact hs
      · rename_i es hes
        obtain ⟨len, mem⟩ := mapM_some_mem hes
        obtain ⟨curve, bias, rest⟩ := hs
        refine ⟨curve, Region.stage_valid bias (biasesValid_writeAt ((Region.valid_iff _ _).mp bias).1 (by omega) ?_), rest⟩
        intro b hb
        obtain ⟨_, _, hv⟩ := mem b hb
        exact validBias_range hv

theorem writeStdf_tablesValid (a : Nat × List Nat) : TablesValid (writeStdf a s).state := by
  unfold writeStdf
  split
  · exact hs
  · split
    · exact hs
    · rename_i hc
      simp only [Bool.or_eq_true, Bool.not_eq_true', decide_eq_true_eq, not_or, Bool.not_eq_false, List.all_eq_true,
        between_iff] at hc
      obtain ⟨curve, bias, stdf, rest⟩ := hs
      exact ⟨curve, bias, Region.stage_valid stdf (factorsValid_writeAt ((Region.valid_iff _ _).mp stdf).1 hc.2), rest⟩

theorem writeMap_tablesValid {bytes : List Byte} {a : MapArgs} (ha : mapArgs bytes = some a) :
    TablesValid (writeMap a s).state := by
  unfold writeMap
  split
  · exact hs
  · rename_i l _
    split
    · exact hs
    · split
      · exact hs
      · rename_i r hr
        have valid := validMap_valid hr (mapArgs_id_le ha)
        obtain ⟨curve, bias, stdf, mapA, mapB, rest⟩ := hs
        cases l
        · exact ⟨curve, bias, stdf, valid, mapB, rest⟩
        · exact ⟨curve, bias, stdf, mapA, valid, rest⟩

theorem writeSheet_tablesValid (a : SheetArgs) : TablesValid (writeSheet a s).state := by
  unfold writeSheet
  split
  · exact hs
  · split
    · exact hs
    · rename_i x hx
      split
      · exact hs
      · obtain ⟨curve, bias, stdf, mapA, mapB, _, rest⟩ := hs
        exact ⟨curve, bias, stdf, mapA, mapB, validSheet_valid hx, rest⟩

theorem writeFrame_tablesValid (a : FrameSettings) : TablesValid (writeFrame a s).state := by
  unfold writeFrame
  split
  · obtain ⟨curve, bias, stdf, mapA, mapB, sheet, _, rest⟩ := hs
    exact ⟨curve, bias, stdf, mapA, mapB, sheet, ‹_›, rest⟩
  · exact hs

theorem writeChannel_tablesValid (a : Nat × Nat × Nat) : TablesValid (writeChannel a s).state := by
  unfold writeChannel
  split
  · obtain ⟨curve, bias, stdf, mapA, mapB, sheet, frame, _⟩ := hs
    refine ⟨curve, bias, stdf, mapA, mapB, sheet, frame, ?_, ?_, ?_⟩
    all_goals exact fun h => (Bool.and_eq_true_iff.mp h).2
  · exact hs

theorem announce_tablesValid (n : PerMeasured Bool) : TablesValid (announce n s) := by
  obtain ⟨curve, bias, stdf, mapA, mapB, sheet, frame, _⟩ := hs
  refine ⟨curve, bias, stdf, mapA, mapB, sheet, frame, ?_, ?_, ?_⟩
  all_goals exact fun h => (Bool.and_eq_true_iff.mp h).1

end

/-! ### A sample -/

theorem clampFactor_range (q : Nat) : 8192 ≤ clampFactor q ∧ clampFactor q ≤ 32767 := by
  unfold clampFactor
  omega

theorem result_passes_range {target q : Nat} {p : Participant} (h : p.result target = .passes q) :
    8192 ≤ q ∧ q ≤ 32767 := by
  unfold Participant.result at h
  split at h
  · exact absurd h (by simp)
  · dsimp only at h
    split at h
    · exact absurd h (by simp)
    · split at h
      · exact absurd h (by simp)
      · obtain rfl := ParticipantResult.passes.inj h
        exact clampFactor_range _

/-- A staged factor stays in range under a participant's result (R34). -/
theorem stagedFactor_range {old target : Nat} (p : Option Participant) (h : 8192 ≤ old ∧ old ≤ 32767) :
    8192 ≤ stagedFactor old (p.map (·.result target)) ∧ stagedFactor old (p.map (·.result target)) ≤ 32767 := by
  cases p with
  | none => exact h
  | some p =>
    cases hr : p.result target with
    | failsCoverage => simpa [stagedFactor, hr] using h
    | failsDrift => simpa [stagedFactor, hr] using h
    | passes q => simpa [stagedFactor, hr] using result_passes_range hr

theorem stageFactors_tablesValid (c : Collection) (hs : TablesValid s) : TablesValid (stageFactors c.results s) := by
  rcases stageFactors_tables_cases c.results s with h | ⟨_, h⟩
  · exact tablesValid_of_eq hs h (by simp)
  · obtain ⟨curve, bias, stdf, rest⟩ := hs
    obtain ⟨⟨bw, mo⟩, ca, tr⟩ := (factorsValid_iff _).mp ((Region.valid_iff _ _).mp stdf).1
    unfold TablesValid
    rw [h, stageFactors_conditioner]
    refine ⟨curve, bias, Region.stage_valid stdf ((factorsValid_iff _).mpr ?_), rest⟩
    exact ⟨⟨stagedFactor_range _ bw, stagedFactor_range _ mo⟩, stagedFactor_range _ ca, stagedFactor_range _ tr⟩

theorem standardizeTakes_tablesValid (x : Sample) (hs : TablesValid s) : TablesValid (standardizeTakes x s) := by
  have fitted := (standardizeTakes_untouched x s).fitted
  rcases standardizeTakes_tables x s with h | ⟨c, _, _, _, _, h⟩
  · exact tablesValid_of_eq hs h fitted
  · exact tablesValid_of_eq (stageFactors_tablesValid _ hs) h (by rw [fitted, stageFactors_conditioner])

theorem frameTakes_tablesValid (x : Sample) (hs : TablesValid s) : TablesValid (frameTakes x s) := by
  have fitted := (frameTakes_untouched x s).fitted
  rcases frameTakes_tables x s with h | h
  · exact tablesValid_of_eq hs h fitted
  · exact tablesValid_commit hs h fitted

theorem Consumer.takes_tablesValid (x : Sample) (c : Consumer) (hs : TablesValid s) : TablesValid (c.takes x s) := by
  refine (c.takes_steady x s).leaves.tablesValid ?_
  cases c with
  | frameController => exact frameTakes_tablesValid x ((noteMoment_steady _ s).leaves.tablesValid hs)
  | breakWatch => exact (watchTakes_steady x s).leaves.tablesValid hs
  | standardizeUnit => exact standardizeTakes_tablesValid x hs
  | stream => exact tablesValid_of_eq hs (by rw [Consumer.part, streamTakes_eq]) (by rw [Consumer.part, streamTakes_eq])

theorem takeSample_tablesValid (f : SampleFrame) (hs : TablesValid s) : TablesValid (takeSample f s) := by
  rw [takeSample_eq]
  exact foldl_takes_rel (R := fun a b => TablesValid a → TablesValid b) _ _ _ (fun _ => id) (fun h k ha => k (h ha))
    (fun c _ u hu => c.takes_tablesValid _ hu) ((beforeConsumers_leaves f s).tablesValid hs)

/-! ### Rows that own no table memory -/

/-- Tables and fitted set are the same. -/
def TablesKept (s t : State) : Prop := t.tables = s.tables ∧ t.conditioner.fitted = s.conditioner.fitted

theorem Leaves.tablesKept (h : Leaves s t) : TablesKept s t := ⟨h.tables, h.fitted⟩

theorem serve_tablesKept {α : Type} {row : CommandRow} {parse : List Byte → Option α} {owner : α → State → Answer}
    (h : ∀ a u, TablesKept u (owner a u).state) (s : State) : TablesKept s (serve row parse owner s) :=
  serve_ind (fun _ ht => ht.tablesKept) fun f rest a _ => h a (s.taken f rest)

section
variable (s : State)

theorem writeMonitor_tablesKept (a : Nat × List MonitorArgs) : TablesKept s (writeMonitor a s).state := by
  unfold writeMonitor
  split
  · exact ⟨rfl, rfl⟩
  · split
    · exact ⟨rfl, rfl⟩
    · split <;> exact ⟨rfl, rfl⟩

theorem writeSlotHeader_tablesKept (a : Nat × Nat × Nat) : TablesKept s (writeSlotHeader a s).state := by
  unfold writeSlotHeader
  split <;> exact ⟨rfl, rfl⟩

theorem writeSlotImage_tablesKept (a : ImageArgs) : TablesKept s (writeSlotImage a s).state := by
  unfold writeSlotImage
  split
  · exact ⟨rfl, rfl⟩
  · split
    · exact ⟨rfl, rfl⟩
    · split
      · exact ⟨rfl, rfl⟩
      · split
        · exact ⟨rfl, rfl⟩
        · split <;> exact ⟨rfl, rfl⟩

theorem saveProfile_tablesKept (a : Nat × Nat) : TablesKept s (saveProfile a s).state := by
  unfold saveProfile
  split
  · exact ⟨rfl, rfl⟩
  · split
    · exact ⟨rfl, rfl⟩
    · split <;> exact ⟨rfl, rfl⟩

theorem clearConditions_tablesKept (n : Nat) : TablesKept s (clearConditions n s).state := by
  unfold clearConditions
  split <;> exact ⟨rfl, rfl⟩

theorem setMask_tablesKept (n : Nat) : TablesKept s (setMask n s).state := by
  unfold setMask
  split <;> exact ⟨rfl, rfl⟩

theorem restartCommand_tablesKept (a : Unit) : TablesKept s (restartCommand a s).state := by
  obtain ⟨tables, fitted⟩ := (restartCarriage_steady (restartBlocks (abandonCollection s))).leaves.tablesKept
  exact ⟨tables.trans (by simp [restartBlocks]), fitted.trans (by simp [restartBlocks])⟩

end

/-- The rows that write to the tables or to the fitted set. -/
def ownsTables : Instr → Bool
  | .powerOnReset | .sample _ | .headAnnounce _ | .writeTableCurve | .writeTableBias | .writeTableStdf | .writeTableMap
  | .writeTableSheet | .writeTableFrame | .writeTableChannel | .lockCalibration => true
  | _ => false

theorem exec_tablesKept (i : Instr) (hi : ownsTables i = false) (h : exec i s = .next t) : TablesKept s t := by
  by_cases ho : ownsHeldState i = false
  · exact (exec_leaves i ho h).tablesKept
  cases i
  all_goals obtain rfl := Host.Outcome.next.inj h
  case writeTableMonitor => exact serve_tablesKept (fun a u => writeMonitor_tablesKept u a) s
  case writeTableSlotHeader => exact serve_tablesKept (fun a u => writeSlotHeader_tablesKept u a) s
  case writeTableSlotImage => exact serve_tablesKept (fun a u => writeSlotImage_tablesKept u a) s
  case saveProfile => exact serve_tablesKept (fun a u => saveProfile_tablesKept u a) s
  case ackAlarm => exact serve_tablesKept (fun _ _ => ⟨rfl, rfl⟩) s
  case clearConditions => exact serve_tablesKept (fun a u => clearConditions_tablesKept u a) s
  case setMask => exact serve_tablesKept (fun a u => setMask_tablesKept u a) s
  case restart => exact serve_tablesKept (fun a u => restartCommand_tablesKept u a) s
  all_goals first
    | exact absurd rfl ho
    | exact absurd hi (by simp [ownsTables])

/-! ### Every row -/

/-- A row whose owner leaves valid tables, given what its arguments were parsed from. -/
theorem serve_tablesValid {α : Type} {row : CommandRow} {parse : List Byte → Option α} {owner : α → State → Answer}
    (h : ∀ bytes a u, parse bytes = some a → TablesValid u → TablesValid (owner a u).state) (hs : TablesValid s) :
    TablesValid (serve row parse owner s) :=
  serve_ind (fun _ ht => ht.tablesValid hs) fun f rest a ha =>
    (respond_leaves f _).tablesValid (h f.args a (s.taken f rest) ha hs)

theorem tablesValid_reset : TablesValid State.reset := by decide

theorem exec_tablesValid (i : Instr) (hs : TablesValid s) (h : exec i s = .next t) : TablesValid t := by
  by_cases ho : ownsTables i = false
  · obtain ⟨tables, fitted⟩ := exec_tablesKept i ho h
    exact tablesValid_of_eq hs tables fitted
  cases i
  all_goals obtain rfl := Host.Outcome.next.inj h
  case powerOnReset => exact tablesValid_reset
  case sample f => exact (settle_leaves _).tablesValid (takeSample_tablesValid f hs)
  case headAnnounce n => exact announce_tablesValid ((carriageDelivered_leaves s).tablesValid hs) n
  case writeTableCurve => exact serve_tablesValid (fun _ _ _ ha hu => writeCurve_tablesValid hu ha) hs
  case writeTableBias => exact serve_tablesValid (fun _ a _ _ hu => writeBias_tablesValid hu a) hs
  case writeTableStdf => exact serve_tablesValid (fun _ a _ _ hu => writeStdf_tablesValid hu a) hs
  case writeTableMap => exact serve_tablesValid (fun _ _ _ ha hu => writeMap_tablesValid hu ha) hs
  case writeTableSheet => exact serve_tablesValid (fun _ a _ _ hu => writeSheet_tablesValid hu a) hs
  case writeTableFrame => exact serve_tablesValid (fun _ a _ _ hu => writeFrame_tablesValid hu a) hs
  case writeTableChannel => exact serve_tablesValid (fun _ a _ _ hu => writeChannel_tablesValid hu a) hs
  case lockCalibration => exact serve_tablesValid (fun _ _ _ _ hu => hu) hs
  all_goals exact absurd rfl ho

/-- Settles O11: table memory stays valid, row by row. -/
theorem stepKeepsTablesValid : Obligations.StepKeepsTablesValid := by
  unfold Obligations.StepKeepsTablesValid
  intro s t hs h
  unfold step at h
  split at h
  · obtain rfl := Host.Outcome.next.inj h
    exact hs
  · rename_i c rest _
    exact exec_tablesValid (s := s.withPending rest) c hs h

end Sys2Proof.Machine

/-! ## Calibration changes by its own routes alone (O13) -/

namespace Sys2Proof.Machine

variable {s t u : State}

/-! ### Commits -/

@[simp] theorem Region.commit_staged {α : Type} (r : Region α) : r.commit.staged = r.staged := by
  unfold Region.commit; split <;> rfl

@[simp] theorem Region.commit_stagedGen {α : Type} (r : Region α) : r.commit.stagedGen = r.stagedGen := by
  unfold Region.commit; split <;> rfl

/-- A commit that changes the copy in effect makes it the staged one, with its generation. -/
theorem Region.commit_inEffect_of_ne {α : Type} {r : Region α} (h : r.commit.inEffect ≠ r.inEffect) :
    r.commit.inEffect = r.staged ∧ r.commit.inEffectGen = r.stagedGen := by
  unfold Region.commit at h ⊢
  split
  · rename_i hg
    exact absurd (by rw [if_pos hg]) h
  · exact ⟨rfl, rfl⟩

@[simp] theorem Region.commit_commit {α : Type} (r : Region α) : r.commit.commit = r.commit := by
  by_cases h : r.stagedGen = r.inEffectGen <;> simp [Region.commit, h]

@[simp] theorem Tables.commit_commit (x : Tables) : x.commit.commit = x.commit := by simp [Tables.commit]

/-! ### The consumers before the standardize unit -/

/-- A park request leaves STANDARDIZING (R109). -/
theorem parkRequest_standardizing (h : s.frame.carriage = .standardizing) :
    (parkRequest s).frame.carriage = .standardizing := by
  simp [parkRequest, h]

theorem declareBreak_standardizing (source : BreakSource) (h : s.frame.carriage = .standardizing) :
    (declareBreak source s).frame.carriage = .standardizing := by
  unfold declareBreak
  dsimp only
  split
  · exact parkRequest_standardizing h
  · exact h

theorem watchTakes_standardizing (x : Sample) (h : s.frame.carriage = .standardizing) :
    (watchTakes x s).frame.carriage = .standardizing := by
  have reset : (gapResetRuns x s).frame.carriage = .standardizing := by
    unfold gapResetRuns
    split <;> exact h
  unfold watchTakes
  dsimp only
  split
  · exact reset
  · split
    · unfold detect
      split
      · exact reset
      · split
        · split
          · exact declareBreak_standardizing _ reset
          · exact reset
        · exact reset
    · split
      · unfold lookForSheet
        split
        · exact reset
        · split
          · split <;> exact reset
          · exact reset
      · exact reset

/-- In STANDARDIZING the other consumers leave the carriage there and the tables alone. -/
def HoldsStandardizing (s t : State) : Prop :=
  s.frame.carriage = .standardizing → t.frame.carriage = .standardizing ∧ t.tables = s.tables

theorem Consumer.takes_standardizing (x : Sample) (s : State) (c : Consumer) (hc : c ≠ .standardizeUnit) :
    HoldsStandardizing s (c.takes x s) := by
  intro h
  rw [Consumer.takes_eq]
  show (c.part x s).frame.carriage = _ ∧ (c.part x s).tables = _
  cases c with
  | frameController =>
    rw [Consumer.part, frameTakes_idle x (noteMoment _ s) (.inr (.inr (.inl h)))]
    exact ⟨(notePosition_carriage _ _).trans h, notePosition_tables _ _⟩
  | breakWatch => exact ⟨watchTakes_standardizing x h, (watchTakes_steady x s).tables⟩
  | standardizeUnit => exact absurd rfl hc
  | stream =>
    rw [Consumer.part, streamTakes_eq]
    exact ⟨h, rfl⟩

/-- What the consumers but the standardize unit do with the tables: leave or commit them. -/
def TablesCommitted (s t : State) : Prop := t.tables = s.tables ∨ t.tables = s.tables.commit

theorem TablesCommitted.trans (h : TablesCommitted s t) (k : TablesCommitted t u) : TablesCommitted s u := by
  rcases k with k | k <;> rcases h with h | h
  · exact .inl (k.trans h)
  · exact .inr (k.trans h)
  · exact .inr (k.trans (by rw [h]))
  · exact .inr (k.trans (by rw [h, Tables.commit_commit]))

theorem Consumer.takes_committed (x : Sample) (s : State) (c : Consumer) (hc : c ≠ .standardizeUnit) :
    TablesCommitted s (c.takes x s) := by
  refine .trans ?_ (.inl (c.takes_steady x s).tables)
  cases c with
  | frameController => exact frameTakes_tables x (noteMoment _ s)
  | breakWatch => exact .inl (watchTakes_steady x s).tables
  | standardizeUnit => exact absurd rfl hc
  | stream => exact .inl (by rw [Consumer.part, streamTakes_eq])

theorem Consumer.takes_collection (x : Sample) (s : State) (c : Consumer) (hc : c ≠ .standardizeUnit) :
    CollectsAnew s (c.takes x s) := by
  refine .trans ?_ (c.takes_steady x s).collection ?_
  · cases c with
    | frameController => exact frameTakes_collection x (noteMoment _ s)
    | breakWatch => exact (watchTakes_steady x s).collection
    | standardizeUnit => exact absurd rfl hc
    | stream => exact .of_eq (by rw [Consumer.part, streamTakes_eq])
  · rw [← (c.takes_steady x s).tables]
    exact (c.takes_untouched x s).tables_frame

/-! ### The tables after a sample -/

/-- A collection that the sample completes with a passing participant, whose factors are staged (R30, R31, R34). -/
def StagesFactors (f : SampleFrame) (s : State) (x : Tables) : Prop :=
  f.reference = true ∧ ∃ c, s.standardize.collection = some c ∧ c.target ≤ c.count + 1 ∧
    (∃ r ∈ resultList (c.add f).results, r.isPass = true) ∧
    ∃ q, x = { s.tables with stdf := s.tables.stdf.stage q }

/-- What a sample does with the tables: it leaves them or stages the factors of the collection it ends, and may commit what
then stands. -/
theorem takeSample_tables (f : SampleFrame) (hc : CarriageCoupled s) (hS : 16 ≤ s.tables.frame.s) :
    ∃ x, (x = s.tables ∨ StagesFactors f s x) ∧
      ((takeSample f s).tables = x ∨ (takeSample f s).tables = x.commit) := by
  obtain ⟨p, q, order, hp, hq⟩ := consumerOrder_split (Config.consumerOrder s.choices) .standardizeUnit
  have ne {l : List Consumer} (hl : Consumer.standardizeUnit ∉ l) : ∀ c ∈ l, c ≠ .standardizeUnit :=
    fun c hc he => hl (he ▸ hc)
  rw [takeSample_eq, order, List.foldl_append, List.foldl_cons]
  set v := p.foldl (Consumer.takes (sampleOf f s)) (beforeConsumers f s) with hv
  set w := Consumer.takes (sampleOf f s) v .standardizeUnit with hw
  have start : (beforeConsumers f s).tables = s.tables := (beforeConsumers_leaves f s).tables
  have before : TablesCommitted (beforeConsumers f s) v := foldl_takes_rel _ _ _ (fun _ => .inl rfl)
    (fun h k => h.trans k) fun c hc u => c.takes_committed _ u (ne hp c hc)
  have after : TablesCommitted w (q.foldl (Consumer.takes (sampleOf f s)) w) := foldl_takes_rel _ _ _
    (fun _ => .inl rfl) (fun h k => h.trans k) fun c hc u => c.takes_committed _ u (ne hq c hc)
  have hw' : w.tables = (standardizeTakes (sampleOf f s) v).tables := rfl
  rcases standardizeTakes_tables (sampleOf f s) v with h | ⟨c, hvc, href, htarget, hpass, h⟩
  · have all := (before.trans (.inl (hw'.trans h))).trans after
    rw [TablesCommitted, start] at all
    exact ⟨s.tables, .inl rfl, all⟩
  · have anew : Untouched (beforeConsumers f s) v ∧ CollectsAnew (beforeConsumers f s) v :=
      foldl_takes_rel (R := fun a b => Untouched a b ∧ CollectsAnew a b) _ _ _
        (fun a => ⟨.refl a, .of_eq rfl⟩) (fun h k => ⟨h.1.trans k.1, h.2.trans k.2 h.1.tables_frame⟩)
        fun c hc u => ⟨c.takes_untouched _ u, c.takes_collection _ u (ne hp c hc)⟩
    have old : s.standardize.collection = some c := by
      rcases anew.2 c hvc with h | ⟨h0, hs⟩
      · rwa [beforeConsumers_standardize] at h
      · rw [start] at hs
        omega
    have standardizing : s.frame.carriage = .standardizing := by
      have := hc.2.1
      rw [old] at this
      simpa using this.symm
    have held : v.tables = s.tables := by
      have h := foldl_takes_rel (R := HoldsStandardizing) (sampleOf f s) p (beforeConsumers f s) (fun _ h => ⟨h, rfl⟩)
        (fun h k ha => ⟨(k (h ha).1).1, (k (h ha).1).2.trans (h ha).2⟩)
        fun c hc u => c.takes_standardizing _ u (ne hp c hc)
      exact (h (by rw [beforeConsumers_frame]; exact standardizing)).2.trans start
    refine ⟨w.tables, ?_, after⟩
    rw [hw', h]
    rcases stageFactors_tables_cases (c.add (sampleOf f s).frame).results v with h | ⟨_, h⟩
    · exact .inl (h.trans held)
    · exact .inr ⟨href, c, old, htarget, hpass, _, by rw [h, held]⟩

/-! ### Row by row -/

/-- What a row changes of the calibration, power-on reset apart (O13). -/
structure CalibrationRoutes (i : Instr) (s t : State) : Prop where
  curve : t.tables.curve.staged ≠ s.tables.curve.staged → i = .writeTableCurve ∧ s.tables.locked = false ∧
    t.tables.curve.stagedGen = nextGeneration s.tables.curve.stagedGen s.tables.curve.inEffectGen
  bias : t.tables.bias.staged ≠ s.tables.bias.staged → i = .writeTableBias ∧ s.tables.locked = false ∧
    t.tables.bias.stagedGen = nextGeneration s.tables.bias.stagedGen s.tables.bias.inEffectGen
  stdf : t.tables.stdf.staged ≠ s.tables.stdf.staged →
    ((i = .writeTableStdf ∧ s.tables.locked = false) ∨
      ∃ f c, i = .sample f ∧ f.reference = true ∧ s.standardize.collection = some c ∧ c.target ≤ c.count + 1 ∧
        ∃ r ∈ resultList (c.add f).results, r.isPass = true) ∧
    t.tables.stdf.stagedGen = nextGeneration s.tables.stdf.stagedGen s.tables.stdf.inEffectGen
  curveInEffect : t.tables.curve.inEffect ≠ s.tables.curve.inEffect → (∃ f, i = .sample f) ∧
    t.tables.curve.inEffect = s.tables.curve.staged ∧ t.tables.curve.inEffectGen = s.tables.curve.stagedGen
  biasInEffect : t.tables.bias.inEffect ≠ s.tables.bias.inEffect → (∃ f, i = .sample f) ∧
    t.tables.bias.inEffect = s.tables.bias.staged ∧ t.tables.bias.inEffectGen = s.tables.bias.stagedGen
  stdfInEffect : t.tables.stdf.inEffect ≠ s.tables.stdf.inEffect → (∃ f, i = .sample f) ∧
    ((t.tables.stdf.inEffect = s.tables.stdf.staged ∧ t.tables.stdf.inEffectGen = s.tables.stdf.stagedGen) ∨
      (t.tables.stdf.inEffect = t.tables.stdf.staged ∧ t.tables.stdf.inEffectGen = t.tables.stdf.stagedGen))

/-- A row that leaves the three regions. -/
theorem routes_of_regions (i : Instr) (curve : t.tables.curve = s.tables.curve) (bias : t.tables.bias = s.tables.bias)
    (stdf : t.tables.stdf = s.tables.stdf) : CalibrationRoutes i s t := by
  constructor <;> intro h <;> simp [curve, bias, stdf] at h

theorem TablesKept.routes (h : TablesKept s t) (i : Instr) : CalibrationRoutes i s t :=
  routes_of_regions i (by rw [h.1]) (by rw [h.1]) (by rw [h.1])

/-- A row of the handler whose owner stages or leaves. -/
theorem serve_routes {α : Type} {row : CommandRow} {parse : List Byte → Option α} {owner : α → State → Answer}
    {i : Instr} (h : ∀ a f rest, CalibrationRoutes i s (owner a (s.taken f rest)).state) :
    CalibrationRoutes i s (serve row parse owner s) := by
  refine serve_ind (P := CalibrationRoutes i s) (fun _ ht => ht.tablesKept.routes i) fun f rest a _ => ?_
  obtain ⟨h1, h2, h3, h4, h5, h6⟩ := h a f rest
  exact ⟨h1, h2, h3, h4, h5, h6⟩

section
variable (f : CommandFrame) (rest : List CommandFrame)

theorem writeCurve_routes (a : CurveArgs) :
    CalibrationRoutes .writeTableCurve s (writeCurve a (s.taken f rest)).state := by
  have kept := (taken_leaves f rest s).tablesKept.routes .writeTableCurve
  unfold writeCurve
  split
  · exact kept
  · rename_i hl
    split
    · exact kept
    · exact ⟨fun _ => ⟨rfl, eq_false_of_ne_true hl, rfl⟩, fun h => absurd rfl h, fun h => absurd rfl h,
        fun h => absurd rfl h, fun h => absurd rfl h, fun h => absurd rfl h⟩

theorem writeBias_routes (a : Nat × List BiasArgs) :
    CalibrationRoutes .writeTableBias s (writeBias a (s.taken f rest)).state := by
  have kept := (taken_leaves f rest s).tablesKept.routes .writeTableBias
  unfold writeBias
  split
  · exact kept
  · rename_i hl
    split
    · exact kept
    · split
      · exact kept
      · exact ⟨fun h => absurd rfl h, fun _ => ⟨rfl, eq_false_of_ne_true hl, rfl⟩, fun h => absurd rfl h,
          fun h => absurd rfl h, fun h => absurd rfl h, fun h => absurd rfl h⟩

theorem writeStdf_routes (a : Nat × List Nat) :
    CalibrationRoutes .writeTableStdf s (writeStdf a (s.taken f rest)).state := by
  have kept := (taken_leaves f rest s).tablesKept.routes .writeTableStdf
  unfold writeStdf
  split
  · exact kept
  · rename_i hl
    split
    · exact kept
    · exact ⟨fun h => absurd rfl h, fun h => absurd rfl h, fun _ => ⟨.inl ⟨rfl, eq_false_of_ne_true hl⟩, rfl⟩,
        fun h => absurd rfl h, fun h => absurd rfl h, fun h => absurd rfl h⟩

theorem writeMap_routes (i : Instr) (a : MapArgs) : CalibrationRoutes i s (writeMap a (s.taken f rest)).state := by
  unfold writeMap
  split
  · exact routes_of_regions i rfl rfl rfl
  · rename_i l _
    split
    · exact routes_of_regions i rfl rfl rfl
    · split
      · exact routes_of_regions i rfl rfl rfl
      · cases l <;> exact routes_of_regions i rfl rfl rfl

theorem writeSheet_routes (i : Instr) (a : SheetArgs) :
    CalibrationRoutes i s (writeSheet a (s.taken f rest)).state := by
  unfold writeSheet
  split
  · exact routes_of_regions i rfl rfl rfl
  · split
    · exact routes_of_regions i rfl rfl rfl
    · split <;> exact routes_of_regions i rfl rfl rfl

theorem writeFrame_routes (i : Instr) (a : FrameSettings) :
    CalibrationRoutes i s (writeFrame a (s.taken f rest)).state := by
  unfold writeFrame
  split <;> exact routes_of_regions i rfl rfl rfl

theorem writeChannel_routes (i : Instr) (a : Nat × Nat × Nat) :
    CalibrationRoutes i s (writeChannel a (s.taken f rest)).state := by
  unfold writeChannel
  split <;> exact routes_of_regions i rfl rfl rfl

end

/-- A commit, or none, of tables whose regions stand as before but for staged factors. -/
theorem routes_of_sample {f : SampleFrame} {x : Tables} (hx : x = s.tables ∨ StagesFactors f s x)
    (ht : t.tables = x ∨ t.tables = x.commit) : CalibrationRoutes (.sample f) s t := by
  have curve : x.curve = s.tables.curve := by
    rcases hx with rfl | ⟨_, _, _, _, _, _, rfl⟩ <;> rfl
  have bias : x.bias = s.tables.bias := by
    rcases hx with rfl | ⟨_, _, _, _, _, _, rfl⟩ <;> rfl
  have stdf : x.stdf.inEffect = s.tables.stdf.inEffect := by
    rcases hx with rfl | ⟨_, _, _, _, _, _, rfl⟩ <;> rfl
  have tcurve : t.tables.curve = s.tables.curve ∨ t.tables.curve = s.tables.curve.commit := by
    rcases ht with h | h <;> simp [h, Tables.commit, curve]
  have tbias : t.tables.bias = s.tables.bias ∨ t.tables.bias = s.tables.bias.commit := by
    rcases ht with h | h <;> simp [h, Tables.commit, bias]
  have tstdf : t.tables.stdf = x.stdf ∨ t.tables.stdf = x.stdf.commit := by
    rcases ht with h | h <;> simp [h, Tables.commit]
  constructor
  · intro h
    rcases tcurve with e | e <;> simp [e] at h
  · intro h
    rcases tbias with e | e <;> simp [e] at h
  · intro h
    have staged : t.tables.stdf.staged = x.stdf.staged ∧ t.tables.stdf.stagedGen = x.stdf.stagedGen := by
      rcases tstdf with e | e <;> simp [e]
    rw [staged.1] at h
    rcases hx with rfl | ⟨href, c, hc, htarget, hpass, q, rfl⟩
    · exact absurd rfl h
    · exact ⟨.inr ⟨f, c, rfl, href, hc, htarget, hpass⟩, staged.2⟩
  · intro h
    rcases tcurve with e | e <;> rw [e] at h ⊢
    · exact absurd rfl h
    · exact ⟨⟨f, rfl⟩, Region.commit_inEffect_of_ne h⟩
  · intro h
    rcases tbias with e | e <;> rw [e] at h ⊢
    · exact absurd rfl h
    · exact ⟨⟨f, rfl⟩, Region.commit_inEffect_of_ne h⟩
  · intro h
    rcases tstdf with e | e <;> rw [e, ← stdf] at h
    · exact absurd rfl h
    · rw [e, Region.commit_staged, Region.commit_stagedGen]
      exact ⟨⟨f, rfl⟩, .inr (Region.commit_inEffect_of_ne h)⟩

theorem exec_routes (i : Instr) (hc : CarriageCoupled s) (hS : 16 ≤ s.tables.frame.s) (hi : i ≠ .powerOnReset)
    (h : exec i s = .next t) : CalibrationRoutes i s t := by
  by_cases ho : ownsTables i = false
  · exact (exec_tablesKept i ho h).routes i
  cases i
  all_goals obtain rfl := Host.Outcome.next.inj h
  case powerOnReset => exact absurd rfl hi
  case sample f =>
    obtain ⟨x, hx, ht⟩ := takeSample_tables f hc hS
    rw [← settle_tables (takeSample f s)] at ht
    exact routes_of_sample hx ht
  case headAnnounce n => exact routes_of_regions _ rfl rfl rfl
  case writeTableCurve => exact serve_routes fun a f rest => writeCurve_routes f rest a
  case writeTableBias => exact serve_routes fun a f rest => writeBias_routes f rest a
  case writeTableStdf => exact serve_routes fun a f rest => writeStdf_routes f rest a
  case writeTableMap => exact serve_routes fun a f rest => writeMap_routes f rest _ a
  case writeTableSheet => exact serve_routes fun a f rest => writeSheet_routes f rest _ a
  case writeTableFrame => exact serve_routes fun a f rest => writeFrame_routes f rest _ a
  case writeTableChannel => exact serve_routes fun a f rest => writeChannel_routes f rest _ a
  case lockCalibration => exact serve_routes fun _ _ _ => routes_of_regions _ rfl rfl rfl
  all_goals exact absurd rfl ho

/-- Settles O13: row by row, with the sample's tables by `takeSample_tables`. -/
theorem calibrationChangesByItsOwnRoutesAlone : Obligations.CalibrationChangesByItsOwnRoutesAlone := by
  unfold Obligations.CalibrationChangesByItsOwnRoutesAlone
  intro i s t hc hS hi h
  obtain ⟨h1, h2, h3, h4, h5, h6⟩ := exec_routes i hc hS hi h
  exact ⟨h1, h2, h3, h4, h5, h6⟩

end Sys2Proof.Machine

/-! ## Sample conditioning, generations and the edge finder (O2, O21, O23 to O27, O31) -/

namespace Sys2Proof.Machine

/-! ### Power-on reset and announcements -/

/-- Settles O2: the reset state's fields are the values stated; the mask is read condition by condition. -/
theorem powerOnResetGivesTheResetValues : Obligations.PowerOnResetGivesTheResetValues := by
  unfold Obligations.PowerOnResetGivesTheResetValues
  intro s
  have mask (c : Condition) : ConditionUnit.isUnmasked ⟨0, resetMask, false, .zero, [], []⟩ c = true ↔
      c ∈ [.sheetBreak, .restored, .carriageSilent, .driveStall, .driveFault] := by
    cases c <;> decide
  exact ⟨_, rfl, rfl, rfl, rfl, rfl, rfl, rfl, rfl, rfl, rfl, rfl, rfl, rfl, rfl, rfl, rfl, rfl, rfl, rfl, rfl, rfl, rfl,
    rfl, mask, rfl, rfl, rfl, rfl, rfl, rfl, rfl, rfl, rfl, rfl, rfl, rfl, rfl, rfl⟩

/-- Settles O21: each stored enable by the table of R2. -/
theorem headAnnounceSetsFittedAndEnables : Obligations.HeadAnnounceSetsFittedAndEnables := by
  unfold Obligations.HeadAnnounceSetsFittedAndEnables
  intro n s
  have unfitted (before enable : Bool) {after : Bool} (h : after = false) :
      announcedEnable before after enable = false := by simp [announcedEnable, h]
  have newly (enable : Bool) {before after : Bool} (h : after = true) (hb : before = false) :
      announcedEnable before after enable = true := by simp [announcedEnable, h, hb]
  have still (enable : Bool) {before after : Bool} (h : after = true) (hb : before = true) :
      announcedEnable before after enable = enable := by simp [announcedEnable, h, hb]
  exact ⟨_, rfl, unfitted _ _, newly _, still _, unfitted _ _, newly _, still _, unfitted _ _, newly _, still _⟩

/-! ### Generations and commits -/

theorem commit_of_eq {α : Type} {r : Region α} (h : r.stagedGen = r.inEffectGen) : r.commit = r := if_pos h

theorem commit_of_ne {α : Type} {r : Region α} (h : r.stagedGen ≠ r.inEffectGen) :
    r.commit = ⟨r.staged, r.staged, r.stagedGen, r.stagedGen⟩ := if_neg h

/-- Settles O27: the generation by arithmetic modulo 65536, the commit region by region. -/
theorem generationsAdvanceAndCommit : Obligations.GenerationsAdvanceAndCommit := by
  unfold Obligations.GenerationsAdvanceAndCommit
  refine ⟨fun st ie hst hie => ?_, fun s => ?_⟩
  · unfold nextGeneration
    dsimp only
    split <;> omega
  · exact ⟨rfl, commit_of_eq, commit_of_ne, commit_of_eq, commit_of_ne, commit_of_eq, commit_of_ne⟩

/-! ### Normalization and curves -/

theorem normalize_eq (q raw : Nat) : normalize q raw =
    (min 65535 ((raw * q * 2 + 16384) / 32768), decide (65535 < (raw * q * 2 + 16384) / 32768)) := by
  have rounded : roundHalfUp (raw * q) 16384 = (raw * q * 2 + 16384) / 32768 := by
    unfold roundHalfUp
    rw [Nat.mul_comm 2 (raw * q)]
  unfold normalize
  rw [rounded]
  dsimp only
  split
  · simp only [Prod.mk.injEq, true_eq_decide_iff]
    omega
  · simp only [Prod.mk.injEq, false_eq_decide_iff]
    omega

theorem strictlyRising_iff (l : List Nat) : strictlyRising l = true ↔ l.Pairwise (· < ·) := by
  rw [← List.isChain_iff_pairwise]
  induction l with
  | nil => simp [strictlyRising]
  | cons a l ih =>
    cases l with
    | nil => simp [strictlyRising]
    | cons b l => simp [strictlyRising, ih]

/-- A share n of d of a difference, rounded, lies between 0 and the difference (R11). -/
theorem roundHalfAway_share {n d : Nat} (hd : 0 < d) (hn : n ≤ d) (x : Int) :
    min 0 x ≤ roundHalfAway (n * x) d ∧ roundHalfAway (n * x) d ≤ max 0 x := by
  have bound : roundHalfUp ((n : Int) * x).natAbs d ≤ x.natAbs :=
    roundHalfUp_le _ _ _ hd (by rw [Int.natAbs_mul]; exact Nat.mul_le_mul_right _ hn)
  unfold roundHalfAway
  by_cases hx : 0 ≤ x
  · rw [if_pos (by positivity)]
    omega
  · by_cases hz : n = 0
    · have zero : roundHalfUp 0 d = 0 := Nat.le_zero.mp (roundHalfUp_le 0 d 0 hd (Nat.zero_le _))
      simp only [hz, Nat.cast_zero, zero_mul, le_refl, if_true, Int.natAbs_zero, zero]
      omega
    · rw [if_neg (not_le.mpr (mul_neg_of_pos_of_neg (by omega) (by omega)))]
      omega

/-- The value within an interval lies between those of its ends (R11). -/
theorem interval_between {p q : CurvePoint} {r : Nat} (hp : p.r ≤ r) (hq : r < q.r) :
    min (p.e : Int) q.e ≤ p.e + roundHalfAway (((r : Int) - p.r) * ((q.e : Int) - p.e)) (q.r - p.r) ∧
    p.e + roundHalfAway (((r : Int) - p.r) * ((q.e : Int) - p.e)) (q.r - p.r) ≤ max (p.e : Int) q.e := by
  have h := roundHalfAway_share (n := r - p.r) (d := q.r - p.r) (by omega) (by omega) ((q.e : Int) - p.e)
  rw [Nat.cast_sub hp] at h
  omega

/-- The curve at or beyond its last point (R11). -/
theorem interpolate_last {r : Nat} {p : CurvePoint} : ∀ {l : List CurvePoint} {a : CurvePoint},
    ((a :: l).map CurvePoint.r).Pairwise (· < ·) → (a :: l).getLast? = some p → p.r ≤ r →
    interpolate r a l = (p.e, decide (p.r < r))
  | [], a, _, hp, _ => by
    obtain rfl := Option.some.inj hp
    rfl
  | q :: l, a, rising, hp, hr => by
    have hp : (q :: l).getLast? = some p := by simpa using hp
    rw [List.map_cons, List.pairwise_cons] at rising
    have hq : q.r ≤ p.r := by
      rcases List.mem_cons.mp (List.mem_of_getLast? hp) with rfl | hm
      · exact le_rfl
      · exact Nat.le_of_lt ((List.pairwise_cons.mp rising.2).1 _ (List.mem_map_of_mem hm))
    rw [interpolate, if_neg (by omega)]
    exact interpolate_last rising.2 hp hr

/-- The curve within an interval (R11). -/
theorem interpolate_interval {r : Nat} {p q : CurvePoint} (hp : p.r ≤ r) (hq : r < q.r) :
    ∀ {l : List CurvePoint} {a : CurvePoint} {k : Nat}, ((a :: l).map CurvePoint.r).Pairwise (· < ·) →
    (a :: l)[k]? = some p → (a :: l)[k + 1]? = some q → interpolate r a l =
      (((p.e : Int) + roundHalfAway (((r : Int) - p.r) * ((q.e : Int) - p.e)) (q.r - p.r)).toNat, false)
  | [], _, _, _, _, h => by simp at h
  | b :: l, a, 0, _, ha, hb => by
    obtain rfl := Option.some.inj ha
    obtain rfl := Option.some.inj hb
    rw [interpolate, if_pos hq]
  | b :: l, a, k + 1, rising, hk, hk' => by
    rw [List.map_cons, List.pairwise_cons] at rising
    rw [List.getElem?_cons_succ] at hk hk'
    have hb : b.r ≤ p.r := by
      rcases List.mem_cons.mp (List.mem_of_getElem? hk) with rfl | hm
      · exact le_rfl
      · exact Nat.le_of_lt ((List.pairwise_cons.mp rising.2).1 _ (List.mem_map_of_mem hm))
    rw [interpolate, if_neg (by omega)]
    exact interpolate_interval hp hq rising.2 hk hk'

/-- Every count not below the first point is conditioned to no more than the largest value of the points. -/
theorem interpolate_le {r top : Nat} : ∀ {l : List CurvePoint} {a : CurvePoint}, a.r ≤ r →
    (∀ p ∈ a :: l, p.e ≤ top) → (interpolate r a l).1 ≤ top
  | [], a, _, h => h a (by simp)
  | q :: l, a, ha, h => by
    rw [interpolate]
    split
    · rename_i hq
      have := (interval_between ha hq).2
      have := h a (by simp)
      have := h q (by simp)
      dsimp only
      omega
    · exact interpolate_le (by omega) fun p hp => h p (by simp [hp])

theorem apply_of_not_below {c : Curve} {r : Nat} (h : c.first.r ≤ r) : c.apply r = interpolate r c.first c.rest :=
  if_neg (by omega)

theorem apply_le {c : Curve} {top : Nat} (h : c.valid top = true) (r : Nat) : (c.apply r).1 ≤ top := by
  simp only [Curve.valid, Bool.and_eq_true, List.all_eq_true, decide_eq_true_eq] at h
  obtain ⟨⟨⟨_, values⟩, _⟩, _⟩ := h
  by_cases hr : r < c.first.r
  · rw [Curve.apply, if_pos hr]
    exact (values c.first (by simp)).2
  · rw [apply_of_not_below (by omega)]
    exact interpolate_le (by omega) fun p hp => (values p hp).2

/-- Settles O24: normalization by its equation, the curve by its four cases. -/
theorem normalizationAndCurve : Obligations.NormalizationAndCurve := by
  unfold Obligations.NormalizationAndCurve
  refine ⟨⟨normalize_eq, fun q => ?_, fun raw h => ?_, fun raw h => ?_, fun q h => ?_⟩, fun c r rising => ?_⟩
  · rw [normalize_eq]
    simp
  · rw [normalize_eq]
    simp only [decide_eq_false_iff_not]
    omega
  · rw [normalize_eq]
    simp only [Prod.mk.injEq, decide_eq_true_eq]
    omega
  · rw [normalize_eq]
    simp only [Prod.mk.injEq, decide_eq_true_eq]
    omega
  · have rising := (strictlyRising_iff _).mp rising
    have first_le {p : CurvePoint} (hp : p ∈ c.first :: c.rest) : c.first.r ≤ p.r := by
      rcases List.mem_cons.mp hp with rfl | hm
      · exact le_rfl
      · exact Nat.le_of_lt ((List.pairwise_cons.mp rising).1 _ (List.mem_map_of_mem hm))
    have last {p : CurvePoint} (hp : (c.first :: c.rest).getLast? = some p) (hr : p.r ≤ r) :
        c.apply r = (p.e, decide (p.r < r)) := by
      rw [apply_of_not_below (Nat.le_trans (first_le (List.mem_of_getLast? hp)) hr)]
      exact interpolate_last rising hp hr
    refine ⟨fun h => if_pos h, fun p hp h => ?_, fun p hp h => ?_, fun k p q hk hk' hp hq => ?_⟩
    · rw [last hp (Nat.le_of_lt h), decide_eq_true h]
    · rw [last hp (Nat.le_of_eq h.symm), decide_eq_false (by omega)]
    · have between := interval_between hp hq
      rw [apply_of_not_below (Nat.le_trans (first_le (List.mem_of_getElem? hk)) hp),
        interpolate_interval hp hq rising hk hk']
      dsimp only
      refine ⟨?_, rfl, ?_, ?_⟩ <;> omega

/-! ### Bias and dry weight -/

theorem firstBias_none {entries : List BiasEntry} {c : ProfileChannel}
    (h : ∀ b ∈ entries, b.enabled = true → b.channel ≠ c) : firstBias entries c = none := by
  unfold firstBias
  rw [Option.map_eq_none_iff, List.find?_eq_none]
  simpa using h

theorem firstBias_some {before after : List BiasEntry} {b : BiasEntry} {c : ProfileChannel}
    (h : ∀ x ∈ before, x.enabled = true → x.channel ≠ c) (he : b.enabled = true) (hc : b.channel = c) :
    firstBias (before ++ b :: after) c = some b.bias := by
  have none : before.find? (fun b => b.enabled && b.channel == c) = none := by
    rw [List.find?_eq_none]
    simpa using h
  simp [firstBias, List.find?_append, none, he, hc]

/-- The bias step leaves a value of the channel within its maximum (R13). -/
theorem biasStep_le (entries : List BiasEntry) {c : ProfileChannel} {e : Nat} (h : e ≤ c.max) :
    (biasStep entries c e).1 ≤ c.max := by
  unfold biasStep
  split
  · exact h
  · dsimp only
    split
    · exact Nat.zero_le _
    · split
      · exact le_rfl
      · dsimp only
        omega

theorem dry_le (w m : Nat) : (2 * (w * (10000 - m)) + 10000) / 20000 ≤ w :=
  roundHalfUp_le (w * (10000 - m)) 10000 w (by omega)
    (by rw [Nat.mul_comm]; exact Nat.mul_le_mul_right w (Nat.sub_le _ _))

theorem dryWeight_usable {entries : List BiasEntry} {bw mo : Conditioned} {w m : Nat} (hw : bw.usable = some w)
    (hm : mo.usable = some m) : dryWeight entries bw mo =
      .ofStep (biasStep entries .dw ((2 * (w * (10000 - m)) + 10000) / 20000)).1 (bw.isClamped || mo.isClamped ||
        (biasStep entries .dw ((2 * (w * (10000 - m)) + 10000) / 20000)).2) := by
  have hbw : bw.isFaulted = false := by cases bw <;> simp_all [Conditioned.usable, Conditioned.isFaulted]
  have hmo : mo.isFaulted = false := by cases mo <;> simp_all [Conditioned.usable, Conditioned.isFaulted]
  simp [dryWeight, hbw, hmo, hw, hm, roundHalfUp]

/-- Settles O25: the bias step by its first entry, dry weight by its classes. -/
theorem biasAndDryWeight : Obligations.BiasAndDryWeight := by
  unfold Obligations.BiasAndDryWeight
  refine ⟨fun ch e => ⟨fun entries h => ?_, fun before after b h he hc => ?_⟩, fun entries bw mo => ?_,
    fun _ _ _ _ => rfl⟩
  · rw [biasStep, firstBias_none h]
  · rw [biasStep, firstBias_some h he hc]
    dsimp only
    refine ⟨fun hv => if_pos hv, fun hv => ?_, fun h0 hv => ?_⟩
    · rw [if_neg (by omega), if_pos hv]
    · rw [if_neg (by omega), if_neg (by omega)]
  · refine ⟨?_, fun hbw hmo habsent => ?_, fun w m hw hm => ⟨dryWeight_usable hw hm, dry_le w m⟩⟩
    · rintro (rfl | rfl) <;> simp [dryWeight, Conditioned.isFaulted]
    · cases bw <;> cases mo <;> simp_all [dryWeight, Conditioned.isFaulted, Conditioned.usable]

/-! ### Classes and ranges -/

/-- A measured channel that is there, by its ready bit (R7, R8). -/
theorem conditionChannel_present (c : Curve) (ready : Bool) (q raw : Nat) (bias : Nat → Nat × Bool) :
    conditionChannel true (some c) ready q raw bias =
      if ready then .ofStep (bias (c.apply (normalize q raw).1).1).1
        ((normalize q raw).2 || (c.apply (normalize q raw).1).2 || (bias (c.apply (normalize q raw).1).1).2)
      else .faulted := rfl

theorem conditionChannel_absent {present : Bool} {curve : Option Curve} (h : present = false ∨ curve = none)
    (ready : Bool) (q raw : Nat) (bias : Nat → Nat × Bool) :
    conditionChannel present curve ready q raw bias = .absent := by
  rcases h with rfl | rfl
  · rfl
  · cases present <;> rfl

theorem conditionFrame_tr (t : Tables) (fitted : PerMeasured Bool) (f : SampleFrame) (gap : Bool) :
    (conditionFrame t fitted f gap).tr = conditionChannel fitted.tr t.curve.inEffect.tr f.ready.tr t.stdf.inEffect.tr
      f.raw.tr (fun e => (e, false)) := rfl

/-- Settles O23: each measured channel by presence and ready bit. -/
theorem measuredChannelClasses : Obligations.MeasuredChannelClasses := by
  unfold Obligations.MeasuredChannelClasses
  intro t fitted f gap
  have absent {fit enable : Bool} {curve : Option Curve} (h : fit = false ∨ enable = false ∨ curve = none)
      (ready : Bool) (q raw : Nat) (bias : Nat → Nat × Bool) :
      conditionChannel (fit && enable) curve ready q raw bias = .absent := by
    apply conditionChannel_absent
    rcases h with rfl | rfl | rfl
    · exact .inl rfl
    · exact .inl (Bool.and_false _)
    · exact .inr rfl
  have present {fit enable : Bool} {curve : Option Curve} {c : Curve} (hf : fit = true) (he : enable = true)
      (hc : curve = some c) (ready : Bool) (q raw : Nat) (bias : Nat → Nat × Bool) :
      conditionChannel (fit && enable) curve ready q raw bias =
        if ready then .ofStep (bias (c.apply (normalize q raw).1).1).1
          ((normalize q raw).2 || (c.apply (normalize q raw).1).2 || (bias (c.apply (normalize q raw).1).1).2)
        else .faulted := by
    rw [hf, he, hc]
    exact conditionChannel_present c ready q raw bias
  refine ⟨fun h => absent h _ _ _ _, fun h => absent h _ _ _ _, fun h => absent h _ _ _ _,
    fun h => by rw [conditionFrame_tr, conditionChannel_absent h], fun c hf he hc => present hf he hc _ _ _ _,
    fun c hf he hc => present hf he hc _ _ _ _, fun c hf he hc => present hf he hc _ _ _ _, fun c hf hc => ?_⟩
  rw [conditionFrame_tr, hf, hc, conditionChannel_present]
  simp [Conditioned.ofStep]

theorem ofStep_usable (v : Nat) (limited : Bool) : (Conditioned.ofStep v limited).usable = some v := by
  cases limited <;> rfl

/-- A measured channel's value is its bias step's of a value within the curve's maximum. -/
theorem conditionChannel_le {present ready : Bool} {curve : Option Curve} {top q raw : Nat} {bias : Nat → Nat × Bool}
    (hc : curve.all (Curve.valid top) = true) (hb : ∀ e, e ≤ top → (bias e).1 ≤ top) {v : Nat}
    (h : (conditionChannel present curve ready q raw bias).usable = some v) : v ≤ top := by
  cases curve with
  | none => rw [conditionChannel_absent (.inr rfl)] at h; exact absurd h (by simp [Conditioned.usable])
  | some c =>
    cases present with
    | false => exact absurd h (by simp [conditionChannel_absent (.inl rfl), Conditioned.usable])
    | true =>
      rw [conditionChannel_present] at h
      cases ready with
      | false => exact absurd h (by simp [Conditioned.usable])
      | true =>
        rw [if_pos rfl, ofStep_usable] at h
        obtain rfl := Option.some.inj h
        exact hb _ (apply_le hc _)

/-- Settles O26: each measured channel by `conditionChannel_le`, dry weight by BW's range. -/
theorem conditionedValuesLieInRange : Obligations.ConditionedValuesLieInRange := by
  unfold Obligations.ConditionedValuesLieInRange
  intro t fitted f gap hcurves x
  obtain ⟨⟨bw, mo⟩, ca, tr⟩ := (curvesValid_iff _).mp hcurves
  have wet (v : Nat) (h : x.bw.usable = some v) : v ≤ 65535 :=
    conditionChannel_le bw (fun _ he => biasStep_le t.bias.inEffect (c := .bw) he) h
  refine ⟨wet, fun v h => conditionChannel_le mo (fun _ he => biasStep_le t.bias.inEffect (c := .mo) he) h,
    fun v h => conditionChannel_le ca (fun _ he => biasStep_le t.bias.inEffect (c := .ca) he) h,
    fun v h => conditionChannel_le (present := fitted.tr) (bias := fun e => (e, false)) tr (fun _ he => he) h, fun v h => ?_⟩
  have hdw : x.dw = dryWeight t.bias.inEffect x.bw x.mo := rfl
  rw [hdw] at h
  cases hw : x.bw.usable with
  | none => cases hx : x.bw <;> cases hy : x.mo <;> simp_all [dryWeight, Conditioned.usable, Conditioned.isFaulted]
  | some w =>
    cases hm : x.mo.usable with
    | none => cases hx : x.bw <;> cases hy : x.mo <;> simp_all [dryWeight, Conditioned.usable, Conditioned.isFaulted]
    | some m =>
      rw [dryWeight_usable hw hm, ofStep_usable] at h
      obtain rfl := Option.some.inj h
      exact biasStep_le t.bias.inEffect (c := .dw) (Nat.le_trans (dry_le w m) (wet w hw))

/-! ### The edge finder and one sample -/

section
variable (t : SheetSettings) (x : Sample) (e : EdgeFinder)

theorem EdgeFinder.take_left (h : e.phase = .left) : e.take t x = e := by
  have kept : e.gapReset x.afterGap = e := by simp [EdgeFinder.gapReset, h]
  unfold EdgeFinder.take
  rw [kept]
  dsimp only
  rw [h]
  split <;> rfl

/-- A sample first after a gap is taken as one without, after the run has been reset (R4). -/
theorem EdgeFinder.take_gap (h : e.phase ≠ .left) (hg : x.afterGap = true) :
    e.take t x = EdgeFinder.take t { x with afterGap := false } { e with runCount := 0, runStart := none } := by
  have reset : e.gapReset x.afterGap = { e with runCount := 0, runStart := none } := by
    simp [EdgeFinder.gapReset, hg, h]
  unfold EdgeFinder.take
  rw [reset]
  rfl

variable {x e}

theorem EdgeFinder.take_reference (hg : x.afterGap = false) (hr : x.frame.reference = true) : e.take t x = e := by
  simp [EdgeFinder.take, EdgeFinder.gapReset, hg, hr]

theorem EdgeFinder.take_seeking (hg : x.afterGap = false) (hr : x.frame.reference = false) (h : e.phase = .seeking) :
    e.take t x = e.seek t x.frame.position x.tr := by
  simp [EdgeFinder.take, EdgeFinder.gapReset, hg, hr, h]

theorem EdgeFinder.take_onSheet (hg : x.afterGap = false) (hr : x.frame.reference = false) (h : e.phase = .onSheet) :
    e.take t x = e.follow t x.frame.position x.tr := by
  simp [EdgeFinder.take, EdgeFinder.gapReset, hg, hr, h]

end

/-- Settles O31: the edge finder phase by phase. -/
theorem edgeFinderTakesOneSample : Obligations.EdgeFinderTakesOneSample := by
  unfold Obligations.EdgeFinderTakesOneSample
  intro t x e
  refine ⟨EdgeFinder.take_left t x e, EdgeFinder.take_gap t x e, EdgeFinder.take_reference t,
    fun hg hr h => ?_, fun hg hr h => ?_⟩
  · rw [EdgeFinder.take_seeking t hg hr h]
    unfold EdgeFinder.seek
    refine ⟨fun hv => by rw [hv], fun v hv hc => ?_, fun v hv hs h0 hm => ?_, fun v p hv hs h0 hp hm => ?_⟩
    · rw [hv]
      exact if_neg (by omega)
    · rw [hv]
      dsimp only
      rw [if_pos hs, EdgeFinder.seekSheet, if_neg (by omega), if_pos h0, h0]
    · rw [hv]
      dsimp only
      rw [if_pos hs, EdgeFinder.seekSheet, if_neg (by omega), if_neg h0]
      simp [hp]
  · rw [EdgeFinder.take_onSheet t hg hr h]
    unfold EdgeFinder.follow
    refine ⟨fun hv => by rw [hv], fun v hv hs => ?_, fun v hv hc hm => ?_⟩
    · rw [hv]
      exact if_pos hs
    · rw [hv]
      dsimp only
      rw [if_neg (by omega), EdgeFinder.leaveClear, if_neg (by omega)]

end Sys2Proof.Machine

/-! ## RESTART (O3) -/

namespace Sys2Proof.Machine

variable {s t u : State}

/-! ### RESTART -/

theorem restartCarriage_kept (h : s.frame.carriage = .unreferenced ∨ s.frame.carriage = .halted ∨
    s.frame.carriage = .parked) : restartCarriage s = s := by
  rcases h with h | h | h <;> simp [restartCarriage, h]

theorem restartCarriage_standardizing (h : s.frame.carriage = .standardizing) :
    restartCarriage s = setCarriage .parked s := by
  simp [restartCarriage, h]

theorem restartCarriage_away (h : s.frame.carriage = .parking ∨ (∃ sub d, s.frame.carriage = .traverse sub d) ∨
    (∃ sub, s.frame.carriage = .fixed sub) ∨ ∃ sub, s.frame.carriage = .probing sub) :
    restartCarriage s = s.moving .parking s.tables.frame.park 200 := by
  rw [← goPark_eq]
  rcases h with h | ⟨_, _, h⟩ | ⟨_, h⟩ | ⟨_, h⟩ <;> simp [restartCarriage, h]

/-- What RESTART does with the blocks: a collection leaves nothing behind but its HEAD_MODE. -/
theorem restartBlocks_abandonCollection (s : State) : restartBlocks (abandonCollection s) =
    restartBlocks { s with port := if s.standardize.collection.isSome then s.port.handHead .normal else s.port } := by
  cases h : s.standardize.collection with
  | none => rw [abandonCollection_none s h]; rfl
  | some c => rw [abandonCollection_some s c h]; rfl

/-- RESTART, answered, with what it does with the carriage left to `restartCarriage`. -/
theorem restart_served {f : CommandFrame} {rest : List CommandFrame} (hand : AtHand f rest s) (hcode : f.code = 0x1B#8)
    (hargs : f.args = []) : exec .restart s = .next (respond f (accept (restartCarriage (restartBlocks
      { s.taken f rest with
        port := if s.standardize.collection.isSome then s.port.handHead .normal else s.port })))) := by
  have hrow : rowOf f = .restart := by simp [rowOf, hcode]
  have served : exec .restart s = .next (respond f (restartCommand () (s.taken f rest))) :=
    congrArg Host.Outcome.next (serve_owner hand hrow (parse := noArgs) (by rw [hargs]; rfl) (.inl rfl))
  rw [served, restartCommand, restartBlocks_abandonCollection]
  rfl

/-- Settles O3: by carriage state. -/
theorem restartClearsAllButTablesAndQueues : Obligations.RestartClearsAllButTablesAndQueues := by
  unfold Obligations.RestartClearsAllButTablesAndQueues
  intro f rest s hand hcode hargs
  have served := restart_served hand hcode hargs
  obtain ⟨sequence, code, args⟩ := f
  subst hcode
  refine ⟨_, served, ?_⟩
  cases hc : s.frame.carriage with
  | unreferenced | halted | parked =>
    rw [restartCarriage_kept (by simp [restartBlocks, State.taken, hc])]
    exact ⟨rfl, rfl, rfl, rfl, rfl, rfl, rfl, rfl, rfl, rfl, rfl, rfl, rfl, rfl, rfl, rfl, rfl, rfl, rfl, rfl, rfl, hc,
      rfl, rfl, rfl⟩
  | standardizing =>
    rw [restartCarriage_standardizing (by simp [restartBlocks, State.taken, hc])]
    exact ⟨rfl, rfl, rfl, rfl, rfl, rfl, rfl, rfl, rfl, rfl, rfl, rfl, rfl, rfl, rfl, rfl, rfl, rfl, rfl, rfl, rfl, rfl,
      rfl, rfl, rfl⟩
  | parking | traverse | fixed | probing =>
    rw [restartCarriage_away (by simp [restartBlocks, State.taken, hc])]
    exact ⟨rfl, rfl, rfl, rfl, rfl, rfl, rfl, rfl, rfl, rfl, rfl, rfl, rfl, rfl, rfl, rfl, rfl, rfl, rfl, rfl, rfl, rfl,
      rfl, rfl, rfl⟩

end Sys2Proof.Machine

/-! ## The frame controller and a sample: arrivals, dwells, openings (O44, O45) -/

namespace Sys2Proof.Machine

variable {s t u : State}

/-! ### Run counts that are 0 already -/

/-- No run is counted: both run counts are 0 and no run is held. -/
structure NoRuns (s : State) : Prop where
  breakRun : s.watch.breakRun = 0
  heldRun : s.watch.heldRun = none
  sheetRun : s.watch.sheetRun = 0

/-- On the way to a place other than park a quiet break watch counts no run. -/
theorem NoRuns.of_watchQuiet (h : WatchQuiet s) (hc : s.frame.carriage.countsNothing = true)
    (hp : s.frame.carriage ≠ .parking) : NoRuns s := by
  obtain ⟨breakRun, heldRun, sheetRun, -, -⟩ := h
  have inactive := detectorActive_of_countsNothing s hc
  refine ⟨breakRun inactive, ?_, sheetRun (sheetCounting_of_countsNothing s hc)⟩
  cases held : s.watch.heldRun with
  | none => rfl
  | some n =>
    obtain ⟨-, -, active | parking⟩ := heldRun (by simp [held])
    · simp [inactive] at active
    · exact absurd parking hp

/-- With no run counted, a change of carriage changes the carriage alone. -/
theorem setCarriage_of_noRuns (c : Carriage) (h : NoRuns s) :
    setCarriage c s = { s with frame := { s.frame with carriage := c } } := by
  obtain ⟨breakRun, heldRun, sheetRun⟩ := h
  have watch : (⟨s.watch.state, s.watch.source, 0, 0, s.watch.probe, s.watch.dwell, s.watch.holdOff, none⟩ : BreakWatch) =
      s.watch := by cases h : s.watch; simp_all
  simp [setCarriage, quietRuns, breakRun, heldRun, sheetRun, watch]

/-! ### A sample noted -/

/-- The state in which a sample's position has been noted. -/
def State.noted (s : State) (p : Nat) : State :=
  { s with frame := { s.frame with
      lastPosition := some p, silence := some ⟨s.tables.frame.silencePeriod, 0⟩ } }

/-- The state in which an arrival has ended the MOVE. -/
def State.rested (s : State) (p : Nat) : State :=
  { s with frame := { s.frame with
      lastPosition := some p, silence := some ⟨s.tables.frame.silencePeriod, 0⟩, target := none, stall := none } }

theorem endMove_noted (s : State) (p : Nat) : endMove (s.noted p) = s.rested p := rfl

theorem notePosition_of_hasMove (p : Nat) (h : s.frame.carriage.hasMove = true) : notePosition p s = s.noted p :=
  notePosition_active p s (fun e => by simp [e, Carriage.hasMove] at h) (fun e => by simp [e, Carriage.hasMove] at h)

/-- On the way to a place, a sample that is no arrival is noted and moves nothing on. -/
theorem frameTakes_underWay (x : Sample) (hm : s.frame.carriage.hasMove = true)
    (hs : s.frame.carriage.isScanning = false)
    (ha : ¬ isArrival x.frame.position (notePosition x.frame.position s) = true) :
    frameTakes x s = s.noted x.frame.position := by
  rw [← notePosition_of_hasMove _ hm]
  cases hc : s.frame.carriage with
  | parking => rw [frameTakes_parking x s hc, if_neg ha]
  | traverse sub d =>
    cases sub with
    | positioning => rw [frameTakes_positioning x s d hc, if_neg ha]
    | scanning => simp [hc, Carriage.isScanning] at hs
  | fixed sub =>
    cases sub with
    | moving => rw [frameTakes_fixedMoving x s hc, if_neg ha]
    | dwelling => simp [hc, Carriage.hasMove] at hm
  | probing sub =>
    cases sub with
    | moving => rw [frameTakes_probingMoving x s hc, if_neg ha]
    | dwelling => simp [hc, Carriage.hasMove] at hm
  | _ => simp [hc, Carriage.hasMove] at hm

theorem frameTakes_arrival_parking (x : Sample) (hc : s.frame.carriage = .parking)
    (ha : isArrival x.frame.position (notePosition x.frame.position s) = true) :
    frameTakes x s = arriveAtPark (s.noted x.frame.position) := by
  rw [frameTakes_parking x s hc, if_pos ha, notePosition_of_hasMove _ (by rw [hc]; rfl)]

/-- The opening at the arrival in POSITIONING. -/
theorem frameTakes_arrival_positioning (x : Sample) {d : Direction} (hc : s.frame.carriage = .traverse .positioning d)
    (ha : isArrival x.frame.position (notePosition x.frame.position s) = true) :
    frameTakes x s = openTraverse d (s.rested x.frame.position) := by
  rw [frameTakes_positioning x s d hc, if_pos ha, notePosition_of_hasMove _ (by rw [hc]; rfl), endMove_noted]

/-! ### The arrival at park -/

/-- What the break watch's notice of an arrival leaves beside the run counts (R141). -/
theorem watchArrival_eq (s : State) : ∃ breakRun sheetRun heldRun, watchArrival s = { s with watch := { s.watch with
    breakRun := breakRun, sheetRun := sheetRun, heldRun := heldRun
    state := if s.watch.state = .broken ∧ s.tables.sheet.mode ≠ .report then .sheetOff else s.watch.state
    probe := if (s.watch.state = .broken ∧ s.tables.sheet.mode ≠ .report) ∨
        (s.watch.state = .sheetOff ∧ s.watch.probe = none ∧ s.watch.dwell = none)
      then some ⟨1000 * s.tables.sheet.probeInterval, 0⟩ else s.watch.probe } } := by
  by_cases off : s.watch.state = .broken ∧ s.tables.sheet.mode ≠ .report
  · have told : watchArrival s = enterSheetOff s := by
      obtain ⟨hw, hm⟩ := off
      simp [watchArrival, hw, parkMode, hm]
    rw [told, if_pos off, if_pos (.inl off)]
    exact ⟨_, _, _, rfl⟩
  rw [if_neg off]
  by_cases idle : s.watch.state = .sheetOff ∧ s.watch.probe = none ∧ s.watch.dwell = none
  · have told : watchArrival s = startProbeTimer s := by
      obtain ⟨hw, hp, hd⟩ := idle
      simp [watchArrival, hw, hp, hd]
    rw [told, if_pos (.inr idle)]
    exact ⟨_, _, _, rfl⟩
  · have told : watchArrival s = s := by
      unfold watchArrival
      cases hw : s.watch.state with
      | sheetOn | threading => rfl
      | broken =>
        have report : s.tables.sheet.mode = .report := by simpa [hw] using off
        simp [parkMode, report]
      | sheetOff =>
        have running : s.watch.probe = none → ¬ s.watch.dwell = none := by simpa [hw] using idle
        simpa using fun p d => absurd d (running p)
    rw [told, if_neg (by rintro (h | h) <;> contradiction)]
    exact ⟨_, _, _, rfl⟩

/-- What an arrival at park leaves of the break watch. -/
def arrivedWatch (s : State) : BreakWatch :=
  { s.watch with
    breakRun := 0, heldRun := none, sheetRun := 0
    state := if s.watch.state = .broken ∧ s.tables.sheet.mode ≠ .report then .sheetOff else s.watch.state
    probe := if (s.watch.state = .broken ∧ s.tables.sheet.mode ≠ .report) ∨
        (s.watch.state = .sheetOff ∧ s.watch.probe = none ∧ s.watch.dwell = none)
      then some ⟨1000 * s.tables.sheet.probeInterval, 0⟩ else s.watch.probe }

/-- After the notice of an arrival, a carriage in which nothing is counted leaves the watch of the arrival. -/
theorem setCarriage_watchArrival (c : Carriage) (h : c.countsNothing = true) (s : State) :
    setCarriage c (watchArrival s) =
      { s with frame := { s.frame with carriage := c }, watch := arrivedWatch s } := by
  obtain ⟨_, _, _, e⟩ := watchArrival_eq s
  rw [setCarriage_quiet c _ h, e]
  rfl

theorem arriveAtPark_standardize (h : s.standardize.request = true) : arriveAtPark s =
    startCollection { endMove s with
      frame := { (endMove s).frame with carriage := .standardizing }, watch := arrivedWatch s } := by
  obtain ⟨_, _, _, e⟩ := watchArrival_eq (endMove s)
  have request : (watchArrival (endMove s)).standardize.request = true := by rw [e]; exact h
  rw [arriveAtPark, if_pos request, enterStandardizing, setCarriage_watchArrival _ rfl]
  rfl

theorem arriveAtPark_approach {c : Context} (hr : s.standardize.request = false) (hs : s.frame.scanOn = true)
    (hg : governing s = some c) : arriveAtPark s =
    { (endMove s).moving (.traverse .positioning .fwd) (limitsNow c s).front c.speed with watch := arrivedWatch s } := by
  obtain ⟨_, _, _, e⟩ := watchArrival_eq (endMove s)
  have request : (watchArrival (endMove s)).standardize.request = false := by rw [e]; exact hr
  have scanOn : (watchArrival (endMove s)).frame.scanOn = true := by rw [e]; exact hs
  have gov : governing (watchArrival (endMove s)) = some c := by rw [e]; exact hg
  rw [arriveAtPark, if_neg (by simp [request]), if_pos scanOn, beginApproach_some _ c gov, e]
  rfl

theorem arriveAtPark_parks (hr : s.standardize.request = false) (h : s.frame.scanOn = false ∨ governing s = none) :
    arriveAtPark s =
    { endMove s with frame := { (endMove s).frame with carriage := .parked }, watch := arrivedWatch s } := by
  obtain ⟨_, _, _, e⟩ := watchArrival_eq (endMove s)
  have request : (watchArrival (endMove s)).standardize.request = false := by rw [e]; exact hr
  have parks : setCarriage .parked (watchArrival (endMove s)) =
      { endMove s with frame := { (endMove s).frame with carriage := .parked }, watch := arrivedWatch s } :=
    setCarriage_watchArrival _ rfl _
  rw [arriveAtPark, if_neg (by simp [request])]
  obtain off | unled := h
  · rw [if_neg (by rw [e]; simpa using off), parks]
  · split
    · rw [beginApproach_none _ (by rw [e]; exact unled), parks]
    · exact parks

/-- However the arrival goes on, the break watch is left the same. -/
theorem arriveAtPark_watch (s : State) : (arriveAtPark s).watch = arrivedWatch s := by
  cases hr : s.standardize.request with
  | true => rw [arriveAtPark_standardize hr]; rfl
  | false =>
    cases hs : s.frame.scanOn with
    | false => rw [arriveAtPark_parks hr (.inl hs)]
    | true =>
      cases hg : governing s with
      | none => rw [arriveAtPark_parks hr (.inr hg)]
      | some c => rw [arriveAtPark_approach hr hs hg]

/-! ### Dwells -/

theorem startDwell_eq (h : NoRuns s) : startDwell s =
    { s with
      tables := (commit s).tables
      frame := { s.frame with target := none, stall := none, carriage := .fixed .dwelling, windows := .const [] } } := by
  have dwelling := setCarriage_of_noRuns (s := commit (endMove s)) (.fixed .dwelling)
    ⟨h.breakRun, h.heldRun, h.sheetRun⟩
  unfold startDwell
  rw [dwelling]
  rfl

theorem startProbeDwell_eq (h : NoRuns s) : startProbeDwell s =
    { s with
      frame := { s.frame with target := none, stall := none, carriage := .probing .dwelling }
      watch := if s.watch.state = .sheetOff
        then { s.watch with dwell := some ⟨1000 * s.tables.sheet.probeDwell, 0⟩ } else s.watch } := by
  have dwelling := setCarriage_of_noRuns (s := endMove s) (.probing .dwelling) ⟨h.breakRun, h.heldRun, h.sheetRun⟩
  rw [startProbeDwell, dwelling, watchDwellStart]
  cases hw : s.watch.state with
  | sheetOff => simp [endMove, hw, Timer.start, ← h.sheetRun]
  | _ => simp [endMove, hw]

/-- The fixed-point windows after a sample (R105). -/
def windowsFed (x : Sample) (w : PerProfile (List Nat)) : PerProfile (List Nat) :=
  if x.frame.reference then w else .make (fun c =>
    match (x.profileValue c).usable with
    | some v => joinWindow (w.get c) v
    | none => w.get c)

theorem feedWindows_eq (x : Sample) (s : State) :
    feedWindows x s = { s with frame := { s.frame with windows := windowsFed x s.frame.windows } } := by
  unfold feedWindows windowsFed
  split <;> rfl

theorem joinWindow_of_lt {w : List Nat} (v : Nat) (h : w.length < 64) : joinWindow w v = w ++ [v] := by
  have : w.length + 1 - Config.windowCapacity = 0 := by simp [Config.windowCapacity]; omega
  rw [joinWindow, this, List.drop_zero]

theorem joinWindow_of_eq {w : List Nat} (v : Nat) (h : w.length = 64) : joinWindow w v = w.tail ++ [v] := by
  cases w with
  | nil => simp at h
  | cons a w => simp [joinWindow, h, Config.windowCapacity]

theorem windowsFed_get (x : Sample) (w : PerProfile (List Nat)) (c : ProfileChannel) (h : (w.get c).length ≤ 64) :
    (windowsFed x w).get c = if x.frame.reference then w.get c
      else match (x.profileValue c).usable with
        | none => w.get c
        | some v => if (w.get c).length < 64 then w.get c ++ [v] else (w.get c).tail ++ [v] := by
  unfold windowsFed
  split
  · rfl
  · rw [PerProfile.get_make]
    cases (x.profileValue c).usable with
    | none => rfl
    | some v =>
      dsimp only
      split
      · exact joinWindow_of_lt v ‹_›
      · exact joinWindow_of_eq v (by omega)

/-- Settles O44: an arrival by carriage state, at park by what waits there. -/
theorem arrivalsLeadOnAndDwellsBegin : Obligations.ArrivalsLeadOnAndDwellsBegin := by
  unfold Obligations.ArrivalsLeadOnAndDwellsBegin
  refine ⟨fun x s m d hm hd => ⟨fun hasMove notScanning away => ?_, fun near rest => ?_⟩, fun x s hc => ?_⟩
  · refine frameTakes_underWay x hasMove notScanning fun h => ?_
    obtain ⟨m', d', hm', hd', rest, near⟩ := (isArrival_iff _ _ s).mp h
    cases hm.symm.trans hm'
    cases hd.symm.trans hd'
    obtain away | moving := away
    · exact away near
    · simp [rest] at moving
  · have arrival := (isArrival_iff x.frame.position x.frame.position s).mpr ⟨m, d, hm, hd, rest, near⟩
    refine ⟨fun hc => ?_, fun hc quiet => ?_, fun hc quiet => ?_⟩
    · dsimp only
      rw [frameTakes_arrival_parking x hc arrival]
      refine ⟨arriveAtPark_watch _, fun hr => ?_, fun c hr hs hg => ?_, fun hr hs => ?_⟩
      · rw [arriveAtPark_standardize (s := s.noted x.frame.position) hr]
        exact ⟨rfl, rfl, _, rfl, rfl, rfl, rfl, rfl, rfl, rfl, rfl⟩
      · rw [arriveAtPark_approach (s := s.noted x.frame.position) hr hs hg]
        exact ⟨rfl, rfl⟩
      · rw [arriveAtPark_parks (s := s.noted x.frame.position) hr (.inl hs)]
        exact ⟨rfl, rfl⟩
    · have runs := NoRuns.of_watchQuiet quiet (by rw [hc]; rfl) (by simp [hc])
      dsimp only
      rw [frameTakes_fixedMoving x s hc, if_pos arrival, notePosition_of_hasMove _ (by rw [hc]; rfl),
        startDwell_eq (s := s.noted x.frame.position) ⟨runs.breakRun, runs.heldRun, runs.sheetRun⟩]
      rfl
    · have runs := NoRuns.of_watchQuiet quiet (by rw [hc]; rfl) (by simp [hc])
      dsimp only
      rw [frameTakes_probingMoving x s hc, if_pos arrival, notePosition_of_hasMove _ (by rw [hc]; rfl),
        startProbeDwell_eq (s := s.noted x.frame.position) ⟨runs.breakRun, runs.heldRun, runs.sheetRun⟩]
      rfl
  · refine ⟨windowsFed x s.frame.windows, ?_, fun c h => windowsFed_get x _ c h⟩
    rw [frameTakes_fixedDwelling x s hc, notePosition_active _ _ (by simp [hc]) (by simp [hc]), feedWindows_eq]

/-! ### Openings -/

/-- A request flag after a context has been taken: set when a standardize has fallen due (R26). -/
def requestTaken (c : Context) (s : State) : Bool :=
  s.standardize.request || (decide (c.interval ≠ 0) && decide (c.interval ≤ s.standardize.counter))

/-- The profile store after it has received an action: applied with the engine IDLE, kept else (R120, R124). -/
def profileTaken (a : PendingAction) (s : State) : ProfileStore :=
  if s.closeOut.engine = .idle then s.profile.applyAction a else { s.profile with action := some a }

theorem takeAction_eq (a : PendingAction) (s : State) : takeAction a s = { s with profile := profileTaken a s } := by
  unfold takeAction profileTaken
  split <;> rfl

/-- The hand-over at an opening outside PARKED, with a context queued or without. -/
theorem takeContext_eq {c : Context} (r : MapRecord) (hp : s.frame.carriage ≠ .parked)
    (hg : s.contexts.queue.head? = some c ∨ (s.contexts.queue = [] ∧ s.contexts.inEffect = some c)) :
    takeContext r s = { s with
      contexts := ⟨s.contexts.queue.tail, some c⟩
      profile := if s.contexts.queue = [] then s.profile else profileTaken ⟨c.action, r.identity c.map⟩ s
      standardize := if s.contexts.queue = [] then s.standardize
        else { s.standardize with request := requestTaken c s } } := by
  obtain queued | ⟨empty, effect⟩ := hg
  · obtain ⟨rest, hq⟩ : ∃ rest, s.contexts.queue = c :: rest := by
      cases hq : s.contexts.queue with
      | nil => simp [hq] at queued
      | cons a rest => exact ⟨rest, by simpa [hq] using queued⟩
    have waits : s.contexts.queue ≠ [] := by simp [hq]
    rw [takeContext_cons r s c rest hq hp, takeAction_eq, if_neg waits, if_neg waits, hq]
    rfl
  · have tail : s.contexts.queue.tail = s.contexts.queue := by rw [empty]; rfl
    rw [takeContext_nil r s empty, if_pos empty, if_pos empty, tail, ← effect]

theorem governing_of_oldest {c : Context}
    (hg : s.contexts.queue.head? = some c ∨ (s.contexts.queue = [] ∧ s.contexts.inEffect = some c)) :
    governing s = some c := by
  obtain queued | ⟨empty, effect⟩ := hg
  · simp [governing, queued]
  · simp [governing, empty, effect]

/-- Settles O45: the hand-over with a context queued and without, then what the opening adds. -/
theorem openingTakesContextMapAndLimits : Obligations.OpeningTakesContextMapAndLimits := by
  unfold Obligations.OpeningTakesContextMapAndLimits
  intro x s dir m d c r hc hm hd rest near near' hg hr
  have arrival := (isArrival_iff x.frame.position x.frame.position s).mpr ⟨m, d, hm, hd, rest, near, near'⟩
  have map : s.tables.map c.map = some r := hr
  have taken := takeContext_eq (s := s.rested x.frame.position) r
    (by rw [State.rested, hc]; exact fun h => Carriage.noConfusion h) hg
  have opened := openTraverse_eq dir (s.rested x.frame.position) c r (governing_of_oldest hg) map
  dsimp only
  rw [frameTakes_arrival_positioning x hc arrival, opened, taken]
  refine ⟨rfl, rfl, rfl, rfl, rfl, rfl, rfl, ⟨_, rfl, rfl, rfl, rfl, rfl, rfl, rfl, rfl⟩, rfl, rfl, rfl, rfl, rfl, rfl, rfl,
    fun empty => ⟨if_pos empty, if_pos empty⟩, fun waits => ⟨fun idle => ?_, fun busy => ?_, if_neg waits⟩⟩
  · exact (if_neg waits).trans (if_pos idle)
  · exact (if_neg waits).trans (if_neg busy)

end Sys2Proof.Machine

/-! ## The carriage's timers: silence and stall (O47) -/

namespace Sys2Proof.Machine

variable {s t u : State} {c : Condition}

/-! ### A halt with its condition raised -/

/-- A halt with its condition raised and not yet taken, in a state with no traverse open and no collection running. -/
def State.haltRaised (s : State) (c : Condition) : State :=
  { s with
    port := s.port.handDrive .stop
    frame := { s.frame with carriage := .halted, scanOn := false, target := none, silence := none, stall := none }
    conditioner := { s.conditioner with expected := none }
    watch := { s.watch with breakRun := 0, heldRun := none, sheetRun := 0 }
    conditions := { s.conditions with
      raised := s.conditions.raised ++ [⟨{ alarmNow c s with carriage := .halted }, []⟩] } }

theorem raise_sendStop_haltCarriage (c : Condition) (s : State) :
    raise c (sendStop (haltCarriage s)) = (abandonTraverse .halt s).haltRaised c := by
  rw [haltCarriage_eq]
  rfl

theorem haltFor_of_idle (c : Condition) (h : s.standardize.collection = none) :
    haltFor c s = (abandonTraverse .halt s).haltRaised c := by
  have idle : ((abandonTraverse .halt s).haltRaised c).standardize.collection = none := by simp [State.haltRaised, h]
  rw [haltFor, raise_sendStop_haltCarriage, abortCollection, idle]

theorem haltFor_of_collecting {k : Collection} (c : Condition) (h : s.standardize.collection = some k) :
    haltFor c s = raise .stdAbort (endCollection (handHead .normal ((abandonTraverse .halt s).haltRaised c))) := by
  have running : ((abandonTraverse .halt s).haltRaised c).standardize.collection = some k := by
    simp [State.haltRaised, h]
  rw [haltFor, raise_sendStop_haltCarriage, abortCollection, running]
  dsimp only
  rw [abandonCollection_some _ k running]

/-- The condition unit takes the one raising of a halt. -/
theorem settle_haltRaised (c : Condition) (h : s.conditions.raised = []) : settle (s.haltRaised c) = s.haltedBy c := by
  have one : (s.haltRaised c).conditions.raised = [⟨{ alarmNow c s with carriage := .halted }, []⟩] := by
    simp [State.haltRaised, h]
  have same : { (s.haltRaised c).conditions with raised := [] } = s.conditions := by rw [← h]; rfl
  rw [settle_one _ _ one rfl, same]
  rfl

/-- A halt that abandons the open traverse: what it leaves of it, and its condition taken. -/
theorem settle_haltFor_of_open {o : OpenTraverse} (c : Condition) (hc : s.standardize.collection = none)
    (ho : s.binning.openTraverse = some o) :
    let t := settle (haltFor c s)
    t.binning.openTraverse = none ∧ t.frame = (s.haltedBy c).frame ∧ t.port = s.port.handDrive .stop ∧
      t.conditioner.expected = none ∧ t.conditions.flag c = true ∧
      ReportFrame.notice ⟨s.closeOut.scanNumber, s.clock, o.direction, o.context.tag, o.map.identity, .halt⟩ ∈
        t.mill.reports := by
  have halted := haltFor_of_idle c hc
  rw [abandonTraverse_some .halt s o ho, placeNotice_eq] at halted
  obtain ⟨-, -, -, -, taken, -, -⟩ := settle_frame (haltFor c s)
  have raised : (⟨{ alarmNow c s with carriage := .halted }, []⟩ : Raising) ∈ (haltFor c s).conditions.raised := by
    rw [halted]
    exact List.mem_append_right _ (List.mem_singleton_self _)
  refine ⟨?_, ?_, ?_, ?_, taken _ raised, ?_⟩
  · rw [settle_binning, halted]; rfl
  · rw [settle_frame', halted]; rfl
  · rw [settle_port, halted]; rfl
  · rw [settle_conditioner, halted]; rfl
  · rw [settle_mill, halted]
    exact List.mem_append_right _ (List.mem_singleton_self _)

/-- A halt that finds a collection and no open traverse: the collection is ended with STD_ABORT after the STOP. -/
theorem settle_haltFor_of_collecting {k : Collection} (c : Condition) (hc : s.standardize.collection = some k)
    (ho : s.binning.openTraverse = none) :
    let t := settle (haltFor c s)
    t.frame = (s.haltedBy c).frame ∧ t.standardize = ⟨false, s.standardize.counter, none⟩ ∧ t.tables = s.tables ∧
      t.port = (s.port.handDrive .stop).handHead .normal ∧ t.conditions.flag c = true ∧
      t.conditions.flag .stdAbort = true := by
  have halted := haltFor_of_collecting c hc
  rw [abandonTraverse_none .halt s ho] at halted
  obtain ⟨-, -, -, -, taken, -, -⟩ := settle_frame (haltFor c s)
  have raised : (haltFor c s).conditions.raised = (s.conditions.raised ++
      [⟨{ alarmNow c s with carriage := .halted }, []⟩]) ++ [⟨{ alarmNow .stdAbort s with carriage := .halted }, []⟩] := by
    rw [halted]
    rfl
  refine ⟨?_, ?_, ?_, ?_, taken ⟨{ alarmNow c s with carriage := .halted }, []⟩ (by simp [raised]),
    taken ⟨{ alarmNow .stdAbort s with carriage := .halted }, []⟩ (by simp [raised])⟩
  · rw [settle_frame', halted]; rfl
  · rw [settle_standardize, halted]; rfl
  · rw [settle_tables, halted]; rfl
  · rw [settle_port, halted]; rfl

/-! ### The two expiries -/

/-- The state in which the silence timer is idle. -/
def State.silenceIdle (s : State) : State := { s with frame := { s.frame with silence := none } }

theorem silenceTimerExpiry_due (h : timerDue s.frame.silence = true) :
    exec .silenceTimerExpiry s = .next (settle (silenceExpires s)) :=
  congrArg Host.Outcome.next (if_pos h)

/-- Out of UNREFERENCED, PARKED and HALTED the silence halts the carriage. -/
theorem silenceExpires_halts (h : s.frame.carriage.hasMove = true ∨ s.frame.carriage = .fixed .dwelling ∨
    s.frame.carriage = .probing .dwelling ∨ s.frame.carriage = .standardizing) :
    silenceExpires s = haltFor .carriageSilent s.silenceIdle := by
  cases hc : s.frame.carriage with
  | unreferenced | parked | halted => simp [hc, Carriage.hasMove] at h
  | _ => simp [silenceExpires, hc, State.silenceIdle]

theorem silenceExpires_parked (h : s.frame.carriage = .parked) :
    silenceExpires s = raise .carriageSilent s.silenceIdle := by
  simp [silenceExpires, h, State.silenceIdle]

theorem stallTimerExpiry_due {k : StallTimer} (hk : s.frame.stall = some k) (h : k.timer.due = true) :
    exec .stallTimerExpiry s = .next (settle (stallExpires k s)) := by
  show execStallTimerExpiry s = _
  simp [execStallTimerExpiry, hk, h]

theorem hasStalled_iff (r : Option Nat) (d : Nat) : hasStalled r d = true ↔ ∃ n, r = some n ∧ (d : Int) > n - 4 := by
  cases r with
  | none => simp [hasStalled]
  | some n =>
    have reading : hasStalled (some n) d = true ↔ n < d + 4 := decide_eq_true_iff
    rw [reading]
    exact ⟨fun h => ⟨n, rfl, by omega⟩, fun ⟨m, e, h⟩ => by cases e; omega⟩

/-- A timer running again, with no raising that waits. -/
theorem settle_stallAgain (k : StallTimer) (h : s.conditions.raised = []) :
    settle { s with frame := { s.frame with stall := some k } } = { s with frame := { s.frame with stall := some k } } :=
  settle_nil _ h

/-- Settles O47: each timer by what its expiry finds. -/
theorem silenceAndStallHaltTheCarriage : Obligations.SilenceAndStallHaltTheCarriage := by
  unfold Obligations.SilenceAndStallHaltTheCarriage
  intro s quiet
  refine ⟨fun due => ?_, fun st p m hst due hp hm => ?_, fun st hst due hp => ?_⟩
  · rw [silenceTimerExpiry_due due]
    refine ⟨fun parked => ?_, fun away idle => ?_, fun k hc hk ho => ?_⟩
    · have one : (raise .carriageSilent s.silenceIdle).conditions.raised = [⟨alarmNow .carriageSilent s, []⟩] := by
        show s.conditions.raised ++ _ = _
        rw [quiet]
        rfl
      have same : { (raise .carriageSilent s.silenceIdle).conditions with raised := [] } = s.conditions := by
        rw [← quiet]
        rfl
      rw [silenceExpires_parked parked, settle_one _ _ one rfl, same]
      rfl
    · rw [silenceExpires_halts (by tauto)]
      refine ⟨fun ho => ?_, fun o ho => ⟨_, rfl, settle_haltFor_of_open (s := s.silenceIdle) _ idle ho⟩⟩
      rw [haltFor_of_idle (s := s.silenceIdle) _ idle, abandonTraverse_none (s := s.silenceIdle) _ ho,
        settle_haltRaised (s := s.silenceIdle) _ quiet]
      rfl
    · rw [silenceExpires_halts (by tauto)]
      exact ⟨_, rfl, settle_haltFor_of_collecting (s := s.silenceIdle) _ hk ho⟩
  · rw [stallTimerExpiry_due hst due]
    have expires : stallExpires st s = if hasStalled st.reference (p - m.position + (m.position - p)) then haltFor .driveStall s
        else { s with frame := { s.frame with
          stall := some ⟨⟨s.tables.frame.stallPeriod, 0⟩, some (p - m.position + (m.position - p))⟩ } } := by
      simp [stallExpires, hp, hm, Timer.start, distance_eq]
    rw [expires]
    refine ⟨fun r hr close idle => ?_, fun progress => ?_⟩
    · rw [if_pos ((hasStalled_iff _ _).mpr ⟨r, hr, close⟩)]
      refine ⟨fun ho => ?_, fun o ho => ⟨_, rfl, ?_⟩⟩
      · rw [haltFor_of_idle _ idle, abandonTraverse_none _ s ho, settle_haltRaised _ quiet]
      · obtain ⟨opened, frame, port, -, flag, notice⟩ := settle_haltFor_of_open .driveStall idle ho
        exact ⟨opened, frame, port, flag, notice⟩
    · rw [if_neg, settle_stallAgain _ quiet]
      · rw [hasStalled_iff]
        rintro ⟨n, hn, close⟩
        obtain absent | ⟨r, hr, le⟩ := progress
        · simp [absent] at hn
        · cases hr.symm.trans hn
          omega
  · have expires : stallExpires st s = { s with frame := { s.frame with
          stall := some ⟨⟨s.tables.frame.stallPeriod, 0⟩, st.reference⟩ } } := by
      simp [stallExpires, hp, Timer.start]
    rw [stallTimerExpiry_due hst due, expires, settle_stallAgain _ quiet]

end Sys2Proof.Machine

/-! ## The standardize unit and a sample (O29) -/

namespace Sys2Proof.Machine

variable {s t u : State} {c : Collection} {r : PerMeasured (Option ParticipantResult)}

/-! ### Results -/

theorem mem_resultList (a : ParticipantResult) (r : PerMeasured (Option ParticipantResult)) :
    a ∈ resultList r ↔ some a ∈ [r.bw, r.mo, r.ca, r.tr] := by
  simp [resultList, List.mem_filterMap]

theorem contains_resultList (a : ParticipantResult) (r : PerMeasured (Option ParticipantResult)) :
    (resultList r).contains a = decide (some a ∈ [r.bw, r.mo, r.ca, r.tr]) := by
  rw [Bool.eq_iff_iff, List.contains_iff_mem, mem_resultList, decide_eq_true_iff]

@[simp] theorem stagedFactor_passes (old q : Nat) : stagedFactor old (some (.passes q)) = q := rfl

theorem stagedFactor_of_ne {old : Nat} {a : Option ParticipantResult} (h : ∀ q, a ≠ some (.passes q)) :
    stagedFactor old a = old := by
  cases a with
  | none => rfl
  | some a =>
    cases a with
    | passes q => exact absurd rfl (h q)
    | _ => rfl

/-- The staged factors after results (R34). -/
def stagedFactors (q : PerMeasured Nat) (r : PerMeasured (Option ParticipantResult)) : PerMeasured Nat :=
  ⟨stagedFactor q.bw r.bw, stagedFactor q.mo r.mo, stagedFactor q.ca r.ca, stagedFactor q.tr r.tr⟩

theorem stagedFactors_of_none_passes {q : PerMeasured Nat} (h : ∀ a ∈ resultList r, a.isPass = false) :
    stagedFactors q r = q := by
  have fails (x : Option ParticipantResult) (hx : x ∈ [r.bw, r.mo, r.ca, r.tr]) (p : Nat) : x ≠ some (.passes p) := by
    rintro rfl
    simpa [ParticipantResult.isPass] using h _ ((mem_resultList _ r).mpr hx)
  simp only [stagedFactors, stagedFactor_of_ne (fails r.bw (by simp)), stagedFactor_of_ne (fails r.mo (by simp)),
    stagedFactor_of_ne (fails r.ca (by simp)), stagedFactor_of_ne (fails r.tr (by simp))]

/-- The factors region after results: staged if a participant passed (R19, R34). -/
def factorsStaged (r : PerMeasured (Option ParticipantResult)) (d : Region (PerMeasured Nat)) :
    Region (PerMeasured Nat) :=
  if (resultList r).any ParticipantResult.isPass then d.stage (stagedFactors d.staged r) else d

theorem stageFactors_eq (r : PerMeasured (Option ParticipantResult)) (s : State) :
    stageFactors r s = { s with tables := { s.tables with stdf := factorsStaged r s.tables.stdf } } := by
  unfold stageFactors factorsStaged
  split <;> rfl

theorem factorsStaged_of_pass (d : Region (PerMeasured Nat)) (h : ∃ a ∈ resultList r, a.isPass = true) :
    factorsStaged r d = d.stage (stagedFactors d.staged r) := if_pos (List.any_eq_true.mpr h)

theorem factorsStaged_of_none_passes (d : Region (PerMeasured Nat)) (h : ∀ a ∈ resultList r, a.isPass = false) :
    factorsStaged r d = d := if_neg (by simpa using h)

theorem factorsStaged_staged (r : PerMeasured (Option ParticipantResult)) (d : Region (PerMeasured Nat)) :
    (factorsStaged r d).staged = stagedFactors d.staged r := by
  by_cases h : ∃ a ∈ resultList r, a.isPass = true
  · rw [factorsStaged_of_pass d h]
    rfl
  · have fails : ∀ a ∈ resultList r, a.isPass = false := by simpa using h
    rw [factorsStaged_of_none_passes d fails, stagedFactors_of_none_passes fails]

/-! ### The end of a standardize -/

/-- What the end of a standardize leaves of the break watch, in a carriage state in which no run is counted (R141). -/
def endedWatch (s : State) : BreakWatch :=
  if s.watch.state = .broken ∧ s.tables.sheet.mode ≠ .report then
    { s.watch with
      state := .sheetOff, breakRun := 0, heldRun := none, sheetRun := 0
      probe := some ⟨1000 * s.tables.sheet.probeInterval, 0⟩ }
  else { s.watch with breakRun := 0, heldRun := none, sheetRun := 0 }

theorem enterSheetOff_of_noRuns (h : NoRuns s) : enterSheetOff s = { s with watch := { s.watch with
    state := .sheetOff, probe := some ⟨1000 * s.tables.sheet.probeInterval, 0⟩ } } := by
  simp [enterSheetOff, startProbeTimer, quietRuns, Timer.start, h.breakRun, h.heldRun, h.sheetRun]

/-- The break watch told of the end of a standardize, once a state is entered in which no run is counted. -/
theorem watchStandardizeEnd_eq {w : BreakWatch} (h : s.watch = { w with breakRun := 0, heldRun := none, sheetRun := 0 }) :
    watchStandardizeEnd s = { s with watch := endedWatch { s with watch := w } } := by
  have runs : NoRuns s := ⟨by rw [h], by rw [h], by rw [h]⟩
  have state : s.watch.state = w.state := by rw [h]
  unfold watchStandardizeEnd endedWatch
  by_cases off : w.state = .broken ∧ s.tables.sheet.mode ≠ .report
  · rw [if_pos off, if_pos (by simpa [state, parkMode] using off), enterSheetOff_of_noRuns runs, h]
  · rw [if_neg off, if_neg (by simpa [state, parkMode] using off), ← h]

theorem standardizeEnded_approach {g : Context} (hs : s.frame.scanOn = true) (hg : governing s = some g) :
    standardizeEnded s =
      { s.moving (.traverse .positioning .fwd) (limitsNow g s).front g.speed with watch := endedWatch s } := by
  rw [standardizeEnded, if_pos hs, beginApproach_some s g hg]
  exact watchStandardizeEnd_eq (w := s.watch) rfl

theorem standardizeEnded_parks (h : s.frame.scanOn = false ∨ governing s = none) :
    standardizeEnded s = { s with frame := { s.frame with carriage := .parked }, watch := endedWatch s } := by
  have parks : watchStandardizeEnd (setCarriage .parked s) =
      { s with frame := { s.frame with carriage := .parked }, watch := endedWatch s } := by
    rw [setCarriage_quiet _ s rfl]
    exact watchStandardizeEnd_eq (w := s.watch) rfl
  unfold standardizeEnded
  obtain off | unled := h
  · rw [if_neg (by simp [off]), parks]
  · rw [beginApproach_none s unled, ite_self, parks]

/-- However the carriage goes on, the end of a standardize changes frame controller, port and break watch alone. -/
theorem standardizeEnded_eq (s : State) : standardizeEnded s =
    { s with frame := (standardizeEnded s).frame, port := (standardizeEnded s).port, watch := endedWatch s } := by
  cases hs : s.frame.scanOn with
  | false => rw [standardizeEnded_parks (.inl hs)]
  | true =>
    cases hg : governing s with
    | none => rw [standardizeEnded_parks (.inr hg)]
    | some g =>
      rw [standardizeEnded_approach hs hg]
      rfl

/-! ### The S-th reference sample -/

/-- What the results raise (R34, R35). -/
def resultRaisings (r : PerMeasured (Option ParticipantResult)) (s : State) : List Raising :=
  (if some .failsCoverage ∈ [r.bw, r.mo, r.ca, r.tr] then [⟨alarmNow .stdAbort s, []⟩] else []) ++
  (if some .failsDrift ∈ [r.bw, r.mo, r.ca, r.tr] then [⟨alarmNow .stdDrift s, []⟩] else [])

/-- The state in which a collection has ended with its results, before the frame controller is told (R31, R35). -/
def collected (c : Collection) (s : State) : State :=
  { s with
    tables := { s.tables with stdf := factorsStaged c.results s.tables.stdf }
    standardize := ⟨false, 0, none⟩
    port := s.port.handHead .normal
    conditions := { s.conditions with raised := s.conditions.raised ++ resultRaisings c.results s } }

theorem completeStandardize_eq (c : Collection) (s : State) :
    completeStandardize c s = standardizeEnded (collected c s) := by
  unfold completeStandardize collected resultRaisings
  dsimp only
  rw [stageFactors_eq, contains_resultList, contains_resultList]
  congr 1
  by_cases coverage : some .failsCoverage ∈ [c.results.bw, c.results.mo, c.results.ca, c.results.tr] <;>
    by_cases drift : some .failsDrift ∈ [c.results.bw, c.results.mo, c.results.ca, c.results.tr] <;>
    simp only [coverage, drift, decide_true, decide_false, raiseIf, if_true, if_false, raise, List.append_assoc,
      List.append_nil, List.nil_append] <;> rfl

theorem resultRaisings_conditions (r : PerMeasured (Option ParticipantResult)) (s : State) :
    (resultRaisings r s).map Raising.condition =
      (if some .failsCoverage ∈ [r.bw, r.mo, r.ca, r.tr] then [.stdAbort] else []) ++
      (if some .failsDrift ∈ [r.bw, r.mo, r.ca, r.tr] then [.stdDrift] else []) := by
  unfold resultRaisings
  rw [List.map_append]
  congr 1 <;> split <;> rfl

theorem standardizeTakes_passedOver {x : Sample} (h : x.frame.reference = false) : standardizeTakes x s = s := by
  unfold standardizeTakes
  cases s.standardize.collection with
  | none => rfl
  | some c => simp [h]

theorem standardizeTakes_counts {x : Sample} (hc : s.standardize.collection = some c) (hr : x.frame.reference = true)
    (h : c.count + 1 < c.target) : standardizeTakes x s =
    { s with standardize := { s.standardize with collection := some (c.add x.frame) } } := by
  have short : ¬ (c.add x.frame).target ≤ (c.add x.frame).count := by
    show ¬ c.target ≤ c.count + 1
    omega
  simp [standardizeTakes, hc, hr, short]

theorem standardizeTakes_completes {x : Sample} (hc : s.standardize.collection = some c)
    (hr : x.frame.reference = true) (h : c.target ≤ c.count + 1) :
    standardizeTakes x s = standardizeEnded (collected (c.add x.frame) s) := by
  have full : (c.add x.frame).target ≤ (c.add x.frame).count := h
  simp [standardizeTakes, hc, hr, full, completeStandardize_eq]

/-- Settles O29: the sample without the flag, before the S-th, and the S-th. -/
theorem referenceSamplesCountAndComplete : Obligations.ReferenceSamplesCountAndComplete := by
  unfold Obligations.ReferenceSamplesCountAndComplete
  intro x c s hc
  refine ⟨standardizeTakes_passedOver, fun hr h => standardizeTakes_counts hc hr h, fun hr h => ?_⟩
  dsimp only
  rw [standardizeTakes_completes hc hr h]
  have ended := standardizeEnded_eq (collected (c.add x.frame) s)
  have tables : (standardizeEnded (collected (c.add x.frame) s)).tables.stdf =
      factorsStaged (c.add x.frame).results s.tables.stdf := by
    rw [ended]
    rfl
  have staged := factorsStaged_staged (c.add x.frame).results s.tables.stdf
  have participant (o : Option Participant) (ready : Bool) (raw : Nat) :
      (o.map (fun p => p.add ready raw)).map (fun p => p.result c.target) =
        o.map (fun p => (p.add ready raw).result c.target) := Option.map_map _ _ _
  refine ⟨?_, participant _ _ _, participant _ _ _, participant _ _ _, participant _ _ _, fun off => ?_,
    fun g on hg => ?_, ?_⟩
  · rw [tables]
    rw [ended]
    rfl
  · rw [standardizeEnded_parks (s := collected (c.add x.frame) s) (.inl off)]
    exact ⟨rfl, rfl⟩
  · rw [standardizeEnded_approach (s := collected (c.add x.frame) s) on hg]
    exact ⟨rfl, rfl, rfl⟩
  · rw [tables, staged]
    refine ⟨fun q hq => ?_, stagedFactor_of_ne, fun q hq => ?_, stagedFactor_of_ne, fun q hq => ?_, stagedFactor_of_ne,
      fun q hq => ?_, stagedFactor_of_ne, fun pass => ?_, factorsStaged_of_none_passes _, ?_⟩
    · simp [stagedFactors, hq]
    · simp [stagedFactors, hq]
    · simp [stagedFactors, hq]
    · simp [stagedFactors, hq]
    · rw [factorsStaged_of_pass _ pass]
      exact ⟨rfl, rfl, rfl⟩
    · rw [ended, List.append_assoc, ← resultRaisings_conditions _ s, ← List.map_append]
      rfl

end Sys2Proof.Machine

/-! ## A SAMPLE in every state (O22) -/

namespace Sys2Proof.Machine

variable {s t u : State}

/-! ### The conditioner's own record -/

@[simp] theorem goPark_conditioner (s : State) : (goPark s).conditioner = s.conditioner := by rw [goPark_eq]; rfl

@[simp] theorem watchArrival_conditioner (s : State) : (watchArrival s).conditioner = s.conditioner := by
  obtain ⟨_, _, _, e⟩ := watchArrival_eq s
  rw [e]

theorem parkRequest_conditioner (s : State) : (parkRequest s).conditioner = s.conditioner := by
  unfold parkRequest
  split <;> simp

theorem declareBreak_conditioner (b : BreakSource) (s : State) : (declareBreak b s).conditioner = s.conditioner := by
  unfold declareBreak
  dsimp only
  split
  · rw [parkRequest_conditioner]; rfl
  · rfl

theorem watchTakes_conditioner (x : Sample) (s : State) : (watchTakes x s).conditioner = s.conditioner := by
  have reset (s : State) : (gapResetRuns x s).conditioner = s.conditioner := by unfold gapResetRuns; split <;> rfl
  have detected (s : State) : (detect x.tr s).conditioner = s.conditioner := by
    unfold detect
    split
    · rfl
    · split
      · split
        · exact declareBreak_conditioner _ _
        · rfl
      · rfl
  have looked (s : State) : (lookForSheet x.tr s).conditioner = s.conditioner := by
    unfold lookForSheet
    split
    · rfl
    · split
      · split <;> rfl
      · rfl
  unfold watchTakes
  dsimp only
  split
  · exact reset s
  · split
    · rw [detected, reset]
    · split
      · rw [looked, reset]
      · exact reset s

theorem standardizeTakes_conditioner (x : Sample) (s : State) :
    (standardizeTakes x s).conditioner = s.conditioner := by
  unfold standardizeTakes
  split
  · rfl
  · split
    · dsimp only
      split
      · rw [completeStandardize_eq, standardizeEnded_eq]; rfl
      · rfl
    · rfl

theorem takeContext_conditioner (r : MapRecord) (s : State) : (takeContext r s).conditioner = s.conditioner := by
  have request (s : State) : (setRequest s).conditioner = s.conditioner := by unfold setRequest; dsimp only; split <;> rfl
  have due (s : State) : (checkDue s).conditioner = s.conditioner := by
    unfold checkDue
    split
    · exact request s
    · rfl
  unfold takeContext
  split
  · rfl
  · rw [takeAction_conditioner, due]

theorem openTraverse_conditioner (d : Direction) (s : State) : (openTraverse d s).conditioner = s.conditioner := by
  unfold openTraverse
  split
  · exact goPark_conditioner s
  · split
    · exact goPark_conditioner s
    · exact takeContext_conditioner _ s

theorem closeTraverse_conditioner (s : State) : (closeTraverse s).conditioner = s.conditioner := by
  cases h : s.binning.openTraverse with
  | none => simp [closeTraverse, h]
  | some o =>
    by_cases idle : s.closeOut.engine = .idle
    · rw [closeTraverse_idle s o h idle, raiseIf_conditioner]; rfl
    · rw [closeTraverse_busy s o h idle, raise_conditioner, placeNotice_eq]; rfl

theorem reverse_conditioner (d : Direction) (s : State) : (reverse d s).conditioner = s.conditioner := by
  have ended : (if breakAtReversal s then abandonTraverse .brk s else closeTraverse s).conditioner = s.conditioner := by
    split
    · exact abandonTraverse_conditioner _ s
    · exact closeTraverse_conditioner s
  have turned (u : State) : (if !u.frame.scanOn || u.standardize.request then goPark u
      else openTraverse (otherDirection d) u).conditioner = u.conditioner := by
    split
    · exact goPark_conditioner u
    · exact openTraverse_conditioner _ u
  exact (turned _).trans ended

theorem arriveAtPark_conditioner (s : State) : (arriveAtPark s).conditioner = s.conditioner := by
  cases hr : s.standardize.request with
  | true => rw [arriveAtPark_standardize hr]; rfl
  | false =>
    cases hs : s.frame.scanOn with
    | false => rw [arriveAtPark_parks hr (.inl hs)]; rfl
    | true =>
      cases hg : governing s with
      | none => rw [arriveAtPark_parks hr (.inr hg)]; rfl
      | some c => rw [arriveAtPark_approach hr hs hg]; rfl

theorem frameTakes_conditioner (x : Sample) (s : State) : (frameTakes x s).conditioner = s.conditioner := by
  have noted := notePosition_conditioner x.frame.position s
  unfold frameTakes
  dsimp only
  split
  · split
    · rw [arriveAtPark_conditioner, noted]
    · exact noted
  · split
    · rw [openTraverse_conditioner, endMove_conditioner, noted]
    · exact noted
  · split
    · rw [reverse_conditioner, noted]
    · exact noted
  · split
    · exact noted
    · exact noted
  · rw [feedWindows_eq]; exact noted
  · split
    · unfold startProbeDwell watchDwellStart
      split <;> exact noted
    · exact noted
  all_goals exact noted

theorem Consumer.takes_conditioner (x : Sample) (s : State) (c : Consumer) :
    (c.takes x s).conditioner = s.conditioner := by
  rw [Consumer.takes_eq]
  cases c with
  | frameController => exact frameTakes_conditioner x _
  | breakWatch => exact watchTakes_conditioner x s
  | standardizeUnit => exact standardizeTakes_conditioner x s
  | stream => show (streamTakes x s).conditioner = _; rw [streamTakes_eq]

/-! ### Flags after a step -/

/-- What taking a raising does to the flag of a condition other than LINK_ERROR. -/
theorem take_flag (u : ConditionUnit) (a : AlarmFrame) {d : Condition} (hd : d ≠ .linkError) :
    (u.take a).flag d = (u.flag d || decide (a.condition = d)) := by
  obtain ⟨h, e⟩ | ⟨-, -, -, e⟩ | ⟨-, -, -, e⟩ | ⟨-, -, e⟩ := take_cases u a <;> rw [e]
  · by_cases same : a.condition = d
    · rw [← same, h]; rfl
    · simp [same]
  · exact flag_setFlag u a.condition d
  · obtain ⟨-, -, -, -, -, flags, -⟩ := alarmLost_frame { (u.setFlag a.condition) with summary := true }.countAlarmDropped
    have own : ({ (u.setFlag a.condition) with summary := true }.countAlarmDropped).flag d =
        (u.flag d || decide (a.condition = d)) := flag_setFlag u a.condition d
    rw [flags, own]
    simp [hd]
  · exact flag_setFlag u a.condition d

theorem takes_flag (l : List AlarmFrame) (u : ConditionUnit) {d : Condition} (hd : d ≠ .linkError) :
    (l.foldl ConditionUnit.take u).flag d = true ↔ u.flag d = true ∨ d ∈ l.map AlarmFrame.condition := by
  induction l generalizing u with
  | nil => simp
  | cons a l ih =>
    rw [List.foldl_cons, ih, take_flag u a hd]
    simp only [Bool.or_eq_true, decide_eq_true_eq, List.map_cons, List.mem_cons, or_assoc, eq_comm (a := d)]

/-- A flag other than LINK_ERROR stands after a step exactly when it stood or its condition was raised. -/
theorem settle_flag_iff (s : State) {d : Condition} (hd : d ≠ .linkError) :
    (settle s).conditions.flag d = true ↔
      s.conditions.flag d = true ∨ d ∈ s.conditions.raised.map Raising.condition := by
  obtain ⟨l, pick, hp, e⟩ := settle_takes s
  have seen : (l.map (fun r => r.seen (pick r.condition) s)).map AlarmFrame.condition = l.map Raising.condition := by
    rw [List.map_map]
    exact List.map_congr_left fun r _ => seen_condition _ s r
  rw [e, takes_flag _ _ hd, seen, (hp.map Raising.condition).mem_iff]
  rfl

/-! ### The gap -/

theorem gapOf_isSome (e r : Nat) : (gapOf (some e) r).isSome = decide (e ≠ r) := by
  by_cases h : e = r <;> simp [gapOf, h]

/-- The gap between an expectation and a sequence, running round at 256 (R3). -/
theorem gapOf_of_ne {e r : Nat} (h : e ≠ r) : gapOf (some e) r = some (((r : Int) - e) % 256).toNat := by
  have around : (r + 256 - e % 256) % 256 = (((r : Int) - e) % 256).toNat := by omega
  simp [gapOf, h, around]

/-! ### The consumers, one of them singled out -/

/-- What every other consumer keeps holds around one consumer's part. -/
theorem takeSample_split {R : State → State → Prop} (f : SampleFrame) (s : State) (c : Consumer)
    (refl : ∀ s, R s s) (trans : ∀ {a b c}, R a b → R b c → R a c)
    (h : ∀ d ≠ c, ∀ u, R u (d.takes (sampleOf f s) u)) :
    ∃ u, R (beforeConsumers f s) u ∧ R (c.takes (sampleOf f s) u) (takeSample f s) := by
  obtain ⟨p, q, order, before, after⟩ := consumerOrder_split (Config.consumerOrder s.choices) c
  refine ⟨p.foldl (Consumer.takes (sampleOf f s)) (beforeConsumers f s), ?_, ?_⟩
  · exact foldl_takes_rel _ p _ refl trans fun d hd => h d fun e => before (e ▸ hd)
  · rw [takeSample_eq, order, List.foldl_append, List.foldl_cons]
    exact foldl_takes_rel _ q _ refl trans fun d hd => h d fun e => after (e ▸ hd)

/-- Where two states have the same last position. -/
def SameLastPosition (s t : State) : Prop := t.frame.lastPosition = s.frame.lastPosition

theorem takeSample_lastPosition (f : SampleFrame) (s : State) :
    (takeSample f s).frame.lastPosition = some f.position := by
  obtain ⟨u, -, after⟩ := takeSample_split (R := SameLastPosition) f s .frameController (fun _ => rfl)
    (fun h k => Eq.trans k h) fun d hd u => d.takes_lastPosition _ u hd
  have own : (Consumer.frameController.takes (sampleOf f s) u).frame.lastPosition = some f.position :=
    frameTakes_lastPosition _ _
  exact Eq.trans after own

/-- Where only the consumer of the stream has not taken the sample. -/
def StreamWaits (s t : State) : Prop := Untouched s t ∧ StreamKept s t

theorem takeSample_aroundStream (f : SampleFrame) (s : State) : ∃ u, StreamWaits (conditionerTakes f (delivered s)) u ∧
    StreamKept (streamTakes (sampleOf f s) u) (takeSample f s) := by
  obtain ⟨u, ⟨untouched, kept⟩, -, after⟩ := takeSample_split (R := StreamWaits) f s .stream
    (fun s => ⟨.refl s, .refl s⟩) (fun h k => ⟨h.1.trans k.1, h.2.trans k.2⟩)
    fun d hd u => ⟨d.takes_untouched _ u, d.takes_stream _ u hd⟩
  have binned := binningTakes_steady (sampleOf f s) (conditionerTakes f (delivered s))
  exact ⟨u, ⟨binned.untouched.trans untouched, binned.stream.trans kept⟩,
    (Consumer.stream.takes_steady (sampleOf f s) u).stream.trans after⟩

theorem takeSample_conditioner (f : SampleFrame) (s : State) :
    (takeSample f s).conditioner = ⟨some ((f.sequence + 1) % 256), s.conditioner.fitted⟩ := by
  have kept : (takeSample f s).conditioner = (beforeConsumers f s).conditioner :=
    foldl_takes_rel (R := fun a b => b.conditioner = a.conditioner) _ _ _ (fun _ => rfl) (fun h k => Eq.trans k h)
      fun c _ u => c.takes_conditioner _ u
  rw [kept, beforeConsumers, binningTakes_conditioner, conditionerTakes_eq]
  rfl

/-- Which flags of the conditioner stand after a sample. -/
theorem settle_takeSample_flag (f : SampleFrame) (s : State) {d : Condition} (hd : d.ofConditioner = true) :
    (settle (takeSample f s)).conditions.flag d = true ↔ s.conditions.flag d = true ∨
      d ∈ s.conditions.raised.map Raising.condition ∨ d ∈ conditionerRaises f s := by
  have h := takeSample_untouched f s
  have notLink : d ≠ .linkError := by rintro rfl; exact Bool.noConfusion hd
  have flags : (takeSample f s).conditions.flags = s.conditions.flags := by rw [h.conditions, conditionerTakes_eq]; rfl
  have raised : d ∈ (takeSample f s).conditions.raised.map Raising.condition ↔
      d ∈ s.conditions.raised.map Raising.condition ∨ d ∈ conditionerRaises f s := by
    rw [h.raised d hd, conditionerTakes_raised, List.mem_append]
    rfl
  rw [settle_flag_iff _ notLink, raised, ConditionUnit.flag, flags]
  rfl

theorem isFaulted_iff (x : Conditioned) : x.isFaulted = true ↔ x = .faulted := by cases x <;> simp [Conditioned.isFaulted]

theorem isClamped_iff (x : Conditioned) : x.isClamped = true ↔ ∃ v, x = .clamped v := by
  cases x <;> simp [Conditioned.isClamped]

theorem mem_ite_singleton (b : Bool) (c d : Condition) : d ∈ (if b then [c] else []) ↔ b = true ∧ d = c := by
  cases b <;> simp

theorem mem_conditionerRaises (f : SampleFrame) (s : State) (d : Condition) : d ∈ conditionerRaises f s ↔
    ((gapOf s.conditioner.expected f.sequence).isSome = true ∧ d = .sampleGap ∨
      (sampleOf f s).anyFaulted = true ∧ d = .headFault) ∨ (sampleOf f s).anyClamped = true ∧ d = .range := by
  simp only [conditionerRaises, List.mem_append, mem_ite_singleton]

theorem headFault_mem_conditionerRaises (f : SampleFrame) (s : State) :
    .headFault ∈ conditionerRaises f s ↔ (sampleOf f s).anyFaulted = true := by simp [mem_conditionerRaises]

theorem range_mem_conditionerRaises (f : SampleFrame) (s : State) :
    .range ∈ conditionerRaises f s ↔ (sampleOf f s).anyClamped = true := by simp [mem_conditionerRaises]

theorem sampleGap_mem_conditionerRaises (f : SampleFrame) (s : State) :
    .sampleGap ∈ conditionerRaises f s ↔ (gapOf s.conditioner.expected f.sequence).isSome = true := by
  simp [mem_conditionerRaises]

theorem anyFaulted_iff (x : Sample) : x.anyFaulted = true ↔
    x.bw = .faulted ∨ x.mo = .faulted ∨ x.ca = .faulted ∨ x.tr = .faulted := by
  simp only [Sample.anyFaulted, Bool.or_eq_true, isFaulted_iff, or_assoc]

theorem anyClamped_iff (x : Sample) : x.anyClamped = true ↔
    ∃ v, x.bw = .clamped v ∨ x.mo = .clamped v ∨ x.ca = .clamped v ∨ x.tr = .clamped v ∨ x.dw = .clamped v := by
  simp only [Sample.anyClamped, Bool.or_eq_true, isClamped_iff, exists_or, or_assoc]

end Sys2Proof.Machine

/-! ## A SAMPLE in every state: gap, stream, and the whole statement (O22) -/

namespace Sys2Proof.Machine

variable {s t u : State}

theorem settle_gapTotal (s : State) : (settle s).conditions.counters.gapTotal = s.conditions.counters.gapTotal := by
  obtain ⟨-, -, counters, -⟩ := settle_frame s
  rw [counters]

theorem settle_streamDropped (s : State) :
    (settle s).conditions.counters.streamDropped = s.conditions.counters.streamDropped := by
  obtain ⟨-, -, counters, -⟩ := settle_frame s
  rw [counters]

/-- The gap total after a sample, and SAMPLE_GAP for a gap (R3). -/
theorem takeSample_gap (f : SampleFrame) (s : State) :
    match s.conditioner.expected with
    | none => (settle (takeSample f s)).conditions.counters.gapTotal = s.conditions.counters.gapTotal
    | some e =>
      if e = f.sequence then (settle (takeSample f s)).conditions.counters.gapTotal = s.conditions.counters.gapTotal
      else
        (settle (takeSample f s)).conditions.counters.gapTotal =
          min 65535 (s.conditions.counters.gapTotal + (((f.sequence : Int) - e) % 256).toNat) ∧
        (settle (takeSample f s)).conditions.flag .sampleGap = true := by
  have total : (settle (takeSample f s)).conditions.counters.gapTotal = gapTotalAfter f s := by
    rw [settle_gapTotal, (takeSample_untouched f s).conditions, conditionerTakes_eq]
    rfl
  rw [total, gapTotalAfter]
  cases he : s.conditioner.expected with
  | none => rfl
  | some e =>
    dsimp only
    split
    · rename_i same
      simp [gapOf, same]
    · rename_i differ
      refine ⟨by rw [gapOf_of_ne differ], (settle_takeSample_flag f s rfl).mpr (.inr (.inr ?_))⟩
      rw [sampleGap_mem_conditionerRaises, he, gapOf_isSome]
      simpa using differ

/-- The stream after a sample, by its decimation (R189, R194). -/
theorem takeSample_stream (f : SampleFrame) (s : State) :
    let t := settle (takeSample f s)
    (s.mill.decimation = 0 → t.mill.stream = s.mill.stream ∧ t.mill.decimationCount = s.mill.decimationCount ∧
      t.conditions.counters.streamDropped = s.conditions.counters.streamDropped) ∧
    (s.mill.decimationCount + 1 < s.mill.decimation → t.mill.stream = s.mill.stream ∧
      t.mill.decimationCount = s.mill.decimationCount + 1 ∧
      t.conditions.counters.streamDropped = s.conditions.counters.streamDropped) ∧
    (s.mill.decimation ≠ 0 → s.mill.decimation ≤ s.mill.decimationCount + 1 →
      (∃ direction, t.mill.stream = some ⟨sampleOf f s, direction, s.clock⟩) ∧ t.mill.decimationCount = 0 ∧
      t.conditions.counters.streamDropped = if s.mill.stream = none then s.conditions.counters.streamDropped
        else min 65535 (s.conditions.counters.streamDropped + 1)) := by
  obtain ⟨u, ⟨untouched, kept⟩, after⟩ := takeSample_aroundStream f s
  rw [conditionerTakes_eq] at untouched kept
  have decimation : u.mill.decimation = s.mill.decimation := by rw [untouched.mill]; rfl
  have clock : u.clock = s.clock := untouched.clock
  have count : u.mill.decimationCount = s.mill.decimationCount := kept.decimationCount
  have stream : u.mill.stream = s.mill.stream := kept.stream
  have dropped : u.conditions.counters.streamDropped = s.conditions.counters.streamDropped := kept.streamDropped
  dsimp only
  rw [settle_mill, settle_streamDropped, after.stream, after.decimationCount, after.streamDropped]
  refine ⟨fun off => ?_, fun early => ?_, fun on nth => ?_⟩
  · rw [streamTakes_off _ u (decimation.trans off)]
    exact ⟨stream, count, dropped⟩
  · rw [streamTakes_counts _ u (by omega)]
    exact ⟨stream, congrArg (· + 1) count, dropped⟩
  · rw [streamTakes_offers _ u (by omega) (by omega), stream, dropped, clock]
    exact ⟨⟨_, rfl⟩, rfl, rfl⟩

/-- Settles O22: each clause from what conditioner, consumers and condition unit do with the sample. -/
theorem sampleIsTrackedInEveryState : Obligations.SampleIsTrackedInEveryState := by
  unfold Obligations.SampleIsTrackedInEveryState
  refine ⟨fun f s => ?_, fun x s on nth => by rw [streamTakes_offers x s on nth]⟩
  intro gap x start
  have revealed : gap = (gapOf s.conditioner.expected f.sequence).isSome := by
    unfold gap
    cases s.conditioner.expected with
    | none => rfl
    | some e => rw [gapOf_isSome]
  have conditioned : x = sampleOf f s := congrArg (conditionFrame s.tables s.conditioner.fitted f) revealed
  clear_value x
  subst conditioned
  refine ⟨⟨consumerOrder (Config.consumerOrder s.choices), consumerOrder_perm _, rfl⟩, settle (takeSample f s), rfl, ?_⟩
  have h := takeSample_untouched f s
  obtain ⟨raised, k⟩ : ∃ raised, conditionerTakes f (delivered s) = { delivered s with
      conditioner := ⟨some ((f.sequence + 1) % 256), s.conditioner.fitted⟩
      conditions := { s.conditions with
        counters := { s.conditions.counters with gapTotal := gapTotalAfter f s }, raised := raised } } :=
    ⟨_, conditionerTakes_eq f _⟩
  rw [k] at h
  refine ⟨?_, ?_, ?_, ?_, takeSample_gap f s, fun quiet => ⟨?_, ?_⟩, takeSample_stream f s, ?_⟩
  · rw [settle_conditioner, takeSample_conditioner]
  · rw [settle_frame', takeSample_lastPosition]
  · rw [settle_frame', h.lastDrive]; rfl
  · rw [settle_port, h.receiver]; rfl
  · rw [settle_takeSample_flag f s rfl, headFault_mem_conditionerRaises, anyFaulted_iff, quiet]
    simp
  · rw [settle_takeSample_flag f s rfl, range_mem_conditionerRaises, anyClamped_iff, quiet]
    simp
  · obtain ⟨-, unmasked, -⟩ := settle_frame (takeSample f s)
    rw [unmasked, settle_tables, settle_handler, settle_monitors, settle_clock, settle_pending, settle_mill, settle_port,
      settle_profile, settle_closeOut, settle_binning, h.tables, h.handler, h.monitors, h.clock, h.pending, h.conditions,
      h.mill, h.passDown, h.slots, h.trend, h.scanNumber, h.lastGood]
    exact ⟨rfl, rfl, rfl, rfl, rfl, rfl, rfl, rfl, rfl, rfl, rfl, rfl, rfl, rfl, rfl, rfl, rfl, h.transmitter, rfl, rfl,
      rfl, rfl⟩

end Sys2Proof.Machine

/-! ## Writes of the settings (O55) -/

namespace Sys2Proof.Machine

variable {s t u : State} {f : CommandFrame} {rest : List CommandFrame}

/-! ### Rows and codes -/

/-- The row of a WRITE_TABLE to a region. -/
theorem rowOf_write (h : f.code = 0x03#8) : rowOf f = writeRow f.args := by simp [rowOf, h]

theorem breakModeOf_code (m : BreakMode) : breakModeOf (byte m.code).toNat = some m := by cases m <;> rfl

theorem boolOf_bitByte (b : Bool) : boolOf (bitByte b).toNat = some b := by cases b <;> rfl

theorem boolOf_of_lt {n : Nat} (h : 1 < n) : boolOf n = none := by
  match n with
  | n + 2 => rfl

theorem boolOf_le {n : Nat} {b : Bool} (h : boolOf n = some b) : n ≤ 1 := by
  by_contra out
  rw [boolOf_of_lt (by omega)] at h
  exact nomatch h

theorem breakModeOf_le {n : Nat} {m : BreakMode} (h : breakModeOf n = some m) : n ≤ 2 := by
  match n with
  | 0 | 1 | 2 => omega
  | n + 3 => exact nomatch (show none = some m from h)

/-- A byte field's number comes back from its byte. -/
theorem toNat_byte_of_le {n : Nat} (h : n ≤ 255) : (byte n).toNat = n := by
  rw [byte_toNat]
  omega

/-! ### SHEET -/

/-- The ranges of the SHEET settings (R132). -/
theorem sheetValid_iff (t : SheetSettings) : t.valid = true ↔
    t.trBreak ≤ 1000 ∧ (1 ≤ t.nBreak ∧ t.nBreak ≤ 255) ∧ (5 ≤ t.probeInterval ∧ t.probeInterval ≤ 600) ∧
    (1 ≤ t.probeDwell ∧ t.probeDwell ≤ 30) ∧ (1 ≤ t.holdOff ∧ t.holdOff ≤ 120) ∧ t.trPresent ≤ 1000 ∧
    (1 ≤ t.m ∧ t.m ≤ 15) := by
  simp only [SheetSettings.valid, Bool.and_eq_true, decide_eq_true_eq, between_iff, and_assoc]

/-- What a SHEET write carries for settings in their ranges. -/
theorem validSheet_sheetBytes {t : SheetSettings} (h : t.valid = true) :
    ∃ a, sheetArgs (sheetBytes t) = some a ∧ validSheet a = some t := by
  have ranges := (sheetValid_iff t).mp h
  refine ⟨⟨(byte t.mode.code).toNat, t.trBreak, t.nBreak, t.probeInterval, t.probeDwell, t.holdOff,
    (bitByte t.standardizeAfter).toNat, (bitByte t.autoResume).toNat, t.trPresent, t.m⟩, ?_, ?_⟩
  · show some (SheetArgs.mk _ _ _ _ _ _ _ _ _ _) = _
    rw [u16_be16 _ (by omega), u16_be16 _ (by omega), u16_be16 _ (by omega), toNat_byte_of_le (n := t.nBreak) (by omega),
      toNat_byte_of_le (n := t.probeDwell) (by omega), toNat_byte_of_le (n := t.holdOff) (by omega),
      toNat_byte_of_le (n := t.m) (by omega)]
  · unfold validSheet
    rw [breakModeOf_code, boolOf_bitByte, boolOf_bitByte]
    exact if_pos h

/-- What a SHEET write that is taken carries. -/
theorem validSheet_ranges {a : SheetArgs} {t : SheetSettings} (h : validSheet a = some t) :
    a.mode ≤ 2 ∧ a.standardizeAfter ≤ 1 ∧ a.autoResume ≤ 1 ∧ a.trBreak ≤ 1000 ∧ 1 ≤ a.nBreak ∧
    (5 ≤ a.probeInterval ∧ a.probeInterval ≤ 600) ∧ (1 ≤ a.probeDwell ∧ a.probeDwell ≤ 30) ∧
    (1 ≤ a.holdOff ∧ a.holdOff ≤ 120) ∧ a.trPresent ≤ 1000 ∧ (1 ≤ a.m ∧ a.m ≤ 15) := by
  unfold validSheet at h
  split at h
  · rename_i mode std auto
    split at h
    · rename_i ranges
      simp only [Bool.and_eq_true, decide_eq_true_eq, between_iff] at ranges
      exact ⟨breakModeOf_le mode, boolOf_le std, boolOf_le auto, by omega, by omega, by omega, by omega, by omega,
        by omega, by omega⟩
    · exact nomatch h
  · exact nomatch h

/-! ### FRAME -/

theorem validFrame_iff (t : FrameSettings) : validFrame t = true ↔
    t.park ≤ 32767 ∧ t.probe ≤ 32767 ∧ (1 ≤ t.minimumWidth ∧ t.minimumWidth ≤ 32767) ∧
    (10 ≤ t.silencePeriod ∧ t.silencePeriod ≤ 1000) ∧ (200 ≤ t.stallPeriod ∧ t.stallPeriod ≤ 10000) ∧
    (16 ≤ t.s ∧ t.s ≤ 1024) ∧ (1000 ≤ t.stdTimeout ∧ t.stdTimeout ≤ 30000) := by
  simp only [validFrame, Bool.and_eq_true, decide_eq_true_eq, between_iff, and_assoc]
  rfl

theorem frameArgs_frameBytes {t : FrameSettings} (h : validFrame t = true) : frameArgs (frameBytes t) = some t := by
  have ranges := (validFrame_iff t).mp h
  show some (FrameSettings.mk _ _ _ _ _ _ _) = _
  rw [u16_be16 _ (by omega), u16_be16 _ (by omega), u16_be16 _ (by omega), u16_be16 _ (by omega), u16_be16 _ (by omega),
    u16_be16 _ (by omega), u16_be16 _ (by omega)]

/-! ### Answers of the three settings regions -/

section
variable (hand : AtHand f rest s) (quiet : s.conditions.summary = false)
include hand quiet

/-- A SHEET write past form and gate. -/
theorem writeSheet_served {a : SheetArgs} (hrow : rowOf f = .writeSheet) (ha : sheetArgs f.args.tail = some a) :
    exec .writeTableSheet s = .next (respond f (writeSheet a (s.taken f rest))) :=
  congrArg Host.Outcome.next (serve_owner (parse := afterRegion sheetArgs) hand hrow ha (.inr quiet))

/-- A FRAME write past form and gate. -/
theorem writeFrame_served {a : FrameSettings} (hrow : rowOf f = .writeFrame) (ha : frameArgs f.args.tail = some a) :
    exec .writeTableFrame s = .next (respond f (writeFrame a (s.taken f rest))) :=
  congrArg Host.Outcome.next (serve_owner (parse := afterRegion frameArgs) hand hrow ha (.inr quiet))

/-- A CHANNEL write past form and gate. -/
theorem writeChannel_served {a : Nat × Nat × Nat} (hrow : rowOf f = .writeChannel)
    (ha : channelArgs f.args.tail = some a) :
    exec .writeTableChannel s = .next (respond f (writeChannel a (s.taken f rest))) :=
  congrArg Host.Outcome.next (serve_owner (parse := afterRegion channelArgs) hand hrow ha (.inr quiet))

end

section
variable {a : SheetArgs} {x : SheetSettings}

theorem writeSheet_latched (h : s.tables.sheet.mode = .latched) : writeSheet a s = refuse .locked s := if_pos h

theorem writeSheet_bad (h : s.tables.sheet.mode ≠ .latched) (ha : validSheet a = none) :
    writeSheet a s = refuse .badArgument s := by
  rw [writeSheet, if_neg h, ha]

theorem writeSheet_inBreak (h : s.tables.sheet.mode ≠ .latched) (ha : validSheet a = some x)
    (hm : x.mode ≠ s.tables.sheet.mode) (hw : s.watch.state ≠ .sheetOn) :
    writeSheet a s = refuse .refusedState s := by
  rw [writeSheet, if_neg h, ha]
  exact if_pos ⟨hm, hw⟩

theorem writeSheet_taken (h : s.tables.sheet.mode ≠ .latched) (ha : validSheet a = some x)
    (hm : x.mode = s.tables.sheet.mode ∨ s.watch.state = .sheetOn) :
    writeSheet a s = accept { s with tables := { s.tables with sheet := x } } := by
  rw [writeSheet, if_neg h, ha]
  exact if_neg fun ⟨mode, state⟩ => hm.elim mode state

end

/-- Settles O55: region by region, each write first as it is taken, then out of its ranges. -/
theorem settingsWritesTakeTheWholeRecord : Obligations.SettingsWritesTakeTheWholeRecord := by
  unfold Obligations.SettingsWritesTakeTheWholeRecord
  intro f rest s hand quiet hcode
  have row := rowOf_write hcode
  refine ⟨fun x hargs valid => ?_, fun x hargs valid => ?_, fun a b c hargs => ?_, fun hlen h0 unlatched => ?_,
    fun hlen h0 => ?_, fun a b c hargs bad => ?_, fun region more out hargs => ?_⟩
  · obtain ⟨a, parsed, taken⟩ := validSheet_sheetBytes valid
    rw [writeSheet_served hand quiet (a := a) (by rw [row, hargs]; rfl) (by rw [hargs]; exact parsed)]
    refine ⟨fun latched => ?_, fun unlatched mode state => ?_, fun unlatched may => ?_⟩
    · rw [writeSheet_latched (s := s.taken f rest) latched, respond_refuse]
    · rw [writeSheet_inBreak (s := s.taken f rest) unlatched taken mode state, respond_refuse]
    · rw [writeSheet_taken (s := s.taken f rest) unlatched taken may]
      rfl
  · rw [writeFrame_served hand quiet (by rw [row, hargs]; rfl) (by rw [hargs]; exact frameArgs_frameBytes valid),
      writeFrame, if_pos valid]
    rfl
  · rw [writeChannel_served hand quiet (by rw [row, hargs]; rfl) (by rw [hargs]; rfl), writeChannel, boolOf_bitByte,
      boolOf_bitByte, boolOf_bitByte]
    rfl
  · obtain ⟨sequence, code, args⟩ := f
    match args, hlen with
    | [region, a1, a2, a3, a4, a5, a6, a7, a8, a9, a10, a11, a12, a13], _ =>
      intro arg word bad
      have h0' : region.toNat = 5 := h0
      rw [writeSheet_served hand quiet (by simp [row, writeRow, h0']) rfl, writeSheet_bad (s := s.taken _ rest) unlatched, respond_refuse]
      cases ha : validSheet _ with
      | none => rfl
      | some x =>
        have ranges := validSheet_ranges ha
        simp only [u16] at ranges
        simp only [arg, word, argWord, argByte, List.getD_cons_succ, List.getD_cons_zero] at bad
        omega
  · obtain ⟨sequence, code, args⟩ := f
    match args, hlen with
    | [region, a1, a2, a3, a4, a5, a6, a7, a8, a9, a10, a11, a12, a13, a14], _ =>
      intro word bad
      have h0' : region.toNat = 6 := h0
      rw [writeFrame_served hand quiet (by simp [row, writeRow, h0']) rfl, writeFrame, if_neg, respond_refuse]
      rw [validFrame_iff]
      simp only [u16]
      simp only [word, argWord, argByte, List.getD_cons_succ, List.getD_cons_zero] at bad
      omega
  · rw [writeChannel_served hand quiet (by rw [row, hargs]; rfl) (by rw [hargs]; rfl)]
    have refused : writeChannel (a.toNat, b.toNat, c.toNat) (s.taken f rest) = refuse .badArgument (s.taken f rest) := by
      unfold writeChannel
      split
      · rename_i ha hb hc
        have := boolOf_le ha
        have := boolOf_le hb
        have := boolOf_le hc
        dsimp only at *
        omega
      · rfl
    rw [refused, respond_refuse]
  · have unknown : writeRow (region :: more) = .writeUnknownRegion := by
      obtain ⟨n, hn⟩ : ∃ n, region.toNat = n + 9 := ⟨region.toNat - 9, by omega⟩
      simp [writeRow, hn]
    exact congrArg Host.Outcome.next
      (serve_refused (a := ()) hand (by rw [row, hargs, unknown]) (by rw [hargs]; rfl) (.inr quiet) rfl)

end Sys2Proof.Machine

/-! ## Writes of the calibration: fields and ranges (O53) -/

namespace Sys2Proof.Machine

variable {s t u : State} {f : CommandFrame} {rest : List CommandFrame}

/-! ### Fields by their place in the bytes -/

/-- The number in the byte at a place; 0 beyond the last. -/
def byteAt (l : List Byte) (k : Nat) : Nat := (l.getD k 0#8).toNat

/-- The number in the two bytes from a place on. -/
def wordAt (l : List Byte) (k : Nat) : Nat := 256 * byteAt l k + byteAt l (k + 1)

theorem byteAt_tail (l : List Byte) (k : Nat) : byteAt l.tail k = byteAt l (k + 1) := by cases l <;> rfl

theorem argByte_succ (f : CommandFrame) (k : Nat) : argByte f (k + 1) = byteAt f.args.tail k :=
  (byteAt_tail f.args k).symm

theorem argWord_succ (f : CommandFrame) (k : Nat) : argWord f (k + 1) = wordAt f.args.tail k := by
  rw [argWord, argByte_succ, argByte_succ, wordAt]

theorem u16_eq_wordAt (l : List Byte) (k : Nat) : u16 (l.getD k 0#8) (l.getD (k + 1) 0#8) = wordAt l k := by
  rw [u16, wordAt, byteAt, byteAt, Nat.mul_comm]

theorem foursOf_getElem {α : Type} {g : Byte → Byte → Byte → Byte → α} :
    ∀ {bytes : List Byte} {l : List α}, foursOf g bytes = some l → ∀ (i : Nat) (h : i < l.length),
      l[i] = g (bytes.getD (4 * i) 0#8) (bytes.getD (4 * i + 1) 0#8) (bytes.getD (4 * i + 2) 0#8)
        (bytes.getD (4 * i + 3) 0#8)
  | [], _, e, i, h => by
    obtain rfl := Option.some.inj e
    exact absurd h (by simp)
  | a :: b :: c :: d :: more, _, e, i, h => by
    simp only [foursOf, Option.map_eq_some_iff] at e
    obtain ⟨l, e, rfl⟩ := e
    cases i with
    | zero => rfl
    | succ i => exact foursOf_getElem e i (by simpa using h)

theorem pairsOf_getElem : ∀ {bytes : List Byte} {l : List Nat}, pairsOf bytes = some l →
    ∀ (i : Nat) (h : i < l.length), l[i] = wordAt bytes (2 * i)
  | [], _, e, i, h => by
    obtain rfl := Option.some.inj e
    exact absurd h (by simp)
  | a :: b :: more, _, e, i, h => by
    simp only [pairsOf, Option.map_eq_some_iff] at e
    obtain ⟨l, e, rfl⟩ := e
    cases i with
    | zero => exact u16_eq_wordAt (a :: b :: more) 0
    | succ i => exact pairsOf_getElem e i (by simpa using h)

/-- A CURVE write by the places of its fields. -/
theorem curveArgs_fields {bytes : List Byte} {a : CurveArgs} (h : curveArgs bytes = some a) :
    a.index = byteAt bytes 0 ∧ a.points.length = byteAt bytes 1 ∧ a.rRef = wordAt bytes 2 ∧
    a.driftLimit = wordAt bytes 4 ∧
    ∀ (i : Nat) (hi : i < a.points.length),
      a.points[i].r = wordAt bytes (4 * i + 6) ∧ a.points[i].e = wordAt bytes (4 * i + 8) := by
  unfold curveArgs at h
  split at h
  · rename_i i c r1 r0 d1 d0 more
    simp only [Option.map_eq_some_iff, counted_eq_some] at h
    obtain ⟨ps, ⟨points, count⟩, rfl⟩ := h
    refine ⟨rfl, count, u16_eq_wordAt (i :: c :: r1 :: r0 :: d1 :: d0 :: more) 2,
      u16_eq_wordAt (i :: c :: r1 :: r0 :: d1 :: d0 :: more) 4, fun k hk => ?_⟩
    dsimp only at hk ⊢
    rw [foursOf_getElem points k hk]
    exact ⟨u16_eq_wordAt more (4 * k), u16_eq_wordAt more (4 * k + 2)⟩
  · exact nomatch h

/-- A BIAS write by the places of its fields. -/
theorem biasArgs_fields {bytes : List Byte} {a : Nat × List BiasArgs} (h : biasArgs bytes = some a) :
    a.1 = byteAt bytes 0 ∧ a.2.length = byteAt bytes 1 ∧
    ∀ (i : Nat) (hi : i < a.2.length), a.2[i] =
      ⟨byteAt bytes (4 * i + 2), byteAt bytes (4 * i + 3), signed 16 (wordAt bytes (4 * i + 4))⟩ := by
  unfold biasArgs at h
  split at h
  · rename_i i c more
    split at h
    · exact nomatch h
    · simp only [Option.map_eq_some_iff, counted_eq_some] at h
      obtain ⟨es, ⟨entries, count⟩, rfl⟩ := h
      refine ⟨rfl, count, fun k hk => ?_⟩
      dsimp only at hk ⊢
      rw [foursOf_getElem entries k hk, u16_eq_wordAt more (4 * k + 2)]
      rfl
  · exact nomatch h

/-- An STDF write by the places of its fields. -/
theorem stdfArgs_fields {bytes : List Byte} {a : Nat × List Nat} (h : stdfArgs bytes = some a) :
    a.1 = byteAt bytes 0 ∧ a.2.length = byteAt bytes 1 ∧
    ∀ (i : Nat) (hi : i < a.2.length), a.2[i] = wordAt bytes (2 * i + 2) := by
  unfold stdfArgs at h
  split at h
  · rename_i i c more
    split at h
    · exact nomatch h
    · simp only [Option.map_eq_some_iff, counted_eq_some] at h
      obtain ⟨qs, ⟨factors, count⟩, rfl⟩ := h
      exact ⟨rfl, count, fun k hk => pairsOf_getElem factors k hk⟩
  · exact nomatch h

/-! ### What a calibration write must carry to be taken (R10, R12, R18) -/

theorem at?_measuredMax {k top : Nat} (h : PerMeasured.at? measuredMax k = some top) :
    k < 4 ∧ top = [65535, 10000, 65535, 1000].getD k 0 ∧ top ≤ 65535 := by
  match k with
  | 0 | 1 | 2 | 3 => obtain rfl := Option.some.inj h; exact ⟨by omega, rfl, by decide⟩
  | k + 4 => exact nomatch (show none = some top from h)

theorem validCurve_ranges {a : CurveArgs} {c : Curve} (h : validCurve a = some c) :
    a.index < 4 ∧ (2 ≤ a.points.length ∧ a.points.length ≤ 12) ∧ a.rRef ≠ 0 ∧ a.driftLimit ≤ 5000 ∧
    (∀ (i : Nat) (hi : i + 1 < a.points.length), a.points[i].r < a.points[i + 1].r) ∧
    (∀ (i : Nat) (hi : i < a.points.length), a.points[i].e ≤ [65535, 10000, 65535, 1000].getD a.index 0) := by
  unfold validCurve at h
  split at h
  · rename_i p more top hp htop
    split at h
    · rename_i ranges
      obtain ⟨index, rfl, -⟩ := at?_measuredMax htop
      simp only [Bool.and_eq_true, bne_iff_ne, decide_eq_true_eq, List.all_eq_true, between_iff,
        strictlyRising_iff, List.pairwise_map] at ranges
      obtain ⟨⟨⟨⟨count, rising⟩, values⟩, reference⟩, limit⟩ := ranges
      refine ⟨index, count, reference, limit, fun i hi => ?_, fun i hi => values _ (List.getElem_mem hi)⟩
      exact List.pairwise_iff_getElem.mp rising i (i + 1) (by omega) hi (by omega)
    · exact nomatch h
  · exact nomatch h

theorem profileChannelOf_mem {n : Nat} {c : ProfileChannel} (h : profileChannelOf n = some c) : n ∈ [0, 1, 2, 4] := by
  match n with
  | 0 | 1 | 2 | 4 => decide
  | 3 => exact nomatch h
  | n + 5 => exact nomatch (show none = some c from h)

theorem validBias_ranges {a : BiasArgs} {b : BiasEntry} (h : validBias a = some b) :
    a.enabled ≤ 1 ∧ a.channel ∈ [0, 1, 2, 4] ∧ -2000 ≤ a.bias ∧ a.bias ≤ 2000 := by
  unfold validBias at h
  split at h
  · rename_i enabled channel
    split at h
    · rename_i range
      exact ⟨boolOf_le enabled, profileChannelOf_mem channel, range⟩
    · exact nomatch h
  · exact nomatch h

/-- A list that a check maps whole has only members that pass. -/
theorem mapM_some_passes {α β : Type} {g : α → Option β} :
    ∀ {l : List α} {r : List β}, l.mapM g = some r → ∀ a ∈ l, ∃ b, g a = some b
  | [], _, _, a, ha => absurd ha (by simp)
  | x :: l, _, h, a, ha => by
    rw [List.mapM_cons] at h
    simp only [Option.bind_eq_bind, Option.bind_eq_some_iff, Option.pure_def, Option.some.injEq] at h
    obtain ⟨b, hb, r, hr, -⟩ := h
    obtain rfl | ha := List.mem_cons.mp ha
    · exact ⟨b, hb⟩
    · exact mapM_some_passes hr a ha

/-- A 2-byte field within a bias's range (R12). -/
theorem signed16_range {n : Nat} (hn : n < 65536) (low : -2000 ≤ signed 16 n) (high : signed 16 n ≤ 2000) :
    n ≤ 2000 ∨ 65536 - 2000 ≤ n := by
  unfold signed at low high
  norm_num at low high
  split at low <;> omega

theorem wordAt_lt (l : List Byte) (k : Nat) : wordAt l k < 65536 := by
  have := toNat_byte_le (l.getD k 0#8)
  have := toNat_byte_le (l.getD (k + 1) 0#8)
  unfold wordAt byteAt
  omega

end Sys2Proof.Machine

/-! ## Writes of the calibration: taken, out of range, locked (O53) -/

namespace Sys2Proof.Machine

variable {s t u : State} {f : CommandFrame} {rest : List CommandFrame}

/-! ### What a calibration write carries -/

theorem at?_measuredMax_of_lt {k : Nat} (h : k < 4) :
    PerMeasured.at? measuredMax k = some ((PerMeasured.at? measuredMax k).getD 0) := by
  match k with
  | 0 | 1 | 2 | 3 => rfl

theorem curveValid_iff (top : Nat) (c : Curve) : c.valid top = true ↔
    (2 ≤ c.rest.length + 1 ∧ c.rest.length + 1 ≤ 12) ∧
    strictlyRising ((c.first :: c.rest).map CurvePoint.r) = true ∧
    (∀ p ∈ c.first :: c.rest, p.r ≤ 65535 ∧ p.e ≤ top) ∧ (1 ≤ c.rRef ∧ c.rRef ≤ 65535) ∧ c.driftLimit ≤ 5000 := by
  simp only [Curve.valid, Bool.and_eq_true, decide_eq_true_eq, List.all_eq_true, between_iff, and_assoc]

/-- A CURVE write as its bytes carry it. -/
theorem curveArgs_curveBytes {k : Nat} {c : Curve} (hk : k < 4)
    (hc : c.valid ((PerMeasured.at? measuredMax k).getD 0) = true) :
    curveArgs (byte k :: curveBytes c) = some ⟨k, c.first :: c.rest, c.rRef, c.driftLimit⟩ := by
  obtain ⟨count, -, values, reference, limit⟩ := (curveValid_iff _ c).mp hc
  obtain ⟨-, -, top⟩ := at?_measuredMax (at?_measuredMax_of_lt hk)
  have points : foursOf (fun a b x y => CurvePoint.mk (u16 a b) (u16 x y)) ((c.first :: c.rest).flatMap pointBytes) =
      some (c.first :: c.rest) := by
    rw [foursOf_flatMap _ pointBytes id _ fun p hp => ?_, List.map_id]
    have ⟨hr, he⟩ := values p hp
    exact ⟨_, _, _, _, rfl, by rw [u16_be16 _ hr, u16_be16 _ (by omega)]; rfl⟩
  show (counted (byte (c.rest.length + 1)).toNat (foursOf _ ((c.first :: c.rest).flatMap pointBytes))).map _ = _
  rw [points, counted_of_length (by rw [toNat_byte_of_le (by omega)]; rfl), Option.map_some, toNat_byte_of_le (by omega),
    u16_be16 _ (by omega), u16_be16 _ (by omega)]

theorem validCurve_of_valid {k : Nat} {c : Curve} (hk : k < 4)
    (hc : c.valid ((PerMeasured.at? measuredMax k).getD 0) = true) :
    validCurve ⟨k, c.first :: c.rest, c.rRef, c.driftLimit⟩ = some c := by
  obtain ⟨count, rising, values, reference, limit⟩ := (curveValid_iff _ c).mp hc
  unfold validCurve
  rw [at?_measuredMax_of_lt hk]
  refine if_pos ?_
  simp only [Bool.and_eq_true, bne_iff_ne, decide_eq_true_eq, List.all_eq_true, between_iff]
  exact ⟨⟨⟨⟨count, rising⟩, fun p hp => (values p hp).2⟩, by omega⟩, limit⟩

/-- A bias entry as a BIAS write carries it. -/
def BiasEntry.args (b : BiasEntry) : BiasArgs := ⟨(bitByte b.enabled).toNat, (byte b.channel.code).toNat, b.bias⟩

theorem profileChannelOf_code (c : ProfileChannel) : profileChannelOf (byte c.code).toNat = some c := by cases c <;> rfl

theorem validBias_args {b : BiasEntry} (h : -2000 ≤ b.bias ∧ b.bias ≤ 2000) : validBias b.args = some b := by
  unfold validBias BiasEntry.args
  rw [boolOf_bitByte, profileChannelOf_code]
  exact if_pos h

theorem biasArgs_biasBytes {k : Nat} {es : List BiasEntry} (h1 : 1 ≤ es.length) (h8 : k + es.length ≤ 8)
    (hes : ∀ b ∈ es, -2000 ≤ b.bias ∧ b.bias ≤ 2000) :
    biasArgs (byte k :: byte es.length :: es.flatMap biasBytes) = some (k, es.map BiasEntry.args) := by
  have entries : foursOf (fun e ch b1 b0 => BiasArgs.mk e.toNat ch.toNat (signed 16 (u16 b1 b0)))
      (es.flatMap biasBytes) = some (es.map BiasEntry.args) := by
    refine foursOf_flatMap _ biasBytes BiasEntry.args _ fun b hb => ⟨_, _, _, _, rfl, ?_⟩
    have ⟨low, high⟩ := hes b hb
    have field := twos_lt 16 b.bias
    rw [u16_be16 _ (by omega), signed_twos16 _ (by omega) (by omega)]
    rfl
  have count : (byte es.length).toNat = es.length := toNat_byte_of_le (by omega)
  have some_entry : byte es.length ≠ 0#8 := fun e => by
    rw [e] at count
    have : (0#8 : Byte).toNat = 0 := rfl
    omega
  unfold biasArgs
  dsimp only
  rw [if_neg some_entry, entries, counted_of_length (by rw [count, List.length_map]), Option.map_some,
    toNat_byte_of_le (by omega)]

theorem mapM_validBias_args : ∀ {es : List BiasEntry}, (∀ b ∈ es, -2000 ≤ b.bias ∧ b.bias ≤ 2000) →
    (es.map BiasEntry.args).mapM validBias = some es
  | [], _ => rfl
  | b :: es, h => by
    rw [List.map_cons, List.mapM_cons, validBias_args (h b (by simp)),
      mapM_validBias_args fun x hx => h x (by simp [hx])]
    rfl

theorem stdfArgs_be16 {k : Nat} {qs : List Nat} (h1 : 1 ≤ qs.length) (h4 : k + qs.length ≤ 4)
    (hqs : ∀ q ∈ qs, 8192 ≤ q ∧ q ≤ 32767) :
    stdfArgs (byte k :: byte qs.length :: qs.flatMap be16) = some (k, qs) := by
  have factors := pairsOf_be16 qs fun q hq => le_trans (hqs q hq).2 (by decide)
  have count : (byte qs.length).toNat = qs.length := toNat_byte_of_le (by omega)
  have some_factor : byte qs.length ≠ 0#8 := fun e => by
    rw [e] at count
    have : (0#8 : Byte).toNat = 0 := rfl
    omega
  unfold stdfArgs
  dsimp only
  rw [if_neg some_factor, factors, counted_of_length count.symm, Option.map_some, toNat_byte_of_le (by omega)]

/-- The items of the four channels in their order. -/
def channelItems {α : Type} (p : PerMeasured α) : List α := [p.bw, p.mo, p.ca, p.tr]

theorem channelItems_injective {α : Type} {p q : PerMeasured α} (h : channelItems p = channelItems q) : p = q := by
  cases p
  cases q
  simpa [channelItems] using h

theorem channelItems_setAt {α : Type} (p : PerMeasured α) (k : Nat) (a : α) :
    channelItems (PerMeasured.setAt p k a) = (channelItems p).set k a := by
  match k with
  | 0 | 1 | 2 | 3 => rfl
  | k + 4 => rfl

/-- Items written from a number on, as a list. -/
theorem channelItems_writeAt {α : Type} (p : PerMeasured α) (k : Nat) (new : List α) (h : k + new.length ≤ 4) :
    channelItems (PerMeasured.writeAt p k new) = (channelItems p).take k ++ new ++ (channelItems p).drop (k + new.length) := by
  induction new generalizing p k with
  | nil => simp [PerMeasured.writeAt]
  | cons a new ih =>
    have len : (channelItems p).length = 4 := rfl
    simp only [List.length_cons] at h
    have before : ((channelItems p).set k a).take (k + 1) = (channelItems p).take k ++ [a] := by
      rw [List.take_add_one, List.take_set_of_le (le_refl k), List.getElem?_set_self (by omega)]
      rfl
    have after : ((channelItems p).set k a).drop (k + 1 + new.length) = (channelItems p).drop (k + (new.length + 1)) := by
      rw [List.drop_set_of_lt (by omega), Nat.add_right_comm, Nat.add_assoc]
    rw [PerMeasured.writeAt, ih _ _ (by omega), channelItems_setAt, before, after, List.append_assoc _ [a]]
    rfl

/-! ### Answers of the three calibration regions -/

section
variable (hand : AtHand f rest s) (quiet : s.conditions.summary = false)
include hand quiet

/-- A CURVE write past form and gate. -/
theorem writeCurve_served {a : CurveArgs} (hrow : rowOf f = .writeCurve) (ha : curveArgs f.args.tail = some a) :
    exec .writeTableCurve s = .next (respond f (writeCurve a (s.taken f rest))) :=
  congrArg Host.Outcome.next (serve_owner (parse := afterRegion curveArgs) hand hrow ha (.inr quiet))

/-- A BIAS write past form and gate. -/
theorem writeBias_served {a : Nat × List BiasArgs} (hrow : rowOf f = .writeBias) (ha : biasArgs f.args.tail = some a) :
    exec .writeTableBias s = .next (respond f (writeBias a (s.taken f rest))) :=
  congrArg Host.Outcome.next (serve_owner (parse := afterRegion biasArgs) hand hrow ha (.inr quiet))

/-- An STDF write past form and gate. -/
theorem writeStdf_served {a : Nat × List Nat} (hrow : rowOf f = .writeStdf) (ha : stdfArgs f.args.tail = some a) :
    exec .writeTableStdf s = .next (respond f (writeStdf a (s.taken f rest))) :=
  congrArg Host.Outcome.next (serve_owner (parse := afterRegion stdfArgs) hand hrow ha (.inr quiet))

end

theorem writeCurve_locked (a : CurveArgs) (h : s.tables.locked = true) : writeCurve a s = refuse .locked s := if_pos h

theorem writeBias_locked (a : Nat × List BiasArgs) (h : s.tables.locked = true) : writeBias a s = refuse .locked s :=
  if_pos h

theorem writeStdf_locked (a : Nat × List Nat) (h : s.tables.locked = true) : writeStdf a s = refuse .locked s := if_pos h

theorem writeCurve_bad {a : CurveArgs} (h : s.tables.locked = false) (ha : ∀ c, validCurve a ≠ some c) :
    writeCurve a s = refuse .badArgument s := by
  have bad : validCurve a = none := Option.eq_none_iff_forall_ne_some.mpr ha
  rw [writeCurve, if_neg (by simp [h]), bad]

theorem writeBias_bad {a : Nat × List BiasArgs} (h : s.tables.locked = false)
    (ha : 8 < a.1 + a.2.length ∨ ∃ x ∈ a.2, ∀ b, validBias x ≠ some b) : writeBias a s = refuse .badArgument s := by
  rw [writeBias, if_neg (by simp [h])]
  split
  · rfl
  · rename_i fits
    obtain out | ⟨x, hx, fails⟩ := ha
    · exact absurd out fits
    · have bad : a.2.mapM validBias = none := Option.eq_none_iff_forall_ne_some.mpr fun es hes => by
        obtain ⟨b, hb⟩ := mapM_some_passes hes x hx
        exact fails b hb
      rw [bad]

theorem writeStdf_bad {a : Nat × List Nat} (h : s.tables.locked = false)
    (ha : 4 < a.1 + a.2.length ∨ ∃ q ∈ a.2, q < 8192 ∨ 32767 < q) : writeStdf a s = refuse .badArgument s := by
  rw [writeStdf, if_neg (by simp [h]), if_pos]
  rw [Bool.or_eq_true, decide_eq_true_iff]
  obtain out | ⟨q, hq, out⟩ := ha
  · exact .inl out
  · refine .inr ?_
    rw [Bool.not_eq_true', ← Bool.not_eq_true, List.all_eq_true]
    intro all
    have := (between_iff _ _ _).mp (all q hq)
    omega

/-! ### The row of a write whose form passes -/

theorem rowOf_write_zero {region : Byte} {more : List Byte} (hcode : f.code = 0x03#8) (hargs : f.args = region :: more)
    (h0 : argByte f 0 = 0) : rowOf f = .writeCurve := by
  have h0' : region.toNat = 0 := by rw [← h0, argByte, hargs]; rfl
  simp [rowOf_write hcode, hargs, writeRow, h0']

theorem rowOf_write_one (hcode : f.code = 0x03#8) (h0 : argByte f 0 = 1) : rowOf f = .writeBias := by
  cases hargs : f.args with
  | nil => simp [argByte, hargs] at h0
  | cons region more =>
    have h0' : region.toNat = 1 := by rw [← h0, argByte, hargs]; rfl
    simp [rowOf_write hcode, hargs, writeRow, h0']

theorem rowOf_write_two (hcode : f.code = 0x03#8) (h0 : argByte f 0 = 2) : rowOf f = .writeStdf := by
  cases hargs : f.args with
  | nil => simp [argByte, hargs] at h0
  | cons region more =>
    have h0' : region.toNat = 2 := by rw [← h0, argByte, hargs]; rfl
    simp [rowOf_write hcode, hargs, writeRow, h0']

theorem cons_of_curveArgs {a : CurveArgs} (h : curveArgs f.args.tail = some a) : ∃ region more, f.args = region :: more := by
  cases hargs : f.args with
  | nil => rw [hargs] at h; exact nomatch h
  | cons region more => exact ⟨region, more, rfl⟩

/-! ### The three regions -/

section
variable (hand : AtHand f rest s) (quiet : s.conditions.summary = false) (hcode : f.code = 0x03#8)
include hand quiet hcode

/-- A CURVE write that is taken (R10, R18). -/
theorem writeTableCurve_taken {k : Nat} {c : Curve} (unlocked : s.tables.locked = false) (hk : k < 4)
    (hc : c.valid ((PerMeasured.at? measuredMax k).getD 0) = true) (hargs : f.args = 0#8 :: byte k :: curveBytes c) :
    exec .writeTableCurve s = .next (State.answered { s with tables := { s.tables with
      curve := ⟨PerMeasured.setAt s.tables.curve.staged k (some c), s.tables.curve.inEffect,
        nextGeneration s.tables.curve.stagedGen s.tables.curve.inEffectGen, s.tables.curve.inEffectGen⟩ } }
      f rest .ok []) := by
  have unlocked' : ¬ (s.taken f rest).tables.locked = true := by simp [State.taken, unlocked]
  rw [writeCurve_served hand quiet (by rw [rowOf_write hcode, hargs]; rfl)
    (by rw [hargs]; exact curveArgs_curveBytes hk hc), writeCurve, if_neg unlocked', validCurve_of_valid hk hc]
  rfl

/-- A BIAS write that is taken (R12, R18). -/
theorem writeTableBias_taken {k : Nat} {es : List BiasEntry} (unlocked : s.tables.locked = false)
    (h1 : 1 ≤ es.length) (h8 : k + es.length ≤ 8) (hes : ∀ b ∈ es, -2000 ≤ b.bias ∧ b.bias ≤ 2000)
    (hargs : f.args = 1#8 :: byte k :: byte es.length :: es.flatMap biasBytes) :
    exec .writeTableBias s = .next (State.answered { s with tables := { s.tables with
      bias := ⟨s.tables.bias.staged.take k ++ es ++ s.tables.bias.staged.drop (k + es.length),
        s.tables.bias.inEffect, nextGeneration s.tables.bias.stagedGen s.tables.bias.inEffectGen,
        s.tables.bias.inEffectGen⟩ } } f rest .ok []) := by
  have unlocked' : ¬ (s.taken f rest).tables.locked = true := by simp [State.taken, unlocked]
  have fits : ¬ 8 < k + (es.map BiasEntry.args).length := by rw [List.length_map]; omega
  rw [writeBias_served hand quiet (by rw [rowOf_write hcode, hargs]; rfl)
    (by rw [hargs]; exact biasArgs_biasBytes h1 h8 hes), writeBias, if_neg unlocked', if_neg fits, mapM_validBias_args hes]
  rfl

/-- An STDF write that is taken (R18). -/
theorem writeTableStdf_taken {k : Nat} {qs : List Nat} {new : PerMeasured Nat} (unlocked : s.tables.locked = false)
    (h1 : 1 ≤ qs.length) (h4 : k + qs.length ≤ 4) (hqs : ∀ q ∈ qs, 8192 ≤ q ∧ q ≤ 32767)
    (hargs : f.args = 2#8 :: byte k :: byte qs.length :: qs.flatMap be16)
    (hnew : (channelItems s.tables.stdf.staged).take k ++ qs ++
      (channelItems s.tables.stdf.staged).drop (k + qs.length) = channelItems new) :
    exec .writeTableStdf s = .next (State.answered { s with tables := { s.tables with
      stdf := ⟨new, s.tables.stdf.inEffect, nextGeneration s.tables.stdf.stagedGen s.tables.stdf.inEffectGen,
        s.tables.stdf.inEffectGen⟩ } } f rest .ok []) := by
  have unlocked' : ¬ (s.taken f rest).tables.locked = true := by simp [State.taken, unlocked]
  have passes : ¬ (decide (4 < k + qs.length) || !qs.all (between 8192 32767)) = true := by
    have all : qs.all (between 8192 32767) = true :=
      List.all_eq_true.mpr fun q hq => (between_iff _ _ _).mpr (hqs q hq)
    simp [all, h4]
  have written : PerMeasured.writeAt s.tables.stdf.staged k qs = new :=
    channelItems_injective ((channelItems_writeAt _ k qs h4).trans hnew)
  rw [writeStdf_served hand quiet (by rw [rowOf_write hcode, hargs]; rfl)
    (by rw [hargs]; exact stdfArgs_be16 h1 h4 hqs), writeStdf, if_neg unlocked', if_neg passes, ← written]
  rfl

/-- A CURVE write with a field out of its range (R10). -/
theorem writeTableCurve_bad (unlocked : s.tables.locked = false) (h0 : argByte f 0 = 0)
    (formed : CommandRow.writeCurve.wellFormedArgs f.args = true)
    (bad : 4 ≤ argByte f 1 ∨ argByte f 2 < 2 ∨ 12 < argByte f 2 ∨ argWord f 3 = 0 ∨ 5000 < argWord f 5 ∨
      (∃ i, i + 1 < argByte f 2 ∧ argWord f (4 * i + 11) ≤ argWord f (4 * i + 7)) ∨
      (∃ i, i < argByte f 2 ∧ [65535, 10000, 65535, 1000].getD (argByte f 1) 0 < argWord f (4 * i + 9))) :
    exec .writeTableCurve s = .next (s.answered f rest .badArgument []) := by
  obtain ⟨a, parsed⟩ := Option.isSome_iff_exists.mp formed
  obtain ⟨region, more, hargs⟩ := cons_of_curveArgs parsed
  obtain ⟨index, count, reference, limit, points⟩ := curveArgs_fields parsed
  rw [writeCurve_served hand quiet (rowOf_write_zero hcode hargs h0) parsed,
    writeCurve_bad (s := s.taken f rest) unlocked fun c taken => ?_, respond_refuse]
  obtain ⟨channel, members, nonzero, drift, rising, values⟩ := validCurve_ranges taken
  simp only [argByte_succ, argWord_succ, ← index, ← count, ← reference, ← limit] at bad
  obtain out | few | many | zero | large | ⟨i, hi, falls⟩ | ⟨i, hi, high⟩ := bad
  · omega
  · omega
  · omega
  · exact nonzero zero
  · omega
  · have less := rising i hi
    rw [(points i (by omega)).1, (points (i + 1) hi).1] at less
    exact absurd less (Nat.not_lt.mpr falls)
  · have top := values i hi
    rw [(points i hi).2] at top
    exact absurd top (Nat.not_le.mpr high)

/-- A BIAS write with an index, a code or a bias out of its range (R12). -/
theorem writeTableBias_bad (unlocked : s.tables.locked = false) (h0 : argByte f 0 = 1)
    (formed : CommandRow.writeBias.wellFormedArgs f.args = true)
    (bad : 8 < argByte f 1 + argByte f 2 ∨ ∃ i, i < argByte f 2 ∧ (1 < argByte f (4 * i + 3) ∨
      argByte f (4 * i + 4) ∉ [0, 1, 2, 4] ∨
      (2000 < argWord f (4 * i + 5) ∧ argWord f (4 * i + 5) < 65536 - 2000))) :
    exec .writeTableBias s = .next (s.answered f rest .badArgument []) := by
  obtain ⟨a, parsed⟩ := Option.isSome_iff_exists.mp formed
  obtain ⟨first, count, entries⟩ := biasArgs_fields parsed
  rw [writeBias_served hand quiet (rowOf_write_one hcode h0) parsed,
    writeBias_bad (s := s.taken f rest) unlocked ?_, respond_refuse]
  simp only [argByte_succ, argWord_succ, ← first, ← count] at bad
  refine bad.imp_right fun ⟨i, hi, out⟩ => ⟨a.2[i], List.getElem_mem hi, fun b taken => ?_⟩
  rw [entries i hi] at taken
  obtain ⟨enabled, channel, low, high⟩ := validBias_ranges taken
  have range := signed16_range (wordAt_lt _ _) low high
  obtain out | out | out := out
  · exact absurd enabled (Nat.not_le.mpr out)
  · exact out channel
  · omega

/-- An STDF write with an index or a factor out of its range (R18). -/
theorem writeTableStdf_bad (unlocked : s.tables.locked = false) (h0 : argByte f 0 = 2)
    (formed : CommandRow.writeStdf.wellFormedArgs f.args = true)
    (bad : 4 < argByte f 1 + argByte f 2 ∨ ∃ i, i < argByte f 2 ∧
      (argWord f (2 * i + 3) < 8192 ∨ 32767 < argWord f (2 * i + 3))) :
    exec .writeTableStdf s = .next (s.answered f rest .badArgument []) := by
  obtain ⟨a, parsed⟩ := Option.isSome_iff_exists.mp formed
  obtain ⟨first, count, factors⟩ := stdfArgs_fields parsed
  rw [writeStdf_served hand quiet (rowOf_write_two hcode h0) parsed,
    writeStdf_bad (s := s.taken f rest) unlocked ?_, respond_refuse]
  simp only [argByte_succ, argWord_succ, ← first, ← count] at bad
  refine bad.imp_right fun ⟨i, hi, out⟩ => ⟨a.2[i], List.getElem_mem hi, ?_⟩
  rw [factors i hi]
  exact out

end

/-- Settles O53: the lock, then the writes taken, out of range, and under the lock. -/
theorem calibrationWritesStageWhatTheyCarry : Obligations.CalibrationWritesStageWhatTheyCarry := by
  unfold Obligations.CalibrationWritesStageWhatTheyCarry
  intro f rest s hand quiet
  refine ⟨fun hcode hargs => ?_, fun hcode unlocked => ⟨?_, ?_, ?_⟩, fun hcode unlocked => ⟨?_, ?_, ?_⟩,
    fun hcode locked after => ⟨fun hargs formed => ?_, fun hargs formed => ?_, fun hargs formed => ?_⟩⟩
  · have hrow : rowOf f = .lockCalibration := by simp [rowOf, hcode]
    exact congrArg Host.Outcome.next
      (serve_accepted hand hrow (parse := noArgs) (a := ()) (by rw [hargs]; rfl) (.inr quiet) rfl)
  · exact fun k c hk hc hargs => writeTableCurve_taken hand quiet hcode unlocked hk hc hargs
  · exact fun k es h1 h8 hes hargs => writeTableBias_taken hand quiet hcode unlocked h1 h8 hes hargs
  · exact fun k qs h1 h4 hqs hargs a b c d hnew =>
      writeTableStdf_taken hand quiet hcode (new := ⟨a, b, c, d⟩) unlocked h1 h4 hqs hargs hnew
  · exact writeTableCurve_bad hand quiet hcode unlocked
  · exact writeTableBias_bad hand quiet hcode unlocked
  · exact writeTableStdf_bad hand quiet hcode unlocked
  · obtain ⟨a, parsed⟩ := Option.isSome_iff_exists.mp formed
    rw [writeCurve_served hand quiet (by rw [rowOf_write hcode, hargs]; rfl) parsed,
      writeCurve_locked (s := s.taken f rest) a locked, respond_refuse]
  · obtain ⟨a, parsed⟩ := Option.isSome_iff_exists.mp formed
    rw [writeBias_served hand quiet (by rw [rowOf_write hcode, hargs]; rfl) parsed,
      writeBias_locked (s := s.taken f rest) a locked, respond_refuse]
  · obtain ⟨a, parsed⟩ := Option.isSome_iff_exists.mp formed
    rw [writeStdf_served hand quiet (by rw [rowOf_write hcode, hargs]; rfl) parsed,
      writeStdf_locked (s := s.taken f rest) a locked, respond_refuse]

end Sys2Proof.Machine

/-! ## The carriage state and what goes with it (O6) -/

namespace Sys2Proof.Machine

variable {s t : State}

/-! ### What the coupling reads of a state -/

/-- The carriage state, and of the blocks that go with it only what `CarriageCoupled` reads. -/
structure Coupling where
  carriage : Carriage
  traverse : Option Direction
  collecting : Bool
  request : Bool
  target : Bool
  stall : Bool
  silence : Bool

def State.coupling (s : State) : Coupling where
  carriage := s.frame.carriage
  traverse := s.binning.openTraverse.map OpenTraverse.direction
  collecting := s.standardize.collection.isSome
  request := s.standardize.request
  target := s.frame.target.isSome
  stall := s.frame.stall.isSome
  silence := s.frame.silence.isSome

/-- `CarriageCoupled`, said of what it reads. -/
def Coupling.Holds (k : Coupling) : Prop :=
  k.traverse = k.carriage.scanningDirection ∧ k.collecting = (k.carriage == .standardizing) ∧
  k.target = k.carriage.hasMove ∧ k.stall = k.target ∧
  (k.silence = true → k.carriage ≠ .unreferenced ∧ k.carriage ≠ .halted) ∧
  (k.carriage = .parked → k.request = false)

theorem carriageCoupled_iff : CarriageCoupled s ↔ s.coupling.Holds := Iff.rfl

theorem coupled_of_eq (h : CarriageCoupled s) (e : t.coupling = s.coupling) : CarriageCoupled t := by
  rw [carriageCoupled_iff, e]
  exact h

/-- An operation whose result is known and leaves what the coupling reads. -/
theorem CarriageCoupled.of_state {u : State} (h : CarriageCoupled s) (e : t = u)
    (kept : u.coupling = s.coupling := by rfl) : CarriageCoupled t := coupled_of_eq h (e ▸ kept)

/-! ### The states that the carriage can enter -/

section
variable {k : Coupling}

/-- On the way somewhere, with no traverse open. -/
theorem Coupling.holds_moving {c : Carriage} (move : c.hasMove = true) (closed : c.scanningDirection = none)
    (traverse : k.traverse = none) (collecting : k.collecting = false) :
    Coupling.Holds { k with carriage := c, target := true, stall := true } := by
  refine ⟨traverse.trans closed.symm, collecting.trans ?_, move.symm, rfl, fun _ => ⟨?_, ?_⟩, ?_⟩
  · cases c <;> simp_all [Carriage.hasMove]
  all_goals rintro rfl; simp [Carriage.hasMove] at move

theorem Coupling.holds_scanning (d : Direction) (collecting : k.collecting = false) :
    Coupling.Holds { k with carriage := .traverse .scanning d, traverse := some d, target := true, stall := true } := by
  simp [Coupling.Holds, Carriage.scanningDirection, Carriage.hasMove, collecting]

/-- At rest in a state that is neither PARKED nor STANDARDIZING nor timerless. -/
theorem Coupling.holds_dwelling {c : Carriage} (h : c = .fixed .dwelling ∨ c = .probing .dwelling)
    (traverse : k.traverse = none) (collecting : k.collecting = false) :
    Coupling.Holds { k with carriage := c, target := false, stall := false } := by
  rcases h with rfl | rfl <;>
    simp [Coupling.Holds, Carriage.scanningDirection, Carriage.hasMove, traverse, collecting]

theorem Coupling.holds_parked (traverse : k.traverse = none) (collecting : k.collecting = false)
    (request : k.request = false) (target : k.target = false) (stall : k.stall = false) :
    Coupling.Holds { k with carriage := .parked } := by
  simp [Coupling.Holds, Carriage.scanningDirection, Carriage.hasMove, traverse, collecting, request, target, stall]

theorem Coupling.holds_standardizing (traverse : k.traverse = none) (target : k.target = false)
    (stall : k.stall = false) : Coupling.Holds { k with carriage := .standardizing, collecting := true } := by
  simp [Coupling.Holds, Carriage.scanningDirection, Carriage.hasMove, traverse, target, stall]

theorem Coupling.holds_halted (traverse : k.traverse = none) (collecting : k.collecting = false) :
    Coupling.Holds { k with carriage := .halted, target := false, stall := false, silence := false } := by
  simp [Coupling.Holds, Carriage.scanningDirection, Carriage.hasMove, traverse, collecting]

end

/-! ### What each carriage state says of the rest -/

section
variable {c : Carriage} (h : CarriageCoupled s) (hc : s.frame.carriage = c)
include h hc

theorem CarriageCoupled.traverse_none (closed : c.scanningDirection = none := by rfl) : s.coupling.traverse = none :=
  h.1.trans (by rw [hc, closed])

theorem CarriageCoupled.not_collecting (elsewhere : c ≠ .standardizing := by simp) :
    s.coupling.collecting = false := h.2.1.trans (by simpa [hc] using elsewhere)

theorem CarriageCoupled.no_target (still : c.hasMove = false := by rfl) : s.coupling.target = false :=
  h.2.2.1.trans (by rw [hc, still])

theorem CarriageCoupled.no_stall (still : c.hasMove = false := by rfl) : s.coupling.stall = false :=
  h.2.2.2.1.trans (h.no_target hc still)

end

theorem CarriageCoupled.no_request (h : CarriageCoupled s) (hc : s.frame.carriage = .parked) :
    s.coupling.request = false := h.2.2.2.2.2 hc

/-! ### Operations that the coupling does not see -/

section
variable (s : State)

@[simp] theorem quietRuns_coupling : (quietRuns s).coupling = s.coupling := rfl
@[simp] theorem setScanOn_coupling (b : Bool) : (setScanOn b s).coupling = s.coupling := rfl
@[simp] theorem handDrive_coupling (f : DriveFrame) : (handDrive f s).coupling = s.coupling := rfl
@[simp] theorem handHead_coupling (m : HeadMode) : (handHead m s).coupling = s.coupling := rfl
@[simp] theorem raise_coupling (c : Condition) : (raise c s).coupling = s.coupling := rfl
@[simp] theorem noteMoment_coupling (v : View) : (noteMoment v s).coupling = s.coupling := rfl
@[simp] theorem startProbeTimer_coupling : (startProbeTimer s).coupling = s.coupling := rfl
@[simp] theorem enterSheetOff_coupling : (enterSheetOff s).coupling = s.coupling := rfl
@[simp] theorem enterThreading_coupling : (enterThreading s).coupling = s.coupling := rfl
@[simp] theorem commit_coupling : (commit s).coupling = s.coupling := rfl
@[simp] theorem setEngine_coupling (e : Engine) : (setEngine e s).coupling = s.coupling := rfl
@[simp] theorem carriageDelivered_coupling : (carriageDelivered s).coupling = s.coupling := rfl
@[simp] theorem millDelivered_coupling : (millDelivered s).coupling = s.coupling := rfl
@[simp] theorem taken_coupling (f : CommandFrame) (rest : List CommandFrame) :
    (s.taken f rest).coupling = s.coupling := rfl
@[simp] theorem respond_coupling (f : CommandFrame) (a : Answer) : (respond f a).coupling = a.state.coupling := rfl

@[simp] theorem settle_coupling : (settle s).coupling = s.coupling := by simp [State.coupling]

@[simp] theorem raiseIf_coupling (b : Bool) (c : Condition) : (raiseIf b c s).coupling = s.coupling := by
  simp [State.coupling]

@[simp] theorem takeAction_coupling (a : PendingAction) : (takeAction a s).coupling = s.coupling := by
  simp [State.coupling]

@[simp] theorem applyPending_coupling : (applyPending s).coupling = s.coupling := by simp [State.coupling]

@[simp] theorem stageFactors_coupling (r : PerMeasured (Option ParticipantResult)) :
    (stageFactors r s).coupling = s.coupling := by simp [State.coupling]

@[simp] theorem markTraverse_coupling : (markTraverse s).coupling = s.coupling := by
  simp [State.coupling, markTraverse, Function.comp_def]

@[simp] theorem placeNotice_coupling (n : Notice) : (placeNotice n s).coupling = s.coupling := by
  rw [placeNotice_eq]
  rfl

@[simp] theorem placeReport_coupling (l : List ProfileReport) : (placeReport l s).coupling = s.coupling := by
  rw [placeReport_eq]
  rfl

@[simp] theorem watchArrival_coupling : (watchArrival s).coupling = s.coupling := by
  obtain ⟨_, _, _, e⟩ := watchArrival_eq s
  rw [e]
  rfl

@[simp] theorem watchStandardizeEnd_coupling : (watchStandardizeEnd s).coupling = s.coupling := by
  unfold watchStandardizeEnd
  split <;> rfl

@[simp] theorem watchDwellStart_coupling : (watchDwellStart s).coupling = s.coupling := by
  unfold watchDwellStart
  split <;> rfl

@[simp] theorem gapResetRuns_coupling (x : Sample) : (gapResetRuns x s).coupling = s.coupling := by
  unfold gapResetRuns
  split <;> rfl

@[simp] theorem lookForSheet_coupling (tr : Conditioned) : (lookForSheet tr s).coupling = s.coupling := by
  unfold lookForSheet
  split
  · rfl
  · split
    · split <;> rfl
    · rfl

@[simp] theorem binningTakes_coupling (x : Sample) : (binningTakes x s).coupling = s.coupling := by
  cases h : s.binning.openTraverse <;> simp [State.coupling, binningTakes, h]

@[simp] theorem feedWindows_coupling (x : Sample) : (feedWindows x s).coupling = s.coupling := by
  rw [feedWindows_eq]
  rfl

@[simp] theorem streamTakes_coupling (x : Sample) : (streamTakes x s).coupling = s.coupling := by
  rw [streamTakes_eq]
  rfl

@[simp] theorem conditionerTakes_coupling (f : SampleFrame) : (conditionerTakes f s).coupling = s.coupling := by
  rw [conditionerTakes_eq]
  rfl

/-! ### Operations that it sees -/

@[simp] theorem setCarriage_coupling (c : Carriage) : (setCarriage c s).coupling = { s.coupling with carriage := c } :=
  rfl

@[simp] theorem sendMove_coupling (target speed : Nat) :
    (sendMove target speed s).coupling = { s.coupling with target := true, stall := true } := rfl

@[simp] theorem endMove_coupling : (endMove s).coupling = { s.coupling with target := false, stall := false } := rfl

@[simp] theorem sendStop_coupling : (sendStop s).coupling = { s.coupling with target := false, stall := false } := rfl

@[simp] theorem startSilence_coupling : (startSilence s).coupling = { s.coupling with silence := true } := rfl

@[simp] theorem goPark_coupling :
    (goPark s).coupling = { s.coupling with carriage := .parking, target := true, stall := true } := rfl

@[simp] theorem enterStandardizing_coupling :
    (enterStandardizing s).coupling = { s.coupling with carriage := .standardizing, collecting := true } := rfl

@[simp] theorem endCollection_coupling :
    (endCollection s).coupling = { s.coupling with collecting := false, request := false } := rfl

@[simp] theorem abandonTraverse_coupling (r : AbandonReason) :
    (abandonTraverse r s).coupling = { s.coupling with traverse := none } := by simp [State.coupling]

@[simp] theorem closeTraverse_coupling : (closeTraverse s).coupling = { s.coupling with traverse := none } := by
  unfold closeTraverse
  split
  · rename_i h
    simp [State.coupling, h]
  · split
    · exact raiseIf_coupling _ _ _
    · rw [raise_coupling, placeNotice_coupling]
      rfl

/-- Abandoned or not there: no collection afterwards, and no request if there was one. -/
theorem abandonCollection_coupling : (abandonCollection s).coupling =
    { s.coupling with collecting := false, request := s.coupling.request && !s.coupling.collecting } := by
  cases h : s.standardize.collection with
  | none => simp [abandonCollection_none s h, State.coupling, h]
  | some c => simp [abandonCollection_some s c h, State.coupling, h]

@[simp] theorem haltCarriage_coupling : (haltCarriage s).coupling = { s.coupling with
    carriage := .halted, traverse := none, target := false, stall := false, silence := false } := by
  rw [haltCarriage_eq]
  simp [State.coupling]

@[simp] theorem abortCollection_coupling : (abortCollection s).coupling = (abandonCollection s).coupling := by
  unfold abortCollection
  split
  · rename_i h
    rw [abandonCollection_none s h]
  · rfl

end

/-! ### Requests, approaches and openings -/

/-- In PARKED a request starts its collection at once; elsewhere it is only noted. -/
theorem setRequest_coupled (h : CarriageCoupled s) : CarriageCoupled (setRequest s) := by
  unfold setRequest
  dsimp only
  split
  · rename_i hc
    rw [carriageCoupled_iff, enterStandardizing_coupling]
    exact Coupling.holds_standardizing (h.traverse_none hc) (h.no_target hc) (h.no_stall hc)
  · rename_i hc
    obtain ⟨traverse, collecting, target, stall, silence, _⟩ := h
    exact ⟨traverse, collecting, target, stall, silence, fun hp => absurd hp hc⟩

theorem checkDue_coupled (h : CarriageCoupled s) : CarriageCoupled (checkDue s) := by
  unfold checkDue
  split
  · exact setRequest_coupled h
  · exact h

theorem beginApproach_coupling {c : Context} (h : governing s = some c) : (beginApproach s).coupling =
    { s.coupling with carriage := .traverse .positioning .fwd, target := true, stall := true } := by
  rw [beginApproach_some s c h]
  rfl

/-- A carriage at rest with nothing requested approaches, or without a context is PARKED (log 13). -/
theorem beginApproach_coupled (traverse : s.coupling.traverse = none) (collecting : s.coupling.collecting = false)
    (request : s.coupling.request = false) (target : s.coupling.target = false) (stall : s.coupling.stall = false) :
    CarriageCoupled (beginApproach s) := by
  rw [carriageCoupled_iff]
  cases hg : governing s with
  | none =>
    rw [beginApproach_none s hg]
    exact Coupling.holds_parked traverse collecting request target stall
  | some c =>
    rw [beginApproach_coupling hg]
    exact Coupling.holds_moving rfl rfl traverse collecting

theorem goPark_coupled (traverse : s.coupling.traverse = none) (collecting : s.coupling.collecting = false) :
    CarriageCoupled (goPark s) := Coupling.holds_moving rfl rfl traverse collecting

/-- The way home from UNREFERENCED or HALTED, which restarts the silence timer (R92, R112). -/
theorem startSilence_goPark_coupled (traverse : s.coupling.traverse = none)
    (collecting : s.coupling.collecting = false) : CarriageCoupled (startSilence (goPark s)) :=
  Coupling.holds_moving (k := { s.coupling with silence := true }) rfl rfl traverse collecting

/-- Outside PARKED a context taken can only set the request flag. -/
theorem takeContext_coupling (r : MapRecord) (hp : s.frame.carriage ≠ .parked) :
    ∃ b, (takeContext r s).coupling = { s.coupling with request := b } := by
  cases hq : s.contexts.queue with
  | nil => exact ⟨_, congrArg _ (takeContext_nil r s hq)⟩
  | cons c rest =>
    rw [takeContext_cons r s c rest hq hp, takeAction_coupling]
    exact ⟨_, rfl⟩

theorem openTraverse_coupled (d : Direction) (hp : s.frame.carriage ≠ .parked) (traverse : s.coupling.traverse = none)
    (collecting : s.coupling.collecting = false) : CarriageCoupled (openTraverse d s) := by
  cases hg : governing s with
  | none =>
    rw [openTraverse, hg]
    exact goPark_coupled traverse collecting
  | some c =>
    cases hm : s.tables.map c.map with
    | none =>
      simp only [openTraverse, hg, hm]
      exact goPark_coupled traverse collecting
    | some r =>
      obtain ⟨b, e⟩ := takeContext_coupling r hp
      rw [openTraverse_eq d s c r hg hm]
      refine Coupling.holds_scanning (k := (takeContext r s).coupling) d ?_
      rw [e]
      exact collecting

/-! ### The break watch's requests -/

theorem parkRequest_coupled (h : CarriageCoupled s) : CarriageCoupled (parkRequest s) := by
  unfold parkRequest
  split
  case h_1 | h_2 => exact h
  case h_3 => exact coupled_of_eq h (by simp)
  case h_4 | h_5 => exact h
  case h_6 hc => exact goPark_coupled (by simp) (by simpa using h.not_collecting hc)
  case h_7 hc => exact goPark_coupled (h.traverse_none hc) (h.not_collecting hc)
  case h_8 hc => exact goPark_coupled (h.traverse_none hc) (h.not_collecting hc)

theorem probeRequest_coupled (h : CarriageCoupled s) : CarriageCoupled (probeRequest s) := by
  unfold probeRequest
  split
  · rename_i hc
    exact Coupling.holds_moving rfl rfl (h.traverse_none hc) (h.not_collecting hc)
  · exact h

theorem startScanning_coupled (h : CarriageCoupled s) : CarriageCoupled (startScanning s) := by
  unfold startScanning
  dsimp only
  split
  · rename_i hc
    replace hc : s.frame.carriage = .parked := hc
    exact beginApproach_coupled (h.traverse_none hc) (h.not_collecting hc)
      (h.no_request hc) (h.no_target hc) (h.no_stall hc)
  · exact h

theorem startRequest_coupled (h : CarriageCoupled s) : CarriageCoupled (startRequest s) := by
  unfold startRequest
  split
  · exact startScanning_coupled h
  · exact h

theorem declareBreak_coupled (source : BreakSource) (h : CarriageCoupled s) :
    CarriageCoupled (declareBreak source s) := by
  unfold declareBreak
  dsimp only
  split
  · exact parkRequest_coupled h
  · exact coupled_of_eq h (markTraverse_coupling _)

/-- The state in which a break has ended, before the settings ask for anything (R147). -/
def State.restored (s : State) : State :=
  raise .restored (quietRuns { s with watch := { s.watch with state := .sheetOn, breakRun := 0, holdOff := none } })

/-- The run that stands when the hold-off expires, where the detector counts (R148; log 36). -/
def runStanding (s : State) : Option Nat := if detectorActive s then some s.watch.breakRun else none

/-- What holds of the restored state, and goes on to hold after the requests that the settings may make, holds of the
end of a break but for the run held (R147). -/
theorem endBreak_ind {P : State → Prop} (park : ∀ t, P t → P (parkRequest t)) (request : ∀ t, P t → P (setRequest t))
    (start : ∀ t, P t → P (startRequest t)) (h : P s.restored) :
    ∃ t, P t ∧ endBreak s = { t with watch := { t.watch with heldRun := runStanding s } } := by
  have asked (b : Bool) (f : State → State) (hf : ∀ t, P t → P (f t)) (t : State) (ht : P t) :
      P (if b then f t else t) := by
    cases b
    · exact ht
    · exact hf t ht
  exact ⟨_, asked _ _ start _ (asked _ _ request _ (asked _ _ park _ h)), rfl⟩

theorem endBreak_coupled (h : CarriageCoupled s) : CarriageCoupled (endBreak s) := by
  obtain ⟨t, ht, e⟩ := endBreak_ind (P := fun t => CarriageCoupled t) (fun _ => parkRequest_coupled)
    (fun _ => setRequest_coupled) (fun _ => startRequest_coupled) h
  exact ht.of_state e

/-! ### The consumers of a sample -/

theorem detect_coupled (tr : Conditioned) (h : CarriageCoupled s) : CarriageCoupled (detect tr s) := by
  unfold detect
  split
  · exact h
  · split
    · split
      · exact declareBreak_coupled _ h
      · exact h
    · exact h

theorem watchTakes_coupled (x : Sample) (h : CarriageCoupled s) : CarriageCoupled (watchTakes x s) := by
  have reset : CarriageCoupled (gapResetRuns x s) := coupled_of_eq h (gapResetRuns_coupling s x)
  unfold watchTakes
  dsimp only
  split
  · exact reset
  · split
    · exact detect_coupled _ reset
    · split
      · exact coupled_of_eq reset (lookForSheet_coupling _ _)
      · exact reset

/-- The end of a standardize, its collection ended already (R103). -/
theorem standardizeEnded_coupled (traverse : s.coupling.traverse = none) (collecting : s.coupling.collecting = false)
    (request : s.coupling.request = false) (target : s.coupling.target = false) (stall : s.coupling.stall = false) :
    CarriageCoupled (standardizeEnded s) := by
  rw [carriageCoupled_iff, standardizeEnded, watchStandardizeEnd_coupling]
  split
  · exact beginApproach_coupled traverse collecting request target stall
  · exact Coupling.holds_parked traverse collecting request target stall

/-- A running collection that has been ended leaves what the end of a standardize starts from. -/
theorem standardizeEnded_coupled_of_collecting (h : CarriageCoupled s) (hc : s.standardize.collection.isSome = true)
    (e : t.coupling = { s.coupling with collecting := false, request := false }) :
    CarriageCoupled (standardizeEnded t) := by
  have carriage : s.frame.carriage = .standardizing := by simpa [hc] using h.2.1.symm
  exact standardizeEnded_coupled (by rw [e]; exact h.traverse_none carriage) (by rw [e]) (by rw [e])
    (by rw [e]; exact h.no_target carriage) (by rw [e]; exact h.no_stall carriage)

theorem standardizeTakes_coupled (x : Sample) (h : CarriageCoupled s) : CarriageCoupled (standardizeTakes x s) := by
  unfold standardizeTakes
  split
  · exact h
  · rename_i c hc
    have runs : s.standardize.collection.isSome = true := by simp [hc]
    split
    · dsimp only
      split
      · refine standardizeEnded_coupled_of_collecting h runs ?_
        rw [raiseIf_coupling, raiseIf_coupling, endCollection_coupling]
        show Coupling.mk _ _ _ _ _ _ _ = _
        simp [State.coupling]
      · exact coupled_of_eq h (by simp [State.coupling, runs])
    · exact h

theorem notePosition_coupled (p : Nat) (h : CarriageCoupled s) : CarriageCoupled (notePosition p s) := by
  by_cases hc : s.frame.carriage = .unreferenced ∨ s.frame.carriage = .halted
  · rw [notePosition_passive p s hc]
    exact h
  · rw [not_or] at hc
    rw [notePosition_active p s hc.1 hc.2]
    obtain ⟨traverse, collecting, target, stall, _, request⟩ := h
    exact ⟨traverse, collecting, target, stall, fun _ => hc, request⟩

theorem arriveAtPark_coupled (h : CarriageCoupled s) (hc : s.frame.carriage = .parking) :
    CarriageCoupled (arriveAtPark s) := by
  have traverse : (watchArrival (endMove s)).coupling.traverse = none := by
    rw [watchArrival_coupling]; exact h.traverse_none hc
  have collecting : (watchArrival (endMove s)).coupling.collecting = false := by
    rw [watchArrival_coupling]; exact h.not_collecting hc
  have target : (watchArrival (endMove s)).coupling.target = false := by rw [watchArrival_coupling]; rfl
  have stall : (watchArrival (endMove s)).coupling.stall = false := by rw [watchArrival_coupling]; rfl
  unfold arriveAtPark
  dsimp only
  split
  · exact Coupling.holds_standardizing traverse target stall
  · rename_i hr
    have request : (watchArrival (endMove s)).coupling.request = false := (Bool.not_eq_true _).mp hr
    split
    · exact beginApproach_coupled traverse collecting request target stall
    · exact Coupling.holds_parked traverse collecting request target stall

theorem reverse_coupled (d : Direction) (h : CarriageCoupled s) (hc : s.frame.carriage = .traverse .scanning d) :
    CarriageCoupled (reverse d s) := by
  have dropped (t : State) (e : t.coupling = { s.coupling with traverse := none }) :
      CarriageCoupled (if !t.frame.scanOn || t.standardize.request then goPark t
        else openTraverse (otherDirection d) t) := by
    have traverse : t.coupling.traverse = none := by rw [e]
    have collecting : t.coupling.collecting = false := by rw [e]; exact h.not_collecting hc
    have carriage : t.frame.carriage = .traverse .scanning d := (congrArg Coupling.carriage e).trans hc
    split
    · exact goPark_coupled traverse collecting
    · exact openTraverse_coupled _ (by simp [carriage]) traverse collecting
  refine dropped _ ?_
  split <;> simp

theorem frameTakes_coupled (x : Sample) (h : CarriageCoupled s) : CarriageCoupled (frameTakes x s) := by
  have noted := notePosition_coupled x.frame.position h
  unfold frameTakes
  dsimp only
  split
  case h_1 hc =>
    split
    · exact arriveAtPark_coupled noted hc
    · exact noted
  case h_2 d hc =>
    split
    · refine openTraverse_coupled d ?_ (noted.traverse_none hc) (noted.not_collecting hc)
      rw [endMove_frame, hc]
      simp
    · exact noted
  case h_3 d hc =>
    split
    · exact reverse_coupled d noted hc
    · exact noted
  case h_4 hc =>
    split
    · exact Coupling.holds_dwelling (.inl rfl) (noted.traverse_none hc) (noted.not_collecting hc)
    · exact noted
  case h_5 => exact coupled_of_eq noted (feedWindows_coupling _ x)
  case h_6 hc =>
    split
    · rw [carriageCoupled_iff, startProbeDwell, watchDwellStart_coupling]
      exact Coupling.holds_dwelling (.inr rfl) (noted.traverse_none hc) (noted.not_collecting hc)
    · exact noted
  all_goals exact noted

theorem Consumer.takes_coupled (x : Sample) (c : Consumer) (h : CarriageCoupled s) : CarriageCoupled (c.takes x s) := by
  rw [Consumer.takes_eq]
  refine coupled_of_eq ?_ (noteMoment_coupling _ _)
  cases c with
  | frameController => exact frameTakes_coupled x h
  | breakWatch => exact watchTakes_coupled x h
  | standardizeUnit => exact standardizeTakes_coupled x h
  | stream => exact coupled_of_eq h (streamTakes_coupling s x)

theorem takeSample_coupled (f : SampleFrame) (h : CarriageCoupled s) : CarriageCoupled (takeSample f s) := by
  rw [takeSample_eq]
  refine foldl_takes_rel (R := fun s t => CarriageCoupled s → CarriageCoupled t) _ _ _ (fun _ => id)
    (fun h k => k ∘ h) (fun c _ u => c.takes_coupled _) ?_
  refine coupled_of_eq h ?_
  show (beforeConsumers f s).coupling = _
  rw [beforeConsumers, binningTakes_coupling, conditionerTakes_coupling]
  rfl

end Sys2Proof.Machine

/-! ## What the owners of the commands can leave, and the coupling row by row (O6) -/

namespace Sys2Proof.Machine

variable {s t : State}

/-! ### What the owner of a table or store command can leave -/

section
variable (s : State)

theorem writeCurve_state (a : CurveArgs) :
    ∃ r, (writeCurve a s).state = { s with tables := { s.tables with curve := r } } := by
  unfold writeCurve
  split
  · exact ⟨_, rfl⟩
  · split <;> exact ⟨_, rfl⟩

theorem writeBias_state (a : Nat × List BiasArgs) :
    ∃ r, (writeBias a s).state = { s with tables := { s.tables with bias := r } } := by
  unfold writeBias
  split
  · exact ⟨_, rfl⟩
  · split
    · exact ⟨_, rfl⟩
    · split <;> exact ⟨_, rfl⟩

theorem writeStdf_state (a : Nat × List Nat) :
    ∃ r, (writeStdf a s).state = { s with tables := { s.tables with stdf := r } } := by
  unfold writeStdf
  split
  · exact ⟨_, rfl⟩
  · split <;> exact ⟨_, rfl⟩

theorem writeMap_state (a : MapArgs) :
    ∃ x y, (writeMap a s).state = { s with tables := { s.tables with mapA := x, mapB := y } } := by
  unfold writeMap
  split
  · exact ⟨_, _, rfl⟩
  · rename_i l _
    split
    · exact ⟨_, _, rfl⟩
    · split
      · exact ⟨_, _, rfl⟩
      · cases l <;> exact ⟨_, _, rfl⟩

theorem writeSheet_state (a : SheetArgs) :
    ∃ x, (x = s.tables.sheet ∨ validSheet a = some x) ∧
      (writeSheet a s).state = { s with tables := { s.tables with sheet := x } } := by
  unfold writeSheet
  split
  · exact ⟨_, .inl rfl, rfl⟩
  · split
    · exact ⟨_, .inl rfl, rfl⟩
    · rename_i x hx
      split
      · exact ⟨_, .inl rfl, rfl⟩
      · exact ⟨x, .inr hx, rfl⟩

theorem writeFrame_state (a : FrameSettings) :
    ∃ x, (writeFrame a s).state = { s with tables := { s.tables with frame := x } } := by
  unfold writeFrame
  split <;> exact ⟨_, rfl⟩

theorem writeChannel_state (a : Nat × Nat × Nat) :
    ∃ x, (writeChannel a s).state = { s with tables := { s.tables with enables := x } } := by
  unfold writeChannel
  split <;> exact ⟨_, rfl⟩

/-- A MONITOR write leaves as many monitors, each an old one or a fresh one (R152). -/
theorem writeMonitor_state (a : Nat × List MonitorArgs) :
    ∃ l, (s.monitors.length = 8 → l.length = 8) ∧ (∀ m ∈ l, m ∈ s.monitors ∨ m.count = 0) ∧
      (writeMonitor a s).state = { s with monitors := l } := by
  unfold writeMonitor
  split
  · exact ⟨_, id, fun _ => .inl, rfl⟩
  · split
    · exact ⟨_, id, fun _ => .inl, rfl⟩
    · rename_i room
      split
      · exact ⟨_, id, fun _ => .inl, rfl⟩
      · rename_i rs hrs
        have len := (mapM_some_mem hrs).1
        refine ⟨_, fun h => ?_, fun m hm => ?_, rfl⟩
        · rw [writeAt_length _ _ _ (by simp; omega), h]
        · simp only [writeAt, List.mem_append] at hm
          rcases hm with (hm | hm) | hm
          · exact .inl (List.mem_of_mem_take hm)
          · obtain ⟨r, _, rfl⟩ := List.mem_map.mp hm
            exact .inr rfl
          · exact .inl (List.mem_of_mem_drop hm)

theorem writeSlotHeader_state (a : Nat × Nat × Nat) : ∃ l, l.length = s.profile.slots.length ∧
    (writeSlotHeader a s).state = { s with profile := { s.profile with slots := l } } := by
  unfold writeSlotHeader
  split
  · exact ⟨_, rfl, rfl⟩
  · exact ⟨_, List.length_set .., rfl⟩

theorem writeSlotImage_state (a : ImageArgs) : ∃ l, l.length = s.profile.slots.length ∧
    (writeSlotImage a s).state = { s with profile := { s.profile with slots := l } } := by
  unfold writeSlotImage
  split
  · exact ⟨_, rfl, rfl⟩
  · split
    · exact ⟨_, rfl, rfl⟩
    · split
      · exact ⟨_, rfl, rfl⟩
      · split
        · exact ⟨_, rfl, rfl⟩
        · split
          · exact ⟨_, rfl, rfl⟩
          · exact ⟨_, List.length_set .., rfl⟩

theorem saveProfile_state (a : Nat × Nat) : ∃ l, l.length = s.profile.slots.length ∧
    (saveProfile a s).state = { s with profile := { s.profile with slots := l } } := by
  unfold saveProfile
  split
  · exact ⟨_, rfl, rfl⟩
  · split
    · exact ⟨_, rfl, rfl⟩
    · split
      · exact ⟨_, rfl, rfl⟩
      · exact ⟨_, List.length_set .., rfl⟩

theorem restoreProfile_state (k : Nat) : ∃ p, (p = s.profile ∨ ∃ id x, p = s.profile.restoreTo id x) ∧
    (restoreProfile k s).state = { s with profile := p } := by
  unfold restoreProfile
  split
  · exact ⟨_, .inl rfl, rfl⟩
  · split
    · exact ⟨_, .inl rfl, rfl⟩
    · split
      · exact ⟨_, .inl rfl, rfl⟩
      · split
        · exact ⟨_, .inl rfl, rfl⟩
        · split
          · exact ⟨_, .inl rfl, rfl⟩
          · exact ⟨_, .inr ⟨_, _, rfl⟩, rfl⟩

theorem clearProfile_state (a : Unit) : ∃ p, (p = s.profile ∨ ∃ id, p = s.profile.clearTo id .cleared) ∧
    (clearProfile a s).state = { s with profile := p } := by
  unfold clearProfile
  split
  · exact ⟨_, .inl rfl, rfl⟩
  · split
    · exact ⟨_, .inl rfl, rfl⟩
    · exact ⟨_, .inr ⟨_, rfl⟩, rfl⟩

/-! ### What the other owners that answer or set can leave -/

theorem readTable_state (a : ReadArgs) : (readTable a s).state = s := by
  unfold readTable
  split <;> rfl

theorem readFixed_state (n : Nat) : (readFixed n s).state = s := by
  unfold readFixed
  split
  · rfl
  · split <;> rfl

theorem readProfile_state (n : Nat) : (readProfile n s).state = s := by
  unfold readProfile
  split
  · rfl
  · split
    · rfl
    · split <;> rfl

theorem readTrend_state (n : Nat) : (readTrend n s).state = s := by
  unfold readTrend
  split <;> rfl

theorem clearConditions_state (n : Nat) :
    ∃ b, (clearConditions n s).state = { s with conditions := { s.conditions with flags := b } } := by
  unfold clearConditions
  split <;> exact ⟨_, rfl⟩

theorem setMask_state (n : Nat) :
    ∃ b, (setMask n s).state = { s with conditions := { s.conditions with unmasked := b } } := by
  unfold setMask
  split <;> exact ⟨_, rfl⟩

/-- PUSH_CONTEXT refuses, raises at a full queue, or joins a context to one with room (R114). -/
theorem pushContext_state (a : ContextArgs) : (pushContext a s).state = s ∨
    (pushContext a s).state = raise .queueOverflow s ∨
    ∃ c, s.contexts.queue.length < 4 ∧
      (pushContext a s).state = { s with contexts := { s.contexts with queue := s.contexts.queue ++ [c] } } := by
  unfold pushContext
  split
  · exact .inl rfl
  · split
    · exact .inr (.inl rfl)
    · rename_i room
      exact .inr (.inr ⟨_, Nat.lt_of_not_le room, rfl⟩)

theorem flushQueue_state (a : Unit) : (flushQueue a s).state = s ∨
    (flushQueue a s).state = { s with contexts := { s.contexts with queue := [] } } := by
  unfold flushQueue
  split
  · exact .inl rfl
  · exact .inr rfl

/-- PASS_DOWN refuses, counts and raises at a full queue, or joins a payload to one with room (R190). -/
theorem passDown_state (p : List Byte) : (passDown p s).state = s ∨
    (passDown p s).state = raise .linkError (countPassDropped s) ∨
    (s.port.passDown.length < 4 ∧
      (passDown p s).state = { s with port := { s.port with passDown := s.port.passDown ++ [p] } }) := by
  unfold passDown
  split
  · exact .inl rfl
  · split
    · rename_i room
      exact .inr (.inr ⟨room, rfl⟩)
    · exact .inr (.inl rfl)

end

/-! ### The commands of the carriage -/

section
variable (h : CarriageCoupled s)
include h

theorem standardizeCommand_coupled (a : Unit) : CarriageCoupled (standardizeCommand a s).state := by
  unfold standardizeCommand
  split
  case h_1 | h_2 | h_3 => exact h
  all_goals exact setRequest_coupled h

theorem parkCommand_coupled (a : Unit) : CarriageCoupled (parkCommand a s).state := by
  unfold parkCommand
  split
  case h_1 | h_2 => exact h
  case h_3 hc =>
    refine goPark_coupled ?_ ?_ <;> rw [abandonCollection_coupling]
    exact h.traverse_none hc
  case h_8 hc =>
    split
    · exact startSilence_goPark_coupled (h.traverse_none hc) (h.not_collecting hc)
    · exact h
  all_goals
    rename_i hc
    exact goPark_coupled (by simp) (by simpa using h.not_collecting hc)

theorem startCommand_coupled (a : Unit) : CarriageCoupled (startCommand a s).state := by
  unfold startCommand
  split
  · exact h
  · exact startScanning_coupled h

theorem stopCommand_coupled (a : Unit) : CarriageCoupled (stopCommand a s).state := by
  unfold stopCommand
  dsimp only
  split
  case h_1 hc | h_2 hc => exact goPark_coupled (h.traverse_none hc) (h.not_collecting hc)
  all_goals exact h

theorem resumeCommand_coupled (a : Unit) : CarriageCoupled (resumeCommand a s).state := by
  unfold resumeCommand
  split
  case h_1 hc =>
    split
    · exact h
    · rename_i context
      split
      · exact h
      · obtain ⟨c, hg⟩ : ∃ c, governing (setScanOn true s) = some c := by
          rw [← Option.isSome_iff_exists]
          show (s.contexts.queue.head?.or s.contexts.inEffect).isSome = true
          cases hq : s.contexts.queue <;> simp_all [Option.isSome_iff_ne_none]
        rw [carriageCoupled_iff, accept, beginApproach_coupling hg]
        exact Coupling.holds_moving rfl rfl (h.traverse_none hc) (h.not_collecting hc)
  all_goals exact h

theorem goFixed_coupled (p : Nat) (hc : s.frame.carriage ≠ .standardizing) : CarriageCoupled (goFixed p s) := by
  refine Coupling.holds_moving (k := (abandonTraverse .fixed (setScanOn false s)).coupling) rfl rfl ?_ ?_
  · simp
  · simpa using h.not_collecting rfl hc

theorem fixedPointCommand_coupled (p : Nat) : CarriageCoupled (fixedPointCommand p s).state := by
  unfold fixedPointCommand
  split
  · exact h
  · split
    case h_1 | h_2 | h_3 | h_4 => exact h
    all_goals
      rename_i hc
      split
      · exact h
      · exact goFixed_coupled h p (by simp [hc])

theorem sheetNotice_coupled (k : Nat) : CarriageCoupled (sheetNotice k s).state := by
  unfold sheetNotice
  split
  · show CarriageCoupled (breakNotice s)
    unfold breakNotice
    split
    case h_1 | h_2 => exact declareBreak_coupled _ h
    all_goals exact h
  · show CarriageCoupled (restoredNotice s)
    unfold restoredNotice
    split <;> exact h
  · exact h

/-- RESTART sends a carriage that is away from park there, and leaves the others (R113). -/
theorem restartCommand_coupled (a : Unit) : CarriageCoupled (restartCommand a s).state := by
  show CarriageCoupled (restartCarriage (restartBlocks (abandonCollection s)))
  have blocks : (restartBlocks (abandonCollection s)).coupling =
      { s.coupling with traverse := none, collecting := false, request := false } := by
    rw [restartBlocks_abandonCollection]
    rfl
  have traverse : (restartBlocks (abandonCollection s)).coupling.traverse = none := by rw [blocks]
  have collecting : (restartBlocks (abandonCollection s)).coupling.collecting = false := by rw [blocks]
  have carriage : (restartBlocks (abandonCollection s)).frame.carriage = s.frame.carriage :=
    congrArg Coupling.carriage blocks
  have ⟨_, _, target, stall, silence, _⟩ := h
  unfold restartCarriage
  split
  case h_1 hc | h_2 hc | h_3 hc =>
    rw [carriageCoupled_iff, blocks]
    rw [carriage] at hc
    exact ⟨by simp [State.coupling, hc, Carriage.scanningDirection], by simp [State.coupling, hc], target, stall,
      silence, fun _ => rfl⟩
  case h_4 hc =>
    rw [carriage] at hc
    refine Coupling.holds_parked traverse collecting (by rw [blocks]) ?_ ?_
    · rw [blocks]; exact h.no_target hc
    · rw [blocks]; exact h.no_stall hc
  all_goals exact goPark_coupled traverse collecting

end

/-! ### Events -/

theorem haltFor_coupled (c : Condition) (s : State) : CarriageCoupled (haltFor c s) := by
  rw [carriageCoupled_iff, haltFor, abortCollection_coupling, abandonCollection_coupling]
  simp only [raise_coupling, sendStop_coupling, haltCarriage_coupling]
  exact Coupling.holds_halted (k := { s.coupling with traverse := none, collecting := false, request := _ }) rfl rfl

theorem driveFault_coupled (s : State) : CarriageCoupled (driveFault s) := by
  rw [carriageCoupled_iff, driveFault, raise_coupling, sendStop_coupling, abandonCollection_coupling]
  simp only [haltCarriage_coupling]
  exact Coupling.holds_halted (k := { s.coupling with traverse := none, collecting := false, request := _ }) rfl rfl

theorem takeDriveStatus_coupled (d : DriveStatus) (h : CarriageCoupled s) : CarriageCoupled (takeDriveStatus d s) := by
  unfold takeDriveStatus
  dsimp only
  split
  case h_1 hc =>
    split
    · have target := h.no_target hc
      have stall := h.no_stall hc
      exact coupled_of_eq h (by simp_all [State.coupling])
    · split
      · exact startSilence_goPark_coupled (h.traverse_none hc) (h.not_collecting hc)
      · exact h
  case h_2 => exact coupled_of_eq h (raiseIf_coupling _ _ _)
  all_goals
    split
    · exact driveFault_coupled _
    · exact h

theorem silenceExpires_coupled (h : CarriageCoupled s) : CarriageCoupled (silenceExpires s) := by
  have ⟨traverse, collecting, target, stall, _, request⟩ := h
  unfold silenceExpires
  dsimp only
  split
  case h_6 | h_7 | h_8 => exact ⟨traverse, collecting, target, stall, nofun, request⟩
  all_goals exact haltFor_coupled _ _

theorem stallExpires_coupled {k : StallTimer} (hk : s.frame.stall = some k) (h : CarriageCoupled s) :
    CarriageCoupled (stallExpires k s) := by
  have restarted (x : StallTimer) : CarriageCoupled { s with frame := { s.frame with stall := some x } } :=
    coupled_of_eq h (by simp [State.coupling, hk])
  unfold stallExpires
  split
  · dsimp only
    split
    · exact haltFor_coupled _ _
    · exact restarted _
  · exact restarted _

theorem completeReport_coupled (bank : Bank) (p : ClosingParams) (m : MeansResults) (st : StatsResults)
    (mons : List MonitorResult) (h : CarriageCoupled s) : CarriageCoupled (completeReport bank p m st mons s) := by
  refine checkDue_coupled (coupled_of_eq h ?_)
  rw [applyPending_coupling, placeReport_eq]
  rfl

theorem arbitrate_coupling (s : State) : (arbitrate s).coupling = s.coupling := by
  unfold arbitrate
  split <;> rfl

/-! ### Every row -/

theorem serve_coupled {α : Type} {row : CommandRow} {parse : List Byte → Option α} {owner : α → State → Answer}
    (h : ∀ a u, CarriageCoupled u → CarriageCoupled (owner a u).state) (hs : CarriageCoupled s) :
    CarriageCoupled (serve row parse owner s) := by
  rcases serve_cases row parse owner s with e | ⟨f, rest, st, e⟩ | ⟨f, rest, a, _, _, _, e⟩ <;> rw [e]
  · exact hs
  · exact hs
  · exact h a (s.taken f rest) hs

theorem settle_coupled (h : CarriageCoupled s) : CarriageCoupled (settle s) := coupled_of_eq h (settle_coupling s)

theorem coupled_reset : CarriageCoupled State.reset := by decide

theorem exec_coupled (i : Instr) (hs : CarriageCoupled s) (h : exec i s = .next t) : CarriageCoupled t := by
  cases i
  all_goals obtain rfl := Host.Outcome.next.inj h
  case powerOnReset => exact coupled_reset
  case sample f => exact settle_coupled (takeSample_coupled f hs)
  case headAnnounce | millFrameCompleted | carriageTransmit | carriageFrameCompleted => exact hs
  case millisecondTick =>
    exact coupled_of_eq hs (by simp [State.coupling, tickTimers])
  case driveStatus d => exact settle_coupled (takeDriveStatus_coupled d hs)
  case passUp p =>
    refine settle_coupled (coupled_of_eq hs ?_)
    unfold queuePassUp
    split <;> rfl
  case command f =>
    refine settle_coupled (coupled_of_eq hs ?_)
    unfold queueCommand
    split <;> rfl
  case frameCheckFailure l c =>
    refine settle_coupled (coupled_of_eq hs ?_)
    cases l <;> rfl
  case syncPairFound l =>
    split
    · cases l <;> exact hs
    · exact hs
  case millTransmit =>
    split
    · exact coupled_of_eq hs (arbitrate_coupling s)
    · exact hs
  case silenceTimerExpiry =>
    split
    · exact settle_coupled (silenceExpires_coupled hs)
    · exact hs
  case stallTimerExpiry =>
    split
    · rename_i k hk
      split
      · exact settle_coupled (stallExpires_coupled hk hs)
      · exact hs
    · exact hs
  case stdTimerExpiry =>
    split
    · rename_i c hc
      split
      · have runs : s.standardize.collection.isSome = true := by rw [hc]; rfl
        refine settle_coupled (standardizeEnded_coupled_of_collecting hs runs ?_)
        rw [raise_coupling, abandonCollection_coupling]
        simp [State.coupling, runs]
      · exact hs
    · exact hs
  case probeTimerExpiry =>
    split
    · exact probeRequest_coupled hs
    · exact hs
  case probeDwellExpiry =>
    split
    · exact parkRequest_coupled hs
    · exact hs
  case holdOffExpiry =>
    split
    · exact settle_coupled (endBreak_coupled hs)
    · exact hs
  case meansComplete | statsComplete => split <;> exact hs
  case filterComplete =>
    split
    · exact settle_coupled (coupled_of_eq hs (raiseIf_coupling _ _ _))
    · exact hs
  case monitorsComplete =>
    split
    · exact settle_coupled (coupled_of_eq hs ((raiseIf_coupling _ _ _).trans (raiseIf_coupling _ _ _)))
    · exact hs
  case reportComplete =>
    split
    · exact completeReport_coupled _ _ _ _ _ hs
    · exact hs
  case startScan => exact serve_coupled (fun a _ hu => startCommand_coupled hu a) hs
  case stopScan => exact serve_coupled (fun a _ hu => stopCommand_coupled hu a) hs
  case park => exact serve_coupled (fun a _ hu => parkCommand_coupled hu a) hs
  case resume => exact serve_coupled (fun a _ hu => resumeCommand_coupled hu a) hs
  case fixedPoint => exact serve_coupled (fun a _ hu => fixedPointCommand_coupled hu a) hs
  case standardize => exact serve_coupled (fun a _ hu => standardizeCommand_coupled hu a) hs
  case sheetNotice => exact settle_coupled (serve_coupled (fun a _ hu => sheetNotice_coupled hu a) hs)
  case restart => exact serve_coupled (fun a _ hu => restartCommand_coupled hu a) hs
  case writeTableCurve => exact serve_coupled (fun a u hu => have ⟨_, e⟩ := writeCurve_state u a; hu.of_state e) hs
  case writeTableBias => exact serve_coupled (fun a u hu => have ⟨_, e⟩ := writeBias_state u a; hu.of_state e) hs
  case writeTableStdf => exact serve_coupled (fun a u hu => have ⟨_, e⟩ := writeStdf_state u a; hu.of_state e) hs
  case writeTableMap => exact serve_coupled (fun a u hu => have ⟨_, _, e⟩ := writeMap_state u a; hu.of_state e) hs
  case writeTableMonitor =>
    exact serve_coupled (fun a u hu => have ⟨_, _, _, e⟩ := writeMonitor_state u a; hu.of_state e) hs
  case writeTableSheet => exact serve_coupled (fun a u hu => have ⟨_, _, e⟩ := writeSheet_state u a; hu.of_state e) hs
  case writeTableFrame => exact serve_coupled (fun a u hu => have ⟨_, e⟩ := writeFrame_state u a; hu.of_state e) hs
  case writeTableChannel => exact serve_coupled (fun a u hu => have ⟨_, e⟩ := writeChannel_state u a; hu.of_state e) hs
  case writeTableSlotHeader =>
    exact serve_coupled (fun a u hu => have ⟨_, _, e⟩ := writeSlotHeader_state u a; hu.of_state e) hs
  case writeTableSlotImage =>
    exact serve_coupled (fun a u hu => have ⟨_, _, e⟩ := writeSlotImage_state u a; hu.of_state e) hs
  case saveProfile => exact serve_coupled (fun a u hu => have ⟨_, _, e⟩ := saveProfile_state u a; hu.of_state e) hs
  case restoreProfile =>
    exact serve_coupled (fun a u hu => have ⟨_, _, e⟩ := restoreProfile_state u a; hu.of_state e) hs
  case clearProfile => exact serve_coupled (fun a u hu => have ⟨_, _, e⟩ := clearProfile_state u a; hu.of_state e) hs
  case clearConditions => exact serve_coupled (fun a u hu => have ⟨_, e⟩ := clearConditions_state u a; hu.of_state e) hs
  case setMask => exact serve_coupled (fun a u hu => have ⟨_, e⟩ := setMask_state u a; hu.of_state e) hs
  case flushQueue =>
    exact serve_coupled (fun a u hu => (flushQueue_state u a).elim (fun e => hu.of_state e) fun e => hu.of_state e) hs
  case pushContext =>
    refine settle_coupled (serve_coupled (fun a u hu => ?_) hs)
    obtain e | e | ⟨_, _, e⟩ := pushContext_state u a <;> exact hu.of_state e
  case passDown =>
    refine settle_coupled (serve_coupled (fun a u hu => ?_) hs)
    obtain e | e | ⟨_, e⟩ := passDown_state u a <;> exact hu.of_state e
  case readTable => exact serve_coupled (fun a u hu => hu.of_state (readTable_state u a)) hs
  case readFixed => exact serve_coupled (fun a u hu => hu.of_state (readFixed_state u a)) hs
  case readProfile => exact serve_coupled (fun a u hu => hu.of_state (readProfile_state u a)) hs
  case readTrend => exact serve_coupled (fun a u hu => hu.of_state (readTrend_state u a)) hs
  case readStatus | writeTableUnknownRegion | unknownCommandCode | lockCalibration | ackAlarm | clearCounters
    | setStream =>
    exact serve_coupled (fun _ _ hu => hu) hs

/-- Settles O6: the carriage state stays coupled with what goes with it, row by row. -/
theorem stepKeepsCarriageCoupled : Obligations.StepKeepsCarriageCoupled := by
  unfold Obligations.StepKeepsCarriageCoupled
  intro s t hs h
  unfold step at h
  split at h
  · obtain rfl := Host.Outcome.next.inj h
    exact hs
  · rename_i c rest _
    exact exec_coupled (s := s.withPending rest) c hs h

end Sys2Proof.Machine

/-! ## What is counted and queued: bounds of the parts (O9) -/

namespace Sys2Proof.Machine

variable {s t : State}

/-! ### What the capacities read of a state -/

/-- The queues, rings, windows, counts and numbers that `WithinCapacity` bounds, the raisings of the step apart. -/
structure Extent where
  inbound : List CommandFrame
  alarms : List AlarmFrame
  counters : Counters
  queue : List Context
  passUp : List (List Byte)
  reports : List ReportFrame
  millNext : Nat
  decimation : Nat
  decimationCount : Nat
  passDown : List (List Byte)
  portNext : Nat
  trend : List TrendRecord
  slots : List (Option SaveSlot)
  records : PerProfile (List SliceRecord)
  windows : PerProfile (List Nat)
  monitors : List Monitor
  counter : Nat
  scanNumber : Nat
  bank : Bank
  clock : Nat
  traverse : Option OpenTraverse
  breakRun : Nat
  heldRun : Option Nat
  sheetRun : Nat
  sheet : SheetSettings

def State.extent (s : State) : Extent where
  inbound := s.handler.inbound
  alarms := s.conditions.alarms
  counters := s.conditions.counters
  queue := s.contexts.queue
  passUp := s.mill.passUp
  reports := s.mill.reports
  millNext := s.mill.transmitter.next
  decimation := s.mill.decimation
  decimationCount := s.mill.decimationCount
  passDown := s.port.passDown
  portNext := s.port.transmitter.next
  trend := s.profile.trend
  slots := s.profile.slots
  records := s.profile.records
  windows := s.frame.windows
  monitors := s.monitors
  counter := s.standardize.counter
  scanNumber := s.closeOut.scanNumber
  bank := s.closeOut.engine.bank
  clock := s.clock
  traverse := s.binning.openTraverse
  breakRun := s.watch.breakRun
  heldRun := s.watch.heldRun
  sheetRun := s.watch.sheetRun
  sheet := s.tables.sheet

/-- Every accumulator has counted at most 4095 values (R50). -/
def Bank.Within (b : Bank) : Prop := ∀ a ∈ b, ∀ c : ProfileChannel, (a.get c).count ≤ 4095

/-- No slice record is older than 15 scans (R70). -/
def AgesWithin (p : PerProfile (List SliceRecord)) : Prop := ∀ c : ProfileChannel, ∀ r ∈ p.get c, r.age ≤ 15

/-- The bounds, one by one. -/
structure Extent.Within (e : Extent) : Prop where
  inbound : e.inbound.length ≤ 8
  alarms : e.alarms.length ≤ 8
  counters : e.counters.bounded = true
  queue : e.queue.length ≤ 4
  passUp : e.passUp.length ≤ 4
  notices : noticeCount e.reports ≤ 1
  reports : e.reports.countP ReportFrame.isProfile ≤ 4
  millNext : e.millNext ≤ 255
  decimation : e.decimation ≤ 255
  decimationCount : e.decimationCount ≤ 254
  passDown : e.passDown.length ≤ 4
  portNext : e.portNext ≤ 255
  trend : e.trend.length ≤ 64
  slots : e.slots.length = 4
  ages : AgesWithin e.records
  windows : ∀ c : ProfileChannel, (e.windows.get c).length ≤ 64
  monitors : e.monitors.length = 8
  counts : ∀ m ∈ e.monitors, m.count ≤ 15
  counter : e.counter ≤ 255
  scanNumber : e.scanNumber ≤ 65535
  bank : e.bank.Within
  clock : e.clock < 4294967296
  traverse : ∀ o, e.traverse = some o → Bank.Within o.bank ∧ o.finder.bounded = true
  breakRun : e.breakRun ≤ 255
  heldRun : ∀ k, e.heldRun = some k → k ≤ 255
  sheetRun : e.sheetRun ≤ 255
  nBreak : e.sheet.nBreak ≤ 255
  m : e.sheet.m ≤ 15

/-- Every bound of `WithinCapacity` but that of the raisings, which a step breaks until it settles. -/
abbrev Bounded (s : State) : Prop := s.extent.Within

theorem bankBounded_iff (b : Bank) : bankBounded b = true ↔ b.Within := by
  simp only [bankBounded, List.all_eq_true, ProfileChannel.mem_all, forall_const, decide_eq_true_eq]
  exact Iff.rfl

theorem agesBounded_iff (p : PerProfile (List SliceRecord)) : agesBounded p = true ↔ AgesWithin p := by
  simp only [agesBounded, List.all_eq_true, ProfileChannel.mem_all, forall_const, decide_eq_true_eq]
  exact Iff.rfl

theorem windowsBounded_iff (w : PerProfile (List Nat)) :
    windowsBounded w = true ↔ ∀ c : ProfileChannel, (w.get c).length ≤ 64 := by
  simp only [windowsBounded, List.all_eq_true, ProfileChannel.mem_all, forall_const, decide_eq_true_eq]
  exact Iff.rfl

theorem withinCapacity_iff : WithinCapacity s ↔ Bounded s ∧ s.conditions.raised = [] := by
  constructor
  · rintro ⟨⟨inbound, alarms, queue, passUp, passDown, trend, windows, notices, reports, monitors, slots, raised⟩,
      counters, counter, scanNumber, clock, millNext, portNext, traverse, bank, counts, ages, breakRun, heldRun,
      sheetRun, nBreak, m, decimation, decimationCount⟩
    refine ⟨⟨inbound, alarms, counters, queue, passUp, notices, reports, millNext, decimation, decimationCount,
      passDown, portNext, trend, slots, (agesBounded_iff _).mp ages, (windowsBounded_iff _).mp windows, monitors,
      fun m hm => by simpa using List.all_eq_true.mp counts m hm, counter, scanNumber, (bankBounded_iff _).mp bank,
      clock, fun o ho => ?_, breakRun, fun k hk => ?_, sheetRun, nBreak, m⟩, raised⟩
    · replace ho : s.binning.openTraverse = some o := ho
      simpa [ho, bankBounded_iff] using traverse
    · replace hk : s.watch.heldRun = some k := hk
      simpa [hk] using heldRun
  · rintro ⟨h, raised⟩
    refine ⟨⟨h.inbound, h.alarms, h.queue, h.passUp, h.passDown, h.trend, (windowsBounded_iff _).mpr h.windows,
      h.notices, h.reports, h.monitors, h.slots, raised⟩, h.counters, h.counter, h.scanNumber, h.clock, h.millNext,
      h.portNext, ?_, (bankBounded_iff _).mpr h.bank, List.all_eq_true.mpr fun m hm => by simpa using h.counts m hm,
      (agesBounded_iff _).mpr h.ages,
      h.breakRun, ?_, h.sheetRun, h.nBreak, h.m, h.decimation, h.decimationCount⟩
    · cases ho : s.binning.openTraverse with
      | none => rfl
      | some o => simpa [bankBounded_iff] using h.traverse o ho
    · cases hk : s.watch.heldRun with
      | none => rfl
      | some k => simpa using h.heldRun k hk

/-! ### Counters -/

theorem Counters.bounded_iff (c : Counters) : c.bounded = true ↔
    c.gapTotal ≤ 65535 ∧ c.carriageFailures ≤ 65535 ∧ c.millFailures ≤ 65535 ∧ c.commandsDropped ≤ 65535 ∧
    c.reportsDropped ≤ 65535 ∧ c.streamDropped ≤ 65535 ∧ c.alarmsDropped ≤ 65535 ∧ c.passDropped ≤ 65535 := by
  simp only [Counters.bounded, Counters.list, List.all_cons, List.all_nil, Bool.and_true, Bool.and_eq_true,
    decide_eq_true_eq]
  exact Iff.rfl

theorem saturate_le (top n : Nat) : saturate top n ≤ top := by
  rw [saturate_eq_min]
  exact Nat.min_le_left ..

section
variable {c : Counters} (h : c.bounded = true)
include h

theorem gapTotal_bounded {n : Nat} (hn : n ≤ 65535) : Counters.bounded { c with gapTotal := n } = true := by
  simp_all [Counters.bounded_iff]

theorem carriageFailures_bounded {n : Nat} (hn : n ≤ 65535) :
    Counters.bounded { c with carriageFailures := n } = true := by
  simp_all [Counters.bounded_iff]

theorem millFailures_bounded {n : Nat} (hn : n ≤ 65535) : Counters.bounded { c with millFailures := n } = true := by
  simp_all [Counters.bounded_iff]

theorem commandsDropped_bounded {n : Nat} (hn : n ≤ 65535) :
    Counters.bounded { c with commandsDropped := n } = true := by
  simp_all [Counters.bounded_iff]

theorem reportsDropped_bounded {n : Nat} (hn : n ≤ 65535) :
    Counters.bounded { c with reportsDropped := n } = true := by
  simp_all [Counters.bounded_iff]

theorem streamDropped_bounded {n : Nat} (hn : n ≤ 65535) :
    Counters.bounded { c with streamDropped := n } = true := by
  simp_all [Counters.bounded_iff]

theorem alarmsDropped_bounded {n : Nat} (hn : n ≤ 65535) :
    Counters.bounded { c with alarmsDropped := n } = true := by
  simp_all [Counters.bounded_iff]

theorem passDropped_bounded {n : Nat} (hn : n ≤ 65535) : Counters.bounded { c with passDropped := n } = true := by
  simp_all [Counters.bounded_iff]

end

/-! ### The condition unit -/

theorem alarmLost_counters_bounded {u : ConditionUnit} (h : u.counters.bounded = true) :
    u.alarmLost.counters.bounded = true := by
  unfold ConditionUnit.alarmLost
  split
  · exact h
  · split
    · exact alarmsDropped_bounded h (saturate_le _ _)
    · exact h

theorem take_counters_bounded {u : ConditionUnit} (a : AlarmFrame) (h : u.counters.bounded = true) :
    (u.take a).counters.bounded = true := by
  obtain ⟨_, e⟩ | ⟨_, _, _, e⟩ | ⟨_, _, _, e⟩ | ⟨_, _, e⟩ := take_cases u a <;> rw [e]
  · exact h
  · exact h
  · exact alarmLost_counters_bounded (alarmsDropped_bounded h (saturate_le _ _))
  · exact h

theorem takes_counters_bounded (l : List AlarmFrame) {u : ConditionUnit} (h : u.counters.bounded = true) :
    (l.foldl ConditionUnit.take u).counters.bounded = true := by
  induction l generalizing u with
  | nil => exact h
  | cons a l ih => exact ih (take_counters_bounded a h)

theorem settle_bounded (h : Bounded s) : Bounded (settle s) := by
  obtain ⟨_, _, _, alarms, _⟩ := settle_frame s
  obtain ⟨l, pick, _, e⟩ := settle_takes s
  have counters : (settle s).conditions.counters.bounded = true := by
    rw [e]
    exact takes_counters_bounded _ h.counters
  have within : Bounded { s with conditions := (settle s).conditions, choices := (settle s).choices } :=
    { h with alarms := alarms h.alarms, counters := counters }
  rwa [← settle_eq] at within

/-! ### The carriage port -/

theorem Transmitter.start_next_le (x : Transmitter) (kind : Byte) (payload : List Byte) :
    (x.start kind payload).next ≤ 255 := by
  show (x.next + 1) % 256 ≤ 255
  omega

theorem CarriagePort.sendSlots_next_le {p : CarriagePort} (h : p.transmitter.next ≤ 255) :
    p.sendSlots.transmitter.next ≤ 255 := by
  unfold CarriagePort.sendSlots
  split
  · split <;> exact Transmitter.start_next_le ..
  · exact Transmitter.start_next_le ..
  · exact Transmitter.start_next_le ..
  · exact h
  · exact h

theorem CarriagePort.handDrive_next_le (f : DriveFrame) {p : CarriagePort} (h : p.transmitter.next ≤ 255) :
    (p.handDrive f).transmitter.next ≤ 255 :=
  CarriagePort.sendSlots_next_le (p := { p.sendSlots with drive := _, driveEarlier := _ })
    (CarriagePort.sendSlots_next_le h)

theorem CarriagePort.handHead_next_le (m : HeadMode) {p : CarriagePort} (h : p.transmitter.next ≤ 255) :
    (p.handHead m).transmitter.next ≤ 255 :=
  CarriagePort.sendSlots_next_le (p := { p.sendSlots with head := _, driveEarlier := _ })
    (CarriagePort.sendSlots_next_le h)

theorem CarriagePort.transmit_next_le {p : CarriagePort} (h : p.transmitter.next ≤ 255) :
    p.transmit.transmitter.next ≤ 255 := by
  unfold CarriagePort.transmit
  split
  · exact Transmitter.start_next_le ..
  · exact CarriagePort.sendSlots_next_le h

theorem CarriagePort.transmit_passDown_le (p : CarriagePort) : p.transmit.passDown.length ≤ p.passDown.length := by
  unfold CarriagePort.transmit
  split
  · rename_i e
    simp [e]
  · simp

/-! ### Report buffer and trend ring -/

theorem noticeCount_placeNotice (l : List ReportFrame) (n : Notice) :
    noticeCount (l.filter ReportFrame.isProfile ++ [.notice n]) = 1 := by
  simp [noticeCount, List.countP_append, List.countP_filter, ReportFrame.isProfile]

theorem countP_placeNotice (l : List ReportFrame) (n : Notice) :
    (l.filter ReportFrame.isProfile ++ [ReportFrame.notice n]).countP ReportFrame.isProfile =
      l.countP ReportFrame.isProfile := by
  have none : ReportFrame.isProfile (.notice n) = false := rfl
  simp [List.countP_append, List.countP_filter, none]

theorem noticeCount_placeReport (l : List ReportFrame) (frames : List ProfileReport) :
    noticeCount (l.filter (fun f => !f.isProfile) ++ frames.map .profile) = noticeCount l := by
  have none : (frames.map ReportFrame.profile).countP (fun f => !f.isProfile) = 0 := by
    simp [List.countP_eq_zero, ReportFrame.isProfile]
  simp [noticeCount, List.countP_append, List.countP_filter, none]

theorem countP_placeReport (l : List ReportFrame) (frames : List ProfileReport) :
    (l.filter (fun f : ReportFrame => !f.isProfile) ++ frames.map ReportFrame.profile).countP ReportFrame.isProfile =
      frames.length := by
  have all : (frames.map ReportFrame.profile).countP ReportFrame.isProfile = frames.length := by
    rw [List.countP_eq_length.mpr] <;> simp [ReportFrame.isProfile]
  simp [List.countP_append, List.countP_filter, all]

theorem profileReport_length_le (scan : Nat) (bank : Bank) (p : ClosingParams) (m : MeansResults) (st : StatsResults)
    (mons : List MonitorResult) (store : ProfileStore) :
    (profileReport scan bank p m st mons store).length ≤ 4 := List.length_filterMap_le ..

theorem appendTrend_length_le (ring : List TrendRecord) (r : TrendRecord) : (appendTrend ring r).length ≤ 64 := by
  simp [appendTrend, Config.trendCapacity]
  omega

/-! ### Accumulators and the edge finder -/

theorem Accumulator.offer_count_le {a : Accumulator} (v : Conditioned) (h : a.count ≤ 4095) :
    (a.offer v).count ≤ 4095 := by
  unfold Accumulator.offer
  split
  · unfold Accumulator.add Config.accumulatorMax
    split
    · exact h
    · show a.count + 1 ≤ 4095
      omega
  · exact h

/-- Members that are changed in one place keep what the change keeps. -/
theorem forall_mem_modify {α : Type} {P : α → Prop} {f : α → α} (hf : ∀ a, P a → P (f a)) {l : List α} (k : Nat)
    (h : ∀ a ∈ l, P a) : ∀ a ∈ l.modify k f, P a := by
  intro a ha
  obtain ⟨i, hi, rfl⟩ := List.mem_iff_getElem.mp ha
  rw [List.getElem_modify]
  split
  · exact hf _ (h _ (List.getElem_mem _))
  · exact h _ (List.getElem_mem _)

theorem binBank_within (r : MapRecord) (x : Sample) {b : Bank} (h : b.Within) : (binBank r x b).Within := by
  unfold binBank
  split
  · exact h
  · split
    · refine forall_mem_modify (fun a ha c => ?_) _ h
      simpa [binSlice] using Accumulator.offer_count_le _ (ha c)
    · exact h

theorem emptyBank_within (r : MapRecord) : (emptyBank r).Within := by
  intro a ha c
  obtain rfl := List.eq_of_mem_replicate ha
  simp [Accumulator.zero]

theorem EdgeFinder.bounded_iff (e : EdgeFinder) :
    e.bounded = true ↔ e.runCount ≤ 14 ∨ (e.phase = .left ∧ e.runCount ≤ 15) := by
  unfold EdgeFinder.bounded
  by_cases h : e.phase = .left
  · simp [h]
    omega
  · simp [h]

section
variable {e : EdgeFinder} {x : SheetSettings} (hm : x.m ≤ 15)
include hm

theorem EdgeFinder.seekSheet_bounded (pos : Nat) : (e.seekSheet x.m pos).bounded = true := by
  rw [EdgeFinder.bounded_iff]
  unfold EdgeFinder.seekSheet
  dsimp only
  split
  · exact .inl (Nat.zero_le _)
  · exact .inl (show e.runCount + 1 ≤ 14 by omega)

theorem EdgeFinder.leaveClear_bounded (h : e.runCount ≤ 14) : (e.leaveClear x.m).bounded = true := by
  rw [EdgeFinder.bounded_iff]
  unfold EdgeFinder.leaveClear
  split
  · exact .inr ⟨rfl, Nat.succ_le_succ h⟩
  · exact .inl (show e.runCount + 1 ≤ 14 by omega)

theorem EdgeFinder.seek_bounded (pos : Nat) (tr : Conditioned) : (e.seek x pos tr).bounded = true := by
  have reset (e' : EdgeFinder) (h0 : e'.runCount = 0) : e'.bounded = true := by simp [EdgeFinder.bounded_iff, h0]
  unfold EdgeFinder.seek
  split
  · exact reset _ rfl
  · split
    · exact EdgeFinder.seekSheet_bounded hm pos
    · exact reset _ rfl

theorem EdgeFinder.follow_bounded (h : e.runCount ≤ 14) (pos : Nat) (tr : Conditioned) :
    (e.follow x pos tr).bounded = true := by
  have reset (e' : EdgeFinder) (h0 : e'.runCount = 0) : e'.bounded = true := by simp [EdgeFinder.bounded_iff, h0]
  unfold EdgeFinder.follow
  split
  · exact reset _ rfl
  · split
    · exact reset _ rfl
    · exact EdgeFinder.leaveClear_bounded hm h

end

theorem EdgeFinder.take_bounded {e : EdgeFinder} {sheet : SheetSettings} (hm : sheet.m ≤ 15) (x : Sample)
    (h : e.bounded = true) : (e.take sheet x).bounded = true := by
  have reset : (e.gapReset x.afterGap).bounded = true := by
    unfold EdgeFinder.gapReset
    split
    · simp [EdgeFinder.bounded_iff]
    · exact h
  have counting (hp : (e.gapReset x.afterGap).phase ≠ .left) : (e.gapReset x.afterGap).runCount ≤ 14 := by
    simpa [hp] using (EdgeFinder.bounded_iff _).mp reset
  unfold EdgeFinder.take
  dsimp only
  split
  · exact reset
  · split
    · exact EdgeFinder.seek_bounded hm _ _
    · rename_i hp
      exact EdgeFinder.follow_bounded hm (counting (by simp [hp])) _ _
    · exact reset

/-! ### Slice records and monitors -/

theorem clearTo_agesWithin (p : ProfileStore) (id : MapIdentity) (n : ProfileNote) :
    AgesWithin (p.clearTo id n).records := by
  intro c r hr
  replace hr : r ∈ List.replicate id.sliceCount SliceRecord.cleared := by
    simpa [ProfileStore.clearTo] using hr
  obtain rfl := List.eq_of_mem_replicate hr
  exact Nat.zero_le _

theorem restoreTo_agesWithin (p : ProfileStore) (id : MapIdentity) (x : SaveSlot) :
    AgesWithin (p.restoreTo id x).records := by
  intro c r hr
  simp only [ProfileStore.restoreTo, PerProfile.get_make, restoredRecords] at hr
  split at hr
  · obtain ⟨_, _, rfl⟩ := List.mem_map.mp hr
    exact Nat.zero_le _
  · obtain rfl := List.eq_of_mem_replicate hr
    exact Nat.zero_le _

theorem applyAction_agesWithin {p : ProfileStore} (a : PendingAction) (h : AgesWithin p.records) :
    AgesWithin (p.applyAction a).records := by
  unfold ProfileStore.applyAction
  split
  · split
    · exact h
    · exact clearTo_agesWithin _ _ _
  · exact clearTo_agesWithin _ _ _
  · split
    · split
      · exact restoreTo_agesWithin _ _ _
      · exact clearTo_agesWithin _ _ _
    · exact clearTo_agesWithin _ _ _

theorem filterSlice_age_le (w staleLimit : Nat) (short : Bool) (o : SliceOutcome) {r : SliceRecord}
    (h : r.age ≤ 15) : (filterSlice w staleLimit short o r).age ≤ 15 := by
  unfold filterSlice
  split
  · exact h
  · split
    · exact h
    · exact Nat.zero_le _
  · split
    · exact h
    · unfold holdRecord
      split
      · exact h
      all_goals exact saturate_le 15 _

/-- What a map of two lists makes holds of every member when it holds of what each second member makes. -/
theorem forall_mem_zipWith {α β γ : Type} {P : γ → Prop} {f : α → β → γ} {l : List β} (h : ∀ b ∈ l, ∀ a, P (f a b))
    (k : List α) : ∀ c ∈ List.zipWith f k l, P c := by
  intro c hc
  obtain ⟨i, hi, rfl⟩ := List.mem_iff_getElem.mp hc
  rw [List.getElem_zipWith]
  exact h _ (List.getElem_mem _) _

theorem filterProfile_agesWithin (p : ClosingParams) (m : MeansResults) {x : ProfileStore}
    (h : AgesWithin x.records) : AgesWithin (filterProfile p m x).records := by
  have adopted : AgesWithin (adopt p.map.identity x).records := by
    obtain ⟨_, e⟩ | e := adopt_cases p.map.identity x <;> rw [e]
    · exact h
    · exact clearTo_agesWithin _ _ _
  intro c
  simp only [filterProfile, PerProfile.get_make, filterChannel]
  split
  · exact adopted c
  · exact forall_mem_zipWith (P := fun r : SliceRecord => r.age ≤ 15)
      (fun r hr o => filterSlice_age_le _ _ _ o (adopted c r hr)) _

theorem evaluate_count_le (scan : Nat) (results : MonitorRecord → Option ChannelResults) {m : Monitor}
    (h : m.count ≤ 15) : (m.evaluate scan results).count ≤ 15 := by
  unfold Monitor.evaluate
  split
  · unfold Monitor.after
    dsimp only
    split
    · exact saturate_le 15 _
    · exact saturate_le 15 _
    · exact Nat.zero_le _
    · exact h
  · exact h

theorem joinWindow_length_le {w : List Nat} (v : Nat) : (joinWindow w v).length ≤ 64 := by
  simp [joinWindow, Config.windowCapacity]
  omega

end Sys2Proof.Machine

/-! ## What is counted and queued: bounds of the operations (O9) -/

namespace Sys2Proof.Machine

variable {s t : State}

/-! ### Single updates -/

theorem quietRuns_bounded (h : Bounded s) : Bounded (quietRuns s) := by
  refine { h with breakRun := ?_, heldRun := fun k hk => ?_, sheetRun := ?_ }
  · show (if detectorActive s then s.watch.breakRun else 0) ≤ 255
    split
    · exact h.breakRun
    · exact Nat.zero_le _
  · replace hk : (if detectorActive s then s.watch.heldRun else none) = some k := hk
    split at hk
    · exact h.heldRun k hk
    · exact absurd hk (by simp)
  · show (if sheetCounting s then s.watch.sheetRun else 0) ≤ 255
    split
    · exact h.sheetRun
    · exact Nat.zero_le _

theorem setCarriage_bounded (c : Carriage) (h : Bounded s) : Bounded (setCarriage c s) :=
  quietRuns_bounded (s := { s with frame := _ }) h

theorem handDrive_bounded (f : DriveFrame) (h : Bounded s) : Bounded (handDrive f s) :=
  { h with
    passDown := by
      show (s.port.handDrive f).passDown.length ≤ 4
      rw [CarriagePort.handDrive_passDown]
      exact h.passDown
    portNext := CarriagePort.handDrive_next_le f h.portNext }

theorem handHead_bounded (m : HeadMode) (h : Bounded s) : Bounded (handHead m s) :=
  { h with
    passDown := by
      show (s.port.handHead m).passDown.length ≤ 4
      rw [CarriagePort.handHead_passDown]
      exact h.passDown
    portNext := CarriagePort.handHead_next_le m h.portNext }

/-- What holds of whatever an absent option holds. -/
theorem forall_of_none {α : Type} {P : α → Prop} : ∀ a, (none : Option α) = some a → P a := nofun

theorem enterThreading_bounded (h : Bounded s) : Bounded (enterThreading s) :=
  { h with breakRun := Nat.zero_le _, heldRun := forall_of_none, sheetRun := Nat.zero_le _ }

theorem dropTraverse_bounded (h : Bounded s) : Bounded (dropTraverse s) := { h with traverse := forall_of_none }

theorem markTraverse_bounded (h : Bounded s) : Bounded (markTraverse s) := by
  refine { h with traverse := fun o ho => ?_ }
  obtain ⟨o', ho', rfl⟩ := Option.map_eq_some_iff.mp ho
  exact h.traverse o' ho'

theorem raiseIf_bounded (b : Bool) (c : Condition) (h : Bounded s) : Bounded (raiseIf b c s) := by
  cases b <;> exact h

theorem placeNotice_bounded (n : Notice) (h : Bounded s) : Bounded (placeNotice n s) := by
  rw [placeNotice_eq]
  refine { h with counters := reportsDropped_bounded h.counters ?_, notices := ?_, reports := ?_ }
  · split
    · exact Nat.min_le_left ..
    · exact ((Counters.bounded_iff _).mp h.counters).2.2.2.2.1
  · exact (noticeCount_placeNotice _ n).le
  · exact (countP_placeNotice _ n).trans_le h.reports

theorem placeReport_bounded {l : List ProfileReport} (hl : l.length ≤ 4) (h : Bounded s) :
    Bounded (placeReport l s) := by
  rw [placeReport_eq]
  refine { h with counters := reportsDropped_bounded h.counters ?_, notices := ?_, reports := ?_ }
  · split
    · exact Nat.min_le_left ..
    · exact ((Counters.bounded_iff _).mp h.counters).2.2.2.2.1
  · exact (noticeCount_placeReport _ l).trans_le h.notices
  · exact (countP_placeReport _ l).trans_le hl

theorem abandonTraverse_bounded (r : AbandonReason) (h : Bounded s) : Bounded (abandonTraverse r s) := by
  unfold abandonTraverse
  split
  · exact h
  · exact placeNotice_bounded _ (dropTraverse_bounded h)

/-- The bank of the closing traverse becomes the CLOSING bank, within the bounds it had (R60). -/
theorem closeTraverse_bounded (h : Bounded s) : Bounded (closeTraverse s) := by
  unfold closeTraverse
  split
  · exact h
  · rename_i o ho
    split
    · have dropped := dropTraverse_bounded h
      exact raiseIf_bounded _ _ { dropped with bank := (h.traverse o ho).1 }
    · exact placeNotice_bounded _ (dropTraverse_bounded h)

theorem takeAction_bounded (a : PendingAction) (h : Bounded s) : Bounded (takeAction a s) := by
  unfold takeAction
  split
  · exact { h with
      trend := by
        show (s.profile.applyAction a).trend.length ≤ 64
        rw [applyAction_trend]
        exact h.trend
      slots := by
        show (s.profile.applyAction a).slots.length = 4
        rw [applyAction_slots]
        exact h.slots
      ages := applyAction_agesWithin a h.ages }
  · exact h

theorem applyPending_bounded (h : Bounded s) : Bounded (applyPending s) := by
  unfold applyPending
  split
  · rename_i a _
    exact { h with
      trend := by
        show (ProfileStore.applyAction _ a).trend.length ≤ 64
        rw [applyAction_trend]
        exact h.trend
      slots := by
        show (ProfileStore.applyAction _ a).slots.length = 4
        rw [applyAction_slots]
        exact h.slots
      ages := applyAction_agesWithin a h.ages }
  · exact h

theorem endCollection_bounded (h : Bounded s) : Bounded (endCollection s) := h

theorem stageFactors_bounded (r : PerMeasured (Option ParticipantResult)) (h : Bounded s) :
    Bounded (stageFactors r s) := by
  unfold stageFactors
  split <;> exact h

/-! ### The carriage, its requests and halts -/

theorem sendMove_bounded (target speed : Nat) (h : Bounded s) : Bounded (sendMove target speed s) :=
  handDrive_bounded (.move target speed) h

theorem sendStop_bounded (h : Bounded s) : Bounded (sendStop s) := handDrive_bounded .stop h

theorem goPark_bounded (h : Bounded s) : Bounded (goPark s) := setCarriage_bounded _ (sendMove_bounded _ _ h)

theorem beginApproach_bounded (h : Bounded s) : Bounded (beginApproach s) := by
  unfold beginApproach
  split
  · exact setCarriage_bounded _ (sendMove_bounded _ _ h)
  · exact setCarriage_bounded _ h

theorem enterSheetOff_bounded (h : Bounded s) : Bounded (enterSheetOff s) :=
  quietRuns_bounded (s := startProbeTimer { s with watch := _ }) h

theorem watchArrival_bounded (h : Bounded s) : Bounded (watchArrival s) := by
  unfold watchArrival
  split
  · split
    · exact enterSheetOff_bounded h
    · exact h
  · split <;> exact h
  all_goals exact h

theorem watchStandardizeEnd_bounded (h : Bounded s) : Bounded (watchStandardizeEnd s) := by
  unfold watchStandardizeEnd
  split
  · exact enterSheetOff_bounded h
  · exact h

theorem watchDwellStart_bounded (h : Bounded s) : Bounded (watchDwellStart s) := by
  unfold watchDwellStart
  split
  · exact { h with sheetRun := Nat.zero_le _ }
  all_goals exact h

theorem enterStandardizing_bounded (h : Bounded s) : Bounded (enterStandardizing s) :=
  handHead_bounded (s := { setCarriage .standardizing s with standardize := _ }) .reference
    (setCarriage_bounded .standardizing h)

theorem abandonCollection_bounded (h : Bounded s) : Bounded (abandonCollection s) := by
  unfold abandonCollection
  split
  · exact h
  · exact handHead_bounded .normal h

theorem setRequest_bounded (h : Bounded s) : Bounded (setRequest s) := by
  unfold setRequest
  dsimp only
  split
  · exact enterStandardizing_bounded h
  · exact h

theorem checkDue_bounded (h : Bounded s) : Bounded (checkDue s) := by
  unfold checkDue
  split
  · exact setRequest_bounded h
  · exact h

theorem parkRequest_bounded (h : Bounded s) : Bounded (parkRequest s) := by
  unfold parkRequest
  split
  · exact h
  · exact h
  · exact watchArrival_bounded h
  · exact h
  · exact h
  · exact goPark_bounded (abandonTraverse_bounded .brk (s := setScanOn false s) h)
  · exact goPark_bounded h
  · exact goPark_bounded h

theorem probeRequest_bounded (h : Bounded s) : Bounded (probeRequest s) := by
  unfold probeRequest
  split
  · exact setCarriage_bounded _ (sendMove_bounded _ _ h)
  · exact h

theorem startScanning_bounded (h : Bounded s) : Bounded (startScanning s) := by
  unfold startScanning
  dsimp only
  split
  · exact beginApproach_bounded h
  · exact h

theorem startRequest_bounded (h : Bounded s) : Bounded (startRequest s) := by
  unfold startRequest
  split
  · exact startScanning_bounded h
  · exact h

theorem haltCarriage_bounded (h : Bounded s) : Bounded (haltCarriage s) := by
  have abandoned := abandonTraverse_bounded .halt h
  rw [haltCarriage_eq]
  exact { abandoned with breakRun := Nat.zero_le _, heldRun := forall_of_none, sheetRun := Nat.zero_le _ }

theorem abortCollection_bounded (h : Bounded s) : Bounded (abortCollection s) := by
  unfold abortCollection
  split
  · exact h
  · exact abandonCollection_bounded h

theorem haltFor_bounded (c : Condition) (h : Bounded s) : Bounded (haltFor c s) :=
  abortCollection_bounded (sendStop_bounded (haltCarriage_bounded h))

theorem standardizeEnded_bounded (h : Bounded s) : Bounded (standardizeEnded s) := by
  unfold standardizeEnded
  refine watchStandardizeEnd_bounded ?_
  split
  · exact beginApproach_bounded h
  · exact setCarriage_bounded _ h

/-! ### Openings and reversals -/

theorem takeContext_bounded (r : MapRecord) (h : Bounded s) : Bounded (takeContext r s) := by
  unfold takeContext
  split
  · exact h
  · rename_i c rest hq
    have room : rest.length ≤ 4 := by
      have := h.queue
      rw [show s.extent.queue = c :: rest from hq, List.length_cons] at this
      omega
    exact takeAction_bounded _ (checkDue_bounded (s := { s with contexts := ⟨rest, some c⟩ }) { h with queue := room })

theorem openTraverse_bounded (d : Direction) (h : Bounded s) : Bounded (openTraverse d s) := by
  unfold openTraverse
  split
  · exact goPark_bounded h
  · split
    · exact goPark_bounded h
    · rename_i c _ r _
      have taken := takeContext_bounded r h
      refine setCarriage_bounded _ (sendMove_bounded _ _ { taken with traverse := fun o ho => ?_ })
      obtain rfl := Option.some.inj ho
      exact ⟨emptyBank_within r, rfl⟩

theorem reverse_bounded (d : Direction) (h : Bounded s) : Bounded (reverse d s) := by
  have onward (t : State) (ht : Bounded t) : Bounded (if !t.frame.scanOn || t.standardize.request then goPark t
      else openTraverse (otherDirection d) t) := by
    split
    · exact goPark_bounded ht
    · exact openTraverse_bounded _ ht
  refine onward _ ?_
  split
  · exact abandonTraverse_bounded _ h
  · exact closeTraverse_bounded h

/-! ### The break watch -/

theorem declareBreak_bounded (source : BreakSource) (h : Bounded s) : Bounded (declareBreak source s) := by
  unfold declareBreak
  dsimp only
  have cleared : Bounded { s with watch := { s.watch with
      state := .broken, source := some source, breakRun := 0, heldRun := none, sheetRun := 0, holdOff := none } } :=
    { h with breakRun := Nat.zero_le _, heldRun := forall_of_none, sheetRun := Nat.zero_le _ }
  split
  · exact parkRequest_bounded (s := raise .sheetBreak _) (quietRuns_bounded cleared)
  · exact markTraverse_bounded (s := raise .sheetBreak _) (quietRuns_bounded cleared)

theorem setBreakRun_bounded {n : Nat} (hn : n ≤ 255) (h : Bounded s) : Bounded (setBreakRun n s) :=
  { h with breakRun := hn, heldRun := forall_of_none }

/-- A run that goes on is still below N_BREAK (R135). -/
theorem detect_bounded (tr : Conditioned) (h : Bounded s) : Bounded (detect tr s) := by
  unfold detect
  split
  · exact h
  · split
    · split
      · exact declareBreak_bounded _ (setBreakRun_bounded (Nat.zero_le _) h)
      · rename_i short
        refine setBreakRun_bounded ?_ h
        have limit : s.tables.sheet.nBreak ≤ 255 := h.nBreak
        have standing : s.watch.breakRun ≤ standingRun s.watch := Nat.le_max_left ..
        split <;> omega
    · exact setBreakRun_bounded (Nat.zero_le _) h

theorem lookForSheet_bounded (tr : Conditioned) (h : Bounded s) : Bounded (lookForSheet tr s) := by
  unfold lookForSheet
  split
  · exact h
  · split
    · split
      · exact enterThreading_bounded h
      · rename_i short
        have limit : s.tables.sheet.nBreak ≤ 255 := h.nBreak
        exact { h with sheetRun := show s.watch.sheetRun + 1 ≤ 255 by omega }
    · exact { h with sheetRun := Nat.zero_le _ }

theorem gapResetRuns_bounded (x : Sample) (h : Bounded s) : Bounded (gapResetRuns x s) := by
  unfold gapResetRuns
  split
  · refine { h with breakRun := Nat.zero_le _, heldRun := fun k hk => ?_, sheetRun := Nat.zero_le _ }
    obtain ⟨_, _, rfl⟩ := Option.map_eq_some_iff.mp hk
    exact Nat.zero_le _
  · exact h

theorem watchTakes_bounded (x : Sample) (h : Bounded s) : Bounded (watchTakes x s) := by
  have reset := gapResetRuns_bounded x h
  unfold watchTakes
  dsimp only
  split
  · exact reset
  · split
    · exact detect_bounded _ reset
    · split
      · exact lookForSheet_bounded _ reset
      · exact reset

theorem endBreak_bounded (h : Bounded s) : Bounded (endBreak s) := by
  have cleared : Bounded { s with watch := { s.watch with state := .sheetOn, breakRun := 0, holdOff := none } } :=
    { h with breakRun := Nat.zero_le _ }
  obtain ⟨t, ht, e⟩ := endBreak_ind (P := fun t => Bounded t) (fun _ => parkRequest_bounded)
    (fun _ => setRequest_bounded) (fun _ => startRequest_bounded) (quietRuns_bounded cleared)
  rw [e]
  refine { ht with heldRun := fun k hk => ?_ }
  replace hk : (if detectorActive s then some s.watch.breakRun else none) = some k := hk
  split at hk
  · obtain rfl := Option.some.inj hk
    exact h.breakRun
  · exact absurd hk (by simp)

/-! ### The other consumers of a sample -/

theorem completeStandardize_bounded (c : Collection) (h : Bounded s) : Bounded (completeStandardize c s) := by
  have staged := stageFactors_bounded c.results (handHead_bounded .normal h)
  exact standardizeEnded_bounded (raiseIf_bounded _ _ (raiseIf_bounded _ _ { staged with counter := Nat.zero_le _ }))

theorem standardizeTakes_bounded (x : Sample) (h : Bounded s) : Bounded (standardizeTakes x s) := by
  unfold standardizeTakes
  split
  · exact h
  · split
    · dsimp only
      split
      · exact completeStandardize_bounded _ h
      · exact h
    · exact h

theorem notePosition_bounded (p : Nat) (h : Bounded s) : Bounded (notePosition p s) := by
  unfold notePosition
  dsimp only
  split <;> exact h

theorem arriveAtPark_bounded (h : Bounded s) : Bounded (arriveAtPark s) := by
  have told := watchArrival_bounded (s := endMove s) h
  unfold arriveAtPark
  dsimp only
  split
  · exact enterStandardizing_bounded told
  · split
    · exact beginApproach_bounded told
    · exact setCarriage_bounded _ told

theorem startDwell_bounded (h : Bounded s) : Bounded (startDwell s) := by
  have dwelling := setCarriage_bounded (.fixed .dwelling) (s := commit (endMove s)) h
  refine { dwelling with windows := fun c => ?_ }
  show ((PerProfile.const ([] : List Nat)).get c).length ≤ 64
  simp

theorem feedWindows_bounded (x : Sample) (h : Bounded s) : Bounded (feedWindows x s) := by
  unfold feedWindows
  split
  · exact h
  · refine { h with windows := fun c => ?_ }
    show (PerProfile.get (PerProfile.make _) c : List Nat).length ≤ 64
    rw [PerProfile.get_make]
    split
    · exact joinWindow_length_le _
    · exact h.windows c

theorem frameTakes_bounded (x : Sample) (h : Bounded s) : Bounded (frameTakes x s) := by
  have noted := notePosition_bounded x.frame.position h
  unfold frameTakes
  dsimp only
  split
  case h_1 =>
    split
    · exact arriveAtPark_bounded noted
    · exact noted
  case h_2 d _ =>
    split
    · exact openTraverse_bounded d (s := endMove _) noted
    · exact noted
  case h_3 d _ =>
    split
    · exact reverse_bounded d noted
    · exact noted
  case h_4 =>
    split
    · exact startDwell_bounded noted
    · exact noted
  case h_5 => exact feedWindows_bounded x noted
  case h_6 =>
    split
    · exact watchDwellStart_bounded (setCarriage_bounded _ (s := endMove _) noted)
    · exact noted
  all_goals exact noted

theorem streamTakes_bounded (x : Sample) (h : Bounded s) : Bounded (streamTakes x s) := by
  have limit : s.mill.decimation ≤ 255 := h.decimation
  unfold streamTakes
  split
  · exact h
  · split
    · unfold placeStream
      dsimp only
      split
      · exact { h with
          decimationCount := Nat.zero_le _, counters := streamDropped_bounded h.counters (saturate_le _ _) }
      · exact { h with decimationCount := Nat.zero_le _ }
    · exact { h with decimationCount := show s.mill.decimationCount + 1 ≤ 254 by omega }

theorem binningTakes_bounded (x : Sample) (h : Bounded s) : Bounded (binningTakes x s) := by
  unfold binningTakes
  split
  · exact h
  · rename_i o ho
    refine { h with traverse := fun o' ho' => ?_ }
    obtain rfl := Option.some.inj ho'
    obtain ⟨bank, finder⟩ := h.traverse o ho
    exact ⟨binBank_within _ x bank, EdgeFinder.take_bounded h.m x finder⟩

theorem conditionerTakes_bounded (f : SampleFrame) (h : Bounded s) : Bounded (conditionerTakes f s) := by
  refine raiseIf_bounded _ _ (raiseIf_bounded _ _ ?_)
  unfold trackSequence
  dsimp only
  split
  · exact h
  · exact { h with counters := gapTotal_bounded h.counters (saturate_le _ _) }

theorem Consumer.takes_bounded (x : Sample) (c : Consumer) (h : Bounded s) : Bounded (c.takes x s) := by
  have noted {u : State} (v : View) (hu : Bounded u) : Bounded (noteMoment v u) := hu
  rw [Consumer.takes_eq]
  refine noted _ ?_
  cases c with
  | frameController => exact frameTakes_bounded x (noted _ h)
  | breakWatch => exact watchTakes_bounded x h
  | standardizeUnit => exact standardizeTakes_bounded x h
  | stream => exact streamTakes_bounded x h

theorem takeSample_bounded (f : SampleFrame) (h : Bounded s) : Bounded (takeSample f s) := by
  rw [takeSample_eq]
  refine foldl_takes_rel (R := fun s t => Bounded s → Bounded t) _ _ _ (fun _ => id)
    (fun h k => k ∘ h) (fun c _ u => c.takes_bounded _) ?_
  exact binningTakes_bounded _ (conditionerTakes_bounded f (s := delivered s) h)

end Sys2Proof.Machine

/-! ## Capacities, row by row (O9) -/

namespace Sys2Proof.Machine

variable {s t : State}

/-! ### Operations that raise nothing -/

section
variable (s : State)

@[simp] theorem beginApproach_raised : (beginApproach s).conditions.raised = s.conditions.raised := by
  unfold beginApproach
  split <;> rfl

@[simp] theorem watchArrival_raised : (watchArrival s).conditions.raised = s.conditions.raised := by
  obtain ⟨_, _, _, e⟩ := watchArrival_eq s
  rw [e]

@[simp] theorem setRequest_raised : (setRequest s).conditions.raised = s.conditions.raised := by
  unfold setRequest
  dsimp only
  split <;> rfl

@[simp] theorem checkDue_raised : (checkDue s).conditions.raised = s.conditions.raised := by
  unfold checkDue
  split
  · exact setRequest_raised s
  · rfl

@[simp] theorem startScanning_raised : (startScanning s).conditions.raised = s.conditions.raised := by
  unfold startScanning
  dsimp only
  split
  · exact beginApproach_raised _
  · rfl

@[simp] theorem goPark_raised : (goPark s).conditions.raised = s.conditions.raised := rfl

@[simp] theorem parkRequest_raised : (parkRequest s).conditions.raised = s.conditions.raised := by
  unfold parkRequest
  split
  · rfl
  · rfl
  · exact watchArrival_raised _
  · rfl
  · rfl
  · exact abandonTraverse_raised _ _
  · rfl
  · rfl

@[simp] theorem probeRequest_raised : (probeRequest s).conditions.raised = s.conditions.raised := by
  unfold probeRequest
  split <;> rfl

@[simp] theorem restartCarriage_raised : (restartCarriage s).conditions.raised = s.conditions.raised := by
  unfold restartCarriage
  split <;> rfl

@[simp] theorem goFixed_raised (p : Nat) : (goFixed p s).conditions.raised = s.conditions.raised :=
  abandonTraverse_raised .fixed (setScanOn false s)

end

/-! ### A step's end -/

theorem withinCapacity_settle (h : Bounded s) : WithinCapacity (settle s) :=
  withinCapacity_iff.mpr ⟨settle_bounded h, (settle_frame s).1⟩

theorem withinCapacity_of_bounded (h : Bounded s) (raised : s.conditions.raised = []) : WithinCapacity s :=
  withinCapacity_iff.mpr ⟨h, raised⟩

theorem WithinCapacity.bounded (h : WithinCapacity s) : Bounded s := (withinCapacity_iff.mp h).1

theorem WithinCapacity.raised (h : WithinCapacity s) : s.conditions.raised = [] := (withinCapacity_iff.mp h).2

theorem withinCapacity_of_state {u : State} (e : t = u) (h : WithinCapacity u) : WithinCapacity t := e ▸ h

theorem bounded_of_state {u : State} (e : t = u) (h : Bounded u) : Bounded t := e ▸ h

/-! ### The commands of the carriage -/

section
variable (h : WithinCapacity s)
include h

theorem standardizeCommand_withinCapacity (a : Unit) : WithinCapacity (standardizeCommand a s).state := by
  unfold standardizeCommand
  split
  case h_1 | h_2 | h_3 => exact h
  all_goals exact withinCapacity_of_bounded (setRequest_bounded h.bounded) ((setRequest_raised s).trans h.raised)

theorem parkCommand_withinCapacity (a : Unit) : WithinCapacity (parkCommand a s).state := by
  have home (u : State) (hu : Bounded u) (raised : u.conditions.raised = s.conditions.raised) :
      WithinCapacity (goPark u) := withinCapacity_of_bounded (goPark_bounded hu) (raised.trans h.raised)
  unfold parkCommand
  split
  case h_1 | h_2 => exact h
  case h_3 => exact home _ (abandonCollection_bounded (s := setScanOn false s) h.bounded) (by simp)
  case h_8 =>
    split
    · exact home s h.bounded rfl
    · exact h
  all_goals exact home _ (abandonTraverse_bounded _ (s := setScanOn false s) h.bounded) (by simp)

theorem startCommand_withinCapacity (a : Unit) : WithinCapacity (startCommand a s).state := by
  unfold startCommand
  split
  · exact h
  · exact withinCapacity_of_bounded (startScanning_bounded h.bounded) ((startScanning_raised s).trans h.raised)

theorem stopCommand_withinCapacity (a : Unit) : WithinCapacity (stopCommand a s).state := by
  unfold stopCommand
  dsimp only
  split
  case h_1 | h_2 => exact withinCapacity_of_bounded (goPark_bounded (s := setScanOn false s) h.bounded) h.raised
  all_goals exact h

theorem resumeCommand_withinCapacity (a : Unit) : WithinCapacity (resumeCommand a s).state := by
  unfold resumeCommand
  split
  case h_1 =>
    split
    · exact h
    · split
      · exact h
      · exact withinCapacity_of_bounded (beginApproach_bounded (s := setScanOn true s) h.bounded)
          ((beginApproach_raised _).trans h.raised)
  all_goals exact h

theorem fixedPointCommand_withinCapacity (p : Nat) : WithinCapacity (fixedPointCommand p s).state := by
  have sent : WithinCapacity (goFixed p s) := by
    have abandoned := abandonTraverse_bounded .fixed (s := setScanOn false s) h.bounded
    exact withinCapacity_of_bounded (setCarriage_bounded _ (sendMove_bounded _ _ abandoned))
      ((goFixed_raised s p).trans h.raised)
  unfold fixedPointCommand
  split
  · exact h
  · split
    case h_1 | h_2 | h_3 | h_4 => exact h
    all_goals
      split
      · exact h
      · exact sent

theorem sheetNotice_bounded (k : Nat) : Bounded (sheetNotice k s).state := by
  unfold sheetNotice
  split
  · show Bounded (breakNotice s)
    unfold breakNotice
    split
    case h_1 | h_2 => exact declareBreak_bounded _ h.bounded
    all_goals exact h.bounded
  · show Bounded (restoredNotice s)
    unfold restoredNotice
    split
    case h_1 | h_2 => exact enterThreading_bounded h.bounded
    all_goals exact h.bounded
  · exact h.bounded

theorem restartBlocks_bounded : Bounded (restartBlocks s) :=
  { h.bounded with
    counter := Nat.zero_le _, traverse := forall_of_none, scanNumber := Nat.zero_le _, bank := nofun
    ages := fun c r hr => by
      replace hr : r ∈ (PerProfile.const ([] : List SliceRecord)).get c := hr
      simp at hr
    trend := Nat.zero_le _, queue := Nat.zero_le _
    windows := fun c => by
      show ((PerProfile.const ([] : List Nat)).get c).length ≤ 64
      simp
    breakRun := Nat.zero_le _, heldRun := forall_of_none, sheetRun := Nat.zero_le _
    monitors := (List.length_map _).trans h.bounded.monitors
    counts := fun m hm => by
      obtain ⟨_, _, rfl⟩ := List.mem_map.mp hm
      exact Nat.zero_le _
    counters := rfl, decimation := Nat.zero_le _, decimationCount := Nat.zero_le _ }

theorem restartCommand_withinCapacity (a : Unit) : WithinCapacity (restartCommand a s).state := by
  show WithinCapacity (restartCarriage (restartBlocks (abandonCollection s)))
  have abandoned : WithinCapacity (abandonCollection s) :=
    withinCapacity_of_bounded (abandonCollection_bounded h.bounded) (by simpa using h.raised)
  have blocks := restartBlocks_bounded abandoned
  refine withinCapacity_of_bounded ?_ ((restartCarriage_raised _).trans abandoned.raised)
  unfold restartCarriage
  split
  case h_1 | h_2 | h_3 => exact blocks
  case h_4 => exact setCarriage_bounded _ blocks
  all_goals exact goPark_bounded blocks

/-! ### The commands of tables, store, contexts and links -/

theorem writeMonitor_withinCapacity (a : Nat × List MonitorArgs) : WithinCapacity (writeMonitor a s).state := by
  obtain ⟨l, length, members, e⟩ := writeMonitor_state s a
  refine withinCapacity_of_state e (withinCapacity_of_bounded { h.bounded with
    monitors := length h.bounded.monitors, counts := fun m hm => ?_ } h.raised)
  rcases members m hm with old | fresh
  · exact h.bounded.counts m old
  · exact fresh.trans_le (Nat.zero_le _)

theorem writeSheet_withinCapacity (a : SheetArgs) : WithinCapacity (writeSheet a s).state := by
  obtain ⟨x, hx, e⟩ := writeSheet_state s a
  refine withinCapacity_of_state e ?_
  rcases hx with rfl | hx
  · exact h
  · obtain ⟨_, nBreak, _, _, _, _, m⟩ := (sheetValid_iff x).mp (validSheet_valid hx)
    exact withinCapacity_of_bounded { h.bounded with nBreak := nBreak.2, m := m.2 } h.raised

/-- A save slot filled leaves as many slots. -/
theorem withinCapacity_of_slots {l : List (Option SaveSlot)} (hl : l.length = s.profile.slots.length)
    (e : t = { s with profile := { s.profile with slots := l } }) : WithinCapacity t :=
  withinCapacity_of_state e (withinCapacity_of_bounded { h.bounded with slots := hl.trans h.bounded.slots } h.raised)

theorem restoreProfile_withinCapacity (k : Nat) : WithinCapacity (restoreProfile k s).state := by
  obtain ⟨p, rfl | ⟨id, x, rfl⟩, e⟩ := restoreProfile_state s k <;> refine withinCapacity_of_state e ?_
  · exact h
  · exact withinCapacity_of_bounded { h.bounded with ages := restoreTo_agesWithin s.profile id x } h.raised

theorem clearProfile_withinCapacity (a : Unit) : WithinCapacity (clearProfile a s).state := by
  obtain ⟨p, rfl | ⟨id, rfl⟩, e⟩ := clearProfile_state s a <;> refine withinCapacity_of_state e ?_
  · exact h
  · exact withinCapacity_of_bounded { h.bounded with ages := clearTo_agesWithin s.profile id .cleared } h.raised

theorem flushQueue_withinCapacity (a : Unit) : WithinCapacity (flushQueue a s).state := by
  obtain e | e := flushQueue_state s a <;> refine withinCapacity_of_state e ?_
  · exact h
  · exact withinCapacity_of_bounded { h.bounded with queue := Nat.zero_le _ } h.raised

theorem pushContext_bounded (a : ContextArgs) : Bounded (pushContext a s).state := by
  obtain e | e | ⟨c, room, e⟩ := pushContext_state s a <;> refine bounded_of_state e ?_
  · exact h.bounded
  · exact h.bounded
  · exact { h.bounded with queue := show (s.contexts.queue ++ [c]).length ≤ 4 by simp; omega }

theorem countPassDropped_bounded : Bounded (countPassDropped s) :=
  { h.bounded with counters := passDropped_bounded h.bounded.counters (saturate_le _ _) }

theorem passDown_bounded (p : List Byte) : Bounded (passDown p s).state := by
  obtain e | e | ⟨room, e⟩ := passDown_state s p <;> refine bounded_of_state e ?_
  · exact h.bounded
  · exact countPassDropped_bounded h
  · exact { h.bounded with passDown := show (s.port.passDown ++ [p]).length ≤ 4 by simp; omega }

theorem setStream_withinCapacity (n : Nat) : WithinCapacity (setStream n s).state :=
  withinCapacity_of_bounded
    { h.bounded with decimation := Nat.min_le_right _ _, decimationCount := Nat.zero_le _ } h.raised

theorem clearCounters_withinCapacity (a : Unit) : WithinCapacity (clearCounters a s).state :=
  withinCapacity_of_bounded { h.bounded with counters := rfl } h.raised

end

/-! ### Events -/

section
variable (h : Bounded s)
include h

theorem queuePassUp_bounded (p : List Byte) : Bounded (queuePassUp p s) := by
  unfold queuePassUp
  split
  · rename_i room
    replace room : s.mill.passUp.length < 4 := room
    exact { h with passUp := show (s.mill.passUp ++ [p]).length ≤ 4 by simp; omega }
  · exact { h with counters := passDropped_bounded h.counters (saturate_le _ _) }

theorem queueCommand_bounded (f : CommandFrame) : Bounded (queueCommand f s) := by
  unfold queueCommand
  split
  · rename_i room
    replace room : s.handler.inbound.length < 8 := room
    exact { h with inbound := show (s.handler.inbound ++ [f]).length ≤ 8 by simp; omega }
  · exact { h with counters := commandsDropped_bounded h.counters (saturate_le _ _) }

theorem checkFailure_bounded (l : Link) :
    Bounded (raise .linkError (countCheckFailure l (setReceiver l .hunting s))) := by
  cases l
  · exact { h with counters := carriageFailures_bounded h.counters (saturate_le _ _) }
  · exact { h with counters := millFailures_bounded h.counters (saturate_le _ _) }

theorem driveFault_bounded : Bounded (driveFault s) :=
  sendStop_bounded (abandonCollection_bounded (haltCarriage_bounded h))

theorem takeDriveStatus_bounded (d : DriveStatus) : Bounded (takeDriveStatus d s) := by
  unfold takeDriveStatus
  dsimp only
  split
  case h_1 =>
    split
    · exact sendStop_bounded h
    · split
      · exact goPark_bounded h
      · exact h
  case h_2 => exact raiseIf_bounded _ _ h
  all_goals
    split
    · exact driveFault_bounded h
    · exact h

theorem silenceExpires_bounded : Bounded (silenceExpires s) := by
  unfold silenceExpires
  dsimp only
  split
  case h_6 | h_7 | h_8 => exact h
  all_goals exact haltFor_bounded _ h

theorem stallExpires_bounded (k : StallTimer) : Bounded (stallExpires k s) := by
  unfold stallExpires
  split
  · dsimp only
    split
    · exact haltFor_bounded _ h
    · exact h
  · exact h

theorem startMill_bounded (kind : Byte) (payload : List Byte) : Bounded (startMill kind payload s) :=
  { h with millNext := s.mill.transmitter.start_next_le kind payload }

/-- A frame that the arbiter sends leaves its queue shorter (R193). -/
theorem arbitrate_bounded : Bounded (arbitrate s) := by
  have shorter {α : Type} {l rest : List α} {a : α} {n : Nat} (e : l = a :: rest) (hl : l.length ≤ n) :
      rest.length ≤ n := by
    rw [e, List.length_cons] at hl
    omega
  have fewer {l rest : List ReportFrame} {f : ReportFrame} {p : ReportFrame → Bool} {n : Nat} (e : l = f :: rest)
      (hl : l.countP p ≤ n) : rest.countP p ≤ n := by
    rw [e, List.countP_cons] at hl
    omega
  unfold arbitrate
  split
  · rename_i e
    refine startMill_bounded ?_ _ _
    exact { h with alarms := shorter e h.alarms }
  · refine startMill_bounded ?_ _ _
    exact h
  · rename_i e
    refine startMill_bounded ?_ _ _
    exact { h with passUp := shorter e h.passUp }
  · rename_i e
    refine startMill_bounded ?_ _ _
    exact { h with notices := fewer e h.notices, reports := fewer e h.reports }
  · refine startMill_bounded ?_ _ _
    exact h
  · exact h

theorem completeFilter_bounded {bank : Bank} {p : ClosingParams} {m : MeansResults}
    (e : s.closeOut.engine = .filter bank p m) : Bounded (completeFilter bank p m s) := by
  have closing : s.closeOut.engine.bank.Within := h.bank
  rw [e] at closing
  have slots : (filterProfile p m s.profile).slots = s.profile.slots := filterProfile_slots ..
  have trend : (filterProfile p m s.profile).trend = s.profile.trend := adopt_trend ..
  exact raiseIf_bounded _ _ { h with
    bank := closing, ages := filterProfile_agesWithin p m h.ages, slots := (congrArg List.length slots).trans h.slots
    trend := (congrArg List.length trend).trans_le h.trend }

theorem completeMonitors_bounded {bank : Bank} {p : ClosingParams} {m : MeansResults} {st : StatsResults}
    (e : s.closeOut.engine = .monitors bank p m st) : Bounded (completeMonitors bank p m st s) := by
  have closing : s.closeOut.engine.bank.Within := h.bank
  rw [e] at closing
  refine raiseIf_bounded _ _ (raiseIf_bounded _ _ { h with
    bank := closing, monitors := (List.length_map _).trans h.monitors, counts := fun k hk => ?_ })
  obtain ⟨k', hk', rfl⟩ := List.mem_map.mp hk
  exact evaluate_count_le _ _ (h.counts k' hk')

theorem setEngine_bounded {e : Engine} (he : e.bank = s.closeOut.engine.bank) : Bounded (setEngine e s) :=
  { h with bank := show e.bank.Within from he ▸ h.bank }

theorem completeReport_bounded (bank : Bank) (p : ClosingParams) (m : MeansResults) (st : StatsResults)
    (mons : List MonitorResult) : Bounded (completeReport bank p m st mons s) := by
  have placed := placeReport_bounded
    (profileReport_length_le (nextScan s) bank p m st mons s.profile) h
  refine checkDue_bounded (applyPending_bounded { placed with
    scanNumber := show (s.closeOut.scanNumber + 1) % 65536 ≤ 65535 by omega
    bank := nofun, trend := appendTrend_length_le _ _, counter := saturate_le 255 _ })

end

theorem completeReport_raised (bank : Bank) (p : ClosingParams) (m : MeansResults) (st : StatsResults)
    (mons : List MonitorResult) (s : State) :
    (completeReport bank p m st mons s).conditions.raised = s.conditions.raised := by
  refine (checkDue_raised _).trans ?_
  rw [applyPending_conditions, placeReport_eq]

/-! ### Every row -/

/-- What the handler does with a row: nothing, or answer the command at its front (R177). -/
theorem serve_idle_or_answers {α : Type} (row : CommandRow) (parse : List Byte → Option α)
    (owner : α → State → Answer) (s : State) : serve row parse owner s = s ∨
      ∃ f rest, AtHand f rest s ∧
        serve row parse owner s = respond f (answerTo row parse owner f.args (s.taken f rest)) := by
  by_cases front : ∃ f rest, AtHand f rest s ∧ rowOf f = row
  · obtain ⟨f, rest, hand, hr⟩ := front
    exact .inr ⟨f, rest, hand, serve_atHand hand hr⟩
  · refine .inl ?_
    have none : takeCommand row s = none := by
      unfold takeCommand
      split
      · rename_i f rest hp hq
        exact if_neg fun hr => front ⟨f, rest, ⟨hp, hq⟩, hr⟩
      · rfl
    simp [serve, none]

/-- An answer leaves the state as it is, or as the owner does (R179). -/
theorem answerTo_ind {α : Type} {row : CommandRow} {parse : List Byte → Option α} {owner : α → State → Answer}
    {P : State → Prop} (h : P s) (owned : ∀ a, P (owner a s).state) (args : List Byte) :
    P (answerTo row parse owner args s).state := by
  unfold answerTo
  split
  · exact h
  · split
    · exact h
    · exact owned _

theorem taken_bounded {f : CommandFrame} {rest : List CommandFrame} (hand : AtHand f rest s) (h : Bounded s) :
    Bounded (s.taken f rest) := by
  have full : s.handler.inbound.length ≤ 8 := h.inbound
  rw [hand.2, List.length_cons] at full
  exact { h with inbound := show rest.length ≤ 8 by omega }

section
variable {α : Type} {row : CommandRow} {parse : List Byte → Option α} {owner : α → State → Answer}

theorem serve_withinCapacity (owned : ∀ a u, WithinCapacity u → WithinCapacity (owner a u).state)
    (hs : WithinCapacity s) : WithinCapacity (serve row parse owner s) := by
  obtain e | ⟨f, rest, hand, e⟩ := serve_idle_or_answers row parse owner s <;> rw [e]
  · exact hs
  · have taken := withinCapacity_of_bounded (taken_bounded hand hs.bounded) hs.raised
    exact answerTo_ind (P := fun u => WithinCapacity u) taken (fun a => owned a _ taken) f.args

/-- A row whose owner may raise, and that settles. -/
theorem settle_serve_withinCapacity (owned : ∀ a u, WithinCapacity u → Bounded (owner a u).state)
    (hs : WithinCapacity s) : WithinCapacity (settle (serve row parse owner s)) := by
  refine withinCapacity_settle ?_
  obtain e | ⟨f, rest, hand, e⟩ := serve_idle_or_answers row parse owner s <;> rw [e]
  · exact hs.bounded
  · have taken := withinCapacity_of_bounded (taken_bounded hand hs.bounded) hs.raised
    exact answerTo_ind (P := fun u => Bounded u) taken.bounded (fun a => owned a _ taken) f.args

end

theorem withinCapacity_reset : WithinCapacity State.reset := by decide

theorem exec_withinCapacity (i : Instr) (hs : WithinCapacity s) (h : exec i s = .next t) : WithinCapacity t := by
  cases i
  all_goals obtain rfl := Host.Outcome.next.inj h
  case powerOnReset => exact withinCapacity_reset
  case sample f => exact withinCapacity_settle (takeSample_bounded f hs.bounded)
  case headAnnounce | millFrameCompleted | carriageFrameCompleted => exact hs
  case millisecondTick =>
    exact withinCapacity_of_bounded { hs.bounded with
      clock := Nat.mod_lt _ (by decide), heldRun := forall_of_none } hs.raised
  case driveStatus d => exact withinCapacity_settle (takeDriveStatus_bounded (s := carriageDelivered s) hs.bounded d)
  case passUp p => exact withinCapacity_settle (queuePassUp_bounded (s := carriageDelivered s) hs.bounded p)
  case command f => exact withinCapacity_settle (queueCommand_bounded (s := millDelivered s) hs.bounded f)
  case frameCheckFailure l c => exact withinCapacity_settle (checkFailure_bounded hs.bounded l)
  case syncPairFound l =>
    split
    · cases l <;> exact hs
    · exact hs
  case millTransmit =>
    split
    · refine withinCapacity_of_bounded (arbitrate_bounded hs.bounded) (.trans ?_ hs.raised)
      unfold arbitrate
      split <;> rfl
    · exact hs
  case carriageTransmit =>
    exact withinCapacity_of_bounded { hs.bounded with
      passDown := s.port.transmit_passDown_le.trans hs.bounded.passDown
      portNext := CarriagePort.transmit_next_le hs.bounded.portNext } hs.raised
  case silenceTimerExpiry =>
    split
    · exact withinCapacity_settle (silenceExpires_bounded hs.bounded)
    · exact hs
  case stallTimerExpiry =>
    split
    · split
      · exact withinCapacity_settle (stallExpires_bounded hs.bounded _)
      · exact hs
    · exact hs
  case stdTimerExpiry =>
    split
    · split
      · exact withinCapacity_settle
          (standardizeEnded_bounded (s := raise .stdAbort _) (abandonCollection_bounded hs.bounded))
      · exact hs
    · exact hs
  case probeTimerExpiry =>
    split
    · exact withinCapacity_of_bounded (probeRequest_bounded (s := { s with watch := _ }) hs.bounded)
        ((probeRequest_raised _).trans hs.raised)
    · exact hs
  case probeDwellExpiry =>
    split
    · exact withinCapacity_of_bounded (parkRequest_bounded (s := { s with watch := { s.watch with
        dwell := none, sheetRun := 0 } }) { hs.bounded with sheetRun := Nat.zero_le _ })
        ((parkRequest_raised _).trans hs.raised)
    · exact hs
  case holdOffExpiry =>
    split
    · exact withinCapacity_settle (endBreak_bounded hs.bounded)
    · exact hs
  case meansComplete | statsComplete =>
    split
    · rename_i e
      exact withinCapacity_of_bounded (setEngine_bounded hs.bounded (by rw [e]; rfl)) hs.raised
    · exact hs
  case filterComplete =>
    split
    · exact withinCapacity_settle (completeFilter_bounded hs.bounded ‹_›)
    · exact hs
  case monitorsComplete =>
    split
    · exact withinCapacity_settle (completeMonitors_bounded hs.bounded ‹_›)
    · exact hs
  case reportComplete =>
    split
    · exact withinCapacity_of_bounded (completeReport_bounded hs.bounded ..)
        ((completeReport_raised ..).trans hs.raised)
    · exact hs
  case startScan => exact serve_withinCapacity (fun a _ hu => startCommand_withinCapacity hu a) hs
  case stopScan => exact serve_withinCapacity (fun a _ hu => stopCommand_withinCapacity hu a) hs
  case park => exact serve_withinCapacity (fun a _ hu => parkCommand_withinCapacity hu a) hs
  case resume => exact serve_withinCapacity (fun a _ hu => resumeCommand_withinCapacity hu a) hs
  case fixedPoint => exact serve_withinCapacity (fun a _ hu => fixedPointCommand_withinCapacity hu a) hs
  case standardize => exact serve_withinCapacity (fun a _ hu => standardizeCommand_withinCapacity hu a) hs
  case restart => exact serve_withinCapacity (fun a _ hu => restartCommand_withinCapacity hu a) hs
  case sheetNotice => exact settle_serve_withinCapacity (fun a _ hu => sheetNotice_bounded hu a) hs
  case pushContext => exact settle_serve_withinCapacity (fun a _ hu => pushContext_bounded hu a) hs
  case passDown => exact settle_serve_withinCapacity (fun a _ hu => passDown_bounded hu a) hs
  case writeTableMonitor => exact serve_withinCapacity (fun a _ hu => writeMonitor_withinCapacity hu a) hs
  case writeTableSheet => exact serve_withinCapacity (fun a _ hu => writeSheet_withinCapacity hu a) hs
  case restoreProfile => exact serve_withinCapacity (fun a _ hu => restoreProfile_withinCapacity hu a) hs
  case clearProfile => exact serve_withinCapacity (fun a _ hu => clearProfile_withinCapacity hu a) hs
  case flushQueue => exact serve_withinCapacity (fun a _ hu => flushQueue_withinCapacity hu a) hs
  case setStream => exact serve_withinCapacity (fun a _ hu => setStream_withinCapacity hu a) hs
  case clearCounters => exact serve_withinCapacity (fun a _ hu => clearCounters_withinCapacity hu a) hs
  case writeTableSlotHeader =>
    exact serve_withinCapacity
      (fun a u hu => have ⟨_, hl, e⟩ := writeSlotHeader_state u a; withinCapacity_of_slots hu hl e) hs
  case writeTableSlotImage =>
    exact serve_withinCapacity
      (fun a u hu => have ⟨_, hl, e⟩ := writeSlotImage_state u a; withinCapacity_of_slots hu hl e) hs
  case saveProfile =>
    exact serve_withinCapacity
      (fun a u hu => have ⟨_, hl, e⟩ := saveProfile_state u a; withinCapacity_of_slots hu hl e) hs
  case writeTableCurve =>
    exact serve_withinCapacity (fun a u hu => have ⟨_, e⟩ := writeCurve_state u a; withinCapacity_of_state e hu) hs
  case writeTableBias =>
    exact serve_withinCapacity (fun a u hu => have ⟨_, e⟩ := writeBias_state u a; withinCapacity_of_state e hu) hs
  case writeTableStdf =>
    exact serve_withinCapacity (fun a u hu => have ⟨_, e⟩ := writeStdf_state u a; withinCapacity_of_state e hu) hs
  case writeTableMap =>
    exact serve_withinCapacity (fun a u hu => have ⟨_, _, e⟩ := writeMap_state u a; withinCapacity_of_state e hu) hs
  case writeTableFrame =>
    exact serve_withinCapacity (fun a u hu => have ⟨_, e⟩ := writeFrame_state u a; withinCapacity_of_state e hu) hs
  case writeTableChannel =>
    exact serve_withinCapacity (fun a u hu => have ⟨_, e⟩ := writeChannel_state u a; withinCapacity_of_state e hu) hs
  case clearConditions =>
    exact serve_withinCapacity
      (fun a u hu => have ⟨_, e⟩ := clearConditions_state u a; withinCapacity_of_state e hu) hs
  case setMask =>
    exact serve_withinCapacity (fun a u hu => have ⟨_, e⟩ := setMask_state u a; withinCapacity_of_state e hu) hs
  case readTable =>
    exact serve_withinCapacity (fun a u hu => withinCapacity_of_state (readTable_state u a) hu) hs
  case readFixed =>
    exact serve_withinCapacity (fun a u hu => withinCapacity_of_state (readFixed_state u a) hu) hs
  case readProfile =>
    exact serve_withinCapacity (fun a u hu => withinCapacity_of_state (readProfile_state u a) hu) hs
  case readTrend =>
    exact serve_withinCapacity (fun a u hu => withinCapacity_of_state (readTrend_state u a) hu) hs
  case readStatus | writeTableUnknownRegion | unknownCommandCode | lockCalibration | ackAlarm =>
    exact serve_withinCapacity (fun _ _ hu => hu) hs

/-- Settles O9: whatever is counted or queued stays within its range, row by row. -/
theorem stepKeepsWithinCapacity : Obligations.StepKeepsWithinCapacity := by
  unfold Obligations.StepKeepsWithinCapacity
  intro s t hs h
  unfold step at h
  split at h
  · obtain rfl := Host.Outcome.next.inj h
    exact hs
  · rename_i c rest _
    exact exec_withinCapacity (s := s.withPending rest) c hs h

end Sys2Proof.Machine

/-! ## A participant's result (O28) and the condition unit (O20) -/

namespace Sys2Proof.Machine

variable {s t : State}

/-! ### A participant's result -/

section
variable {target : Nat} {p : Participant}

theorem result_of_uncovered (h : p.valid < (target + 1) / 2) : p.result target = .failsCoverage := if_pos h

theorem result_of_covered (h : (target + 1) / 2 ≤ p.valid) : p.result target =
    if roundHalfUp p.sum p.valid = 0 then .failsCoverage
    else if p.driftLimit < driftOf (roundHalfUp p.sum p.valid) p.rRef then .failsDrift
    else .passes (clampFactor (roundHalfUp (p.rRef * 16384) (roundHalfUp p.sum p.valid))) := if_neg (by omega)

theorem clampFactor_eq (q : Nat) : clampFactor q = if q < 8192 then 8192 else if 32767 < q then 32767 else q := by
  unfold clampFactor
  split
  · omega
  · split <;> omega

end

/-- Settles O28: coverage, then drift, then the factor. -/
theorem participantResultByCoverageDriftAndFactor : Obligations.ParticipantResultByCoverageDriftAndFactor := by
  unfold Obligations.ParticipantResultByCoverageDriftAndFactor
  intro target p
  refine ⟨result_of_uncovered, fun covered zero => ?_, fun covered mean drifts => ?_, fun covered mean within => ?_⟩ <;>
    refine (result_of_covered covered).trans ?_
  · exact if_pos zero
  · exact (if_neg mean).trans (if_pos drifts)
  · exact (if_neg mean).trans ((if_neg (Nat.not_lt.mpr within)).trans (congrArg _ (clampFactor_eq _)))

/-! ### One raising taken at a full queue -/

section
variable {u : ConditionUnit} {a : AlarmFrame}

/-- The state of the condition unit that has set the flag of an unmasked condition and found the queue full (R167). -/
def ConditionUnit.overfull (u : ConditionUnit) (c : Condition) : ConditionUnit :=
  { (u.setFlag c) with summary := true }.countAlarmDropped

theorem take_full (clear : u.flag a.condition = false) (unmasked : u.isUnmasked a.condition = true)
    (full : 8 ≤ u.alarms.length) : u.take a = (u.overfull a.condition).alarmLost := by
  have room : ¬ u.alarms.length < Config.alarmCapacity := Nat.not_lt.mpr full
  simp [ConditionUnit.take, clear, unmasked, ConditionUnit.overfull, ConditionUnit.setFlag, room]

theorem overfull_flag (u : ConditionUnit) (c d : Condition) :
    (u.overfull c).flag d = (u.flag d || decide (c = d)) := flag_setFlag u c d

theorem overfull_alarmsDropped (u : ConditionUnit) (c : Condition) :
    (u.overfull c).counters.alarmsDropped = min 65535 (u.counters.alarmsDropped + 1) := saturate_eq_min ..

/-- LINK_ERROR's own frame is dropped and counted as well, when it makes one (R167). -/
theorem alarmLost_alarmsDropped (u : ConditionUnit) : u.alarmLost.counters.alarmsDropped =
    if u.flag .linkError = false ∧ u.isUnmasked .linkError = true then min 65535 (u.counters.alarmsDropped + 1)
    else u.counters.alarmsDropped := by
  unfold ConditionUnit.alarmLost
  cases u.flag .linkError with
  | true => simp
  | false =>
    cases u.isUnmasked .linkError with
    | true => exact saturate_eq_min ..
    | false => simp [ConditionUnit.setFlag]

theorem take_full_alarmsDropped (u : ConditionUnit) (c : Condition) :
    (u.overfull c).alarmLost.counters.alarmsDropped = min 65535 (u.counters.alarmsDropped +
      (if c ≠ .linkError ∧ u.flag .linkError = false ∧ u.isUnmasked .linkError = true then 2 else 1)) := by
  have unmasked : (u.overfull c).isUnmasked .linkError = u.isUnmasked .linkError := rfl
  have own : ((u.overfull c).flag .linkError = false ∧ (u.overfull c).isUnmasked .linkError = true) ↔
      (c ≠ .linkError ∧ u.flag .linkError = false ∧ u.isUnmasked .linkError = true) := by
    rw [overfull_flag, unmasked]
    simp only [Bool.or_eq_false_iff, decide_eq_false_iff_not]
    tauto
  rw [alarmLost_alarmsDropped, overfull_alarmsDropped]
  simp only [own]
  split <;> omega

end

/-! ### The raisings of a step -/

/-- An alarm shows the raising block's own fields as that block left them (R166; log 7). -/
theorem seen_raiser (pick : Nat → Nat) (s : State) (r : Raising) :
    (r.condition = .sheetBreak ∨ r.condition = .restored → (r.seen pick s).breakState = r.alarm.breakState) ∧
    (r.condition = .carriageSilent ∨ r.condition = .driveStall ∨ r.condition = .driveFault →
      (r.seen pick s).carriage = r.alarm.carriage ∧ (r.seen pick s).position = r.alarm.position) := by
  refine ⟨fun h => ?_, fun h => ?_⟩
  · rcases h with h | h <;> simp [Raising.seen, h]
  · rcases h with h | h | h <;> simp [Raising.seen, h]

/-- The raisings of a step with the alarms as which they are taken (R166; log 7). -/
theorem settle_takes_pairs (s : State) : ∃ l : List (Raising × AlarmFrame), (l.map Prod.fst).Perm s.conditions.raised ∧
    (settle s).conditions = (l.map Prod.snd).foldl ConditionUnit.take { s.conditions with raised := [] } ∧
    ∀ r a, (r, a) ∈ l → ∃ pick, a = r.seen pick s := by
  obtain ⟨l, pick, perm, e⟩ := settle_takes s
  refine ⟨l.map fun r => (r, r.seen (pick r.condition) s), ?_, ?_, fun r a h => ?_⟩
  · simpa [Function.comp_def] using perm
  · simpa [Function.comp_def] using e
  · obtain ⟨r', _, e⟩ := List.mem_map.mp h
    cases e
    exact ⟨_, rfl⟩

/-- Settles O20: one raising by its four cases, and all raisings of a step. -/
theorem raisingSetsFlagAndAlarms : Obligations.RaisingSetsFlagAndAlarms := by
  unfold Obligations.RaisingSetsFlagAndAlarms
  refine ⟨fun a u => ⟨fun set => ?_, fun clear masked => ?_, fun clear unmasked room => ?_,
    fun clear unmasked full => ?_⟩, fun s => ?_⟩
  · simp [ConditionUnit.take, set]
  · simp [ConditionUnit.take, clear, masked, ConditionUnit.setFlag, Condition.bit]
  · have room : u.alarms.length < Config.alarmCapacity := room
    simp [ConditionUnit.take, clear, unmasked, ConditionUnit.setFlag, Condition.bit, room]
  · obtain ⟨mask, alarms, -, summary, linkError, flags, -⟩ := alarmLost_frame (u.overfull a.condition)
    rw [take_full clear unmasked full]
    refine ⟨?_, linkError, summary rfl, alarms, mask, fun c own link => ?_, take_full_alarmsDropped u a.condition⟩
    · simp [flags, overfull_flag]
    · simp [flags, overfull_flag, link, Ne.symm own]
  · obtain ⟨raised, unmasked, -, -, taken, kept, -⟩ := settle_frame s
    obtain ⟨l, perm, e, seen⟩ := settle_takes_pairs s
    refine ⟨settle_nil s, settle_eq s, raised, unmasked, taken, kept, fun c link set => ?_, l, perm, e, fun r a h => ?_⟩
    · simpa using (settle_flag_iff s link).mp set
    · obtain ⟨pick, rfl⟩ := seen r a h
      obtain ⟨timestamp, scanNumber, frame, watch⟩ := seen_fields pick s r
      obtain ⟨ofWatch, ofFrame⟩ := seen_raiser pick s r
      rw [seen_condition]
      exact ⟨rfl, timestamp, scanNumber, frame, watch, ofWatch, ofFrame⟩

end Sys2Proof.Machine

/-! ## DRIVE_STATUS (O49) -/

namespace Sys2Proof.Machine

variable {s t : State} {d : DriveStatus}

/-- The one raising of a step, taken by the condition unit as it was made. -/
theorem settle_raise (c : Condition) (h : s.conditions.raised = []) : settle (raise c s) =
    { s with conditions := s.conditions.take (alarmNow c s), choices := s.choices + 1 } := by
  have one : (raise c s).conditions.raised = [⟨alarmNow c s, []⟩] := by simp [h]
  have same : { (raise c s).conditions with raised := [] } = s.conditions := by rw [← h]; rfl
  rw [settle_one _ _ one rfl, same]
  rfl

theorem isDriveFault_iff (d : DriveStatus) : isDriveFault d = true ↔ d.fault = true ∨ d.referenced = false := by
  simp [isDriveFault]

theorem not_isDriveFault (fault : d.fault = false) (referenced : d.referenced = true) : isDriveFault d = false := by
  simp [isDriveFault, fault, referenced]

/-! ### A drive fault -/

/-- With no collection running, a drive fault is a halt with DRIVE_FAULT. -/
theorem driveFault_of_idle (h : s.standardize.collection = none) : driveFault s = haltFor .driveFault s := by
  have idle : (haltCarriage s).standardize.collection = none := by simp [haltCarriage_eq, h]
  rw [haltFor_of_idle _ h, driveFault, abandonCollection_none _ idle, raise_sendStop_haltCarriage]

/-- A collection that runs is abandoned before the STOP (R38; log 14). -/
theorem driveFault_of_collecting {k : Collection} (hk : s.standardize.collection = some k)
    (ho : s.binning.openTraverse = none) :
    driveFault s = State.haltRaised (endCollection (handHead .normal s)) .driveFault := by
  have running : (haltCarriage s).standardize.collection = some k := by simp [haltCarriage_eq, hk]
  rw [driveFault, abandonCollection_some _ k running, haltCarriage_eq, abandonTraverse_none _ s ho]
  rfl

/-- A drive fault that finds no open traverse ends a collection without its condition. -/
theorem settle_driveFault_of_collecting {k : Collection} (quiet : s.conditions.raised = [])
    (hk : s.standardize.collection = some k) (ho : s.binning.openTraverse = none) :
    settle (driveFault s) = State.haltedBy (endCollection (handHead .normal s)) .driveFault := by
  rw [driveFault_of_collecting hk ho]
  exact settle_haltRaised .driveFault quiet

/-! ### The report by carriage state -/

/-- The state that has stored a drive status (R92). -/
def State.stored (s : State) (d : DriveStatus) : State :=
  { s with port := { s.port with receiver := .hunting }, frame := { s.frame with lastDrive := some d } }

theorem exec_driveStatus (d : DriveStatus) (s : State) :
    exec (.driveStatus d) s = .next (settle (takeDriveStatus d (carriageDelivered s))) := rfl

theorem takeDriveStatus_unreferenced (h : s.frame.carriage = .unreferenced) :
    takeDriveStatus d (carriageDelivered s) =
      if d.fault then raise .driveFault (sendStop (s.stored d))
      else if d.referenced then startSilence (goPark (s.stored d)) else s.stored d := by
  simp [takeDriveStatus, carriageDelivered, h, State.stored]

theorem takeDriveStatus_halted (h : s.frame.carriage = .halted) :
    takeDriveStatus d (carriageDelivered s) = raiseIf (isDriveFault d) .driveFault (s.stored d) := by
  simp [takeDriveStatus, carriageDelivered, h, State.stored]

theorem takeDriveStatus_referenced (away : s.frame.carriage ≠ .unreferenced) (up : s.frame.carriage ≠ .halted) :
    takeDriveStatus d (carriageDelivered s) = if isDriveFault d then driveFault (s.stored d) else s.stored d := by
  cases h : s.frame.carriage with
  | unreferenced => exact absurd h away
  | halted => exact absurd h up
  | _ => simp [takeDriveStatus, carriageDelivered, h, State.stored]

/-- A drive fault out of UNREFERENCED and HALTED, by what stands open. -/
theorem driveStatus_faults (away : s.frame.carriage ≠ .unreferenced) (up : s.frame.carriage ≠ .halted)
    (fault : d.fault = true ∨ d.referenced = false) :
    exec (.driveStatus d) s = .next (settle (driveFault (s.stored d))) := by
  rw [exec_driveStatus, takeDriveStatus_referenced away up, if_pos ((isDriveFault_iff d).mpr fault)]

/-- Settles O49: the report by carriage state, and a fault by what stands open. -/
theorem driveStatusByCarriageState : Obligations.DriveStatusByCarriageState := by
  unfold Obligations.DriveStatusByCarriageState
  intro d s quiet
  have alone : settle (s.stored d) = s.stored d := settle_nil _ quiet
  refine ⟨fun unreferenced => ?_, fun halted => ?_, fun away up => ⟨fun sound known => ?_, fun fault => ?_⟩⟩
  · rw [exec_driveStatus, takeDriveStatus_unreferenced unreferenced]
    refine ⟨fun fault => ?_, fun sound known => ?_, fun sound unknown => ?_⟩
    · rw [if_pos fault, settle_raise (s := sendStop (s.stored d)) _ quiet]
      rfl
    · rw [if_neg (by simp [sound]), if_pos known, goPark_eq]
      exact congrArg Host.Outcome.next (settle_nil _ quiet)
    · rw [if_neg (by simp [sound]), if_neg (by simp [unknown]), alone]
      rfl
  · rw [exec_driveStatus, takeDriveStatus_halted halted]
    refine ⟨fun fault => ?_, fun sound known => ?_⟩
    · rw [(isDriveFault_iff d).mpr fault]
      exact congrArg Host.Outcome.next (settle_raise (s := s.stored d) _ quiet)
    · rw [not_isDriveFault sound known]
      exact congrArg Host.Outcome.next alone
  · rw [exec_driveStatus, takeDriveStatus_referenced away up, not_isDriveFault sound known]
    exact congrArg Host.Outcome.next alone
  · rw [driveStatus_faults away up fault]
    refine ⟨fun ho idle => ?_, fun o ho idle => ⟨_, rfl, ?_⟩, fun k ho hk => ⟨_, rfl, ?_⟩⟩
    · rw [driveFault_of_idle (s := s.stored d) idle, haltFor_of_idle (s := s.stored d) _ idle,
        abandonTraverse_none (s := s.stored d) _ ho, settle_haltRaised (s := s.stored d) _ quiet]
      rfl
    · obtain ⟨opened, frame, port, expected, flag, notice⟩ :=
        settle_haltFor_of_open (s := s.stored d) .driveFault idle ho
      rw [driveFault_of_idle (s := s.stored d) idle]
      exact ⟨frame, opened, expected, port, flag, notice⟩
    · rw [settle_driveFault_of_collecting (s := s.stored d) quiet hk ho]
      refine ⟨rfl, rfl, rfl, rfl, ?_, ?_⟩
      · simp [State.haltedBy, take_flag, alarmNow]
      · simp [State.haltedBy, take_flag, alarmNow, State.stored]

end Sys2Proof.Machine

/-! ## START_SCAN, STOP_SCAN, PARK and RESUME (O58) -/

namespace Sys2Proof.Machine

variable {s t : State} {f : CommandFrame} {rest : List CommandFrame}

/-- A command without arguments past the gate is answered by its owner. -/
theorem serve_noArgs {row : CommandRow} (owner : Unit → State → Answer) (hand : AtHand f rest s) (hr : rowOf f = row)
    (hargs : f.args = []) (gate : row.altering = false ∨ s.conditions.summary = false) :
    serve row noArgs owner s = respond f (owner () (s.taken f rest)) :=
  serve_owner hand hr (by rw [hargs]; rfl) gate

theorem parkMode_iff (s : State) : parkMode s = true ↔ s.tables.sheet.mode ≠ .report := bne_iff_ne

/-! ### The checks of a start -/

theorem not_contextless_of_governing {c : Context} (h : governing s = some c) :
    ¬ (s.contexts.queue = [] ∧ s.contexts.inEffect = none) := by
  rintro ⟨empty, none⟩
  simp [governing, empty, none] at h

theorem startRefusal_away (h : s.frame.carriage = .unreferenced ∨ s.frame.carriage = .halted ∨
    (∃ sub, s.frame.carriage = .fixed sub) ∨ ∃ sub, s.frame.carriage = .probing sub) :
    startRefusal s = some .refusedState := by
  rcases h with h | h | ⟨_, h⟩ | ⟨_, h⟩ <;> simp [startRefusal, h]

theorem startRefusal_checks (h : s.frame.carriage.mayBeScanOn = true ∨ s.frame.carriage = .parked) :
    startRefusal s = if s.contexts.queue = [] ∧ s.contexts.inEffect = none then some .noContext
      else if parkMode s ∧ s.watch.state ≠ .sheetOn then some .refusedState else none := by
  cases hc : s.frame.carriage with
  | unreferenced | fixed | probing | halted => simp [hc, Carriage.mayBeScanOn] at h
  | _ => simp [startRefusal, hc]

theorem startRefusal_noContext (h : s.frame.carriage.mayBeScanOn = true ∨ s.frame.carriage = .parked)
    (contextless : s.contexts.queue = [] ∧ s.contexts.inEffect = none) : startRefusal s = some .noContext := by
  rw [startRefusal_checks h, if_pos contextless]

theorem startRefusal_broken (h : s.frame.carriage.mayBeScanOn = true ∨ s.frame.carriage = .parked)
    (context : ¬ (s.contexts.queue = [] ∧ s.contexts.inEffect = none))
    (broken : s.tables.sheet.mode ≠ .report ∧ s.watch.state ≠ .sheetOn) : startRefusal s = some .refusedState := by
  rw [startRefusal_checks h, if_neg context, if_pos (by rwa [parkMode_iff])]

theorem startRefusal_none (h : s.frame.carriage.mayBeScanOn = true ∨ s.frame.carriage = .parked)
    (context : ¬ (s.contexts.queue = [] ∧ s.contexts.inEffect = none))
    (sheet : ¬ (s.tables.sheet.mode ≠ .report ∧ s.watch.state ≠ .sheetOn)) : startRefusal s = none := by
  rw [startRefusal_checks h, if_neg context, if_neg (by rwa [parkMode_iff])]

/-! ### The owners of the four commands -/

theorem startCommand_refused {st : Status} (h : startRefusal s = some st) : startCommand () s = refuse st s := by
  simp [startCommand, h]

theorem startCommand_taken (h : startRefusal s = none) : startCommand () s = accept (startScanning s) := by
  simp [startCommand, h]

theorem startScanning_away (h : s.frame.carriage ≠ .parked) : startScanning s = setScanOn true s := if_neg h

theorem startScanning_parked {c : Context} (h : s.frame.carriage = .parked) (hg : governing s = some c) :
    startScanning s = (setScanOn true s).moving (.traverse .positioning .fwd) (limitsNow c s).front c.speed :=
  (if_pos h).trans (beginApproach_some (setScanOn true s) c hg)

theorem stopCommand_parks (h : (∃ sub, s.frame.carriage = .fixed sub) ∨
    ∃ d, s.frame.carriage = .traverse .positioning d) :
    stopCommand () s = accept ((setScanOn false s).moving .parking s.tables.frame.park 200) := by
  rcases h with ⟨_, h⟩ | ⟨_, h⟩ <;> simp [stopCommand, setScanOn, h, goPark_eq]

theorem stopCommand_stays (fixed : ∀ sub, s.frame.carriage ≠ .fixed sub)
    (positioning : ∀ d, s.frame.carriage ≠ .traverse .positioning d) :
    stopCommand () s = accept (setScanOn false s) := by
  cases h : s.frame.carriage with
  | fixed sub => exact absurd h (fixed sub)
  | traverse sub d =>
    cases sub with
    | positioning => exact absurd h (positioning d)
    | scanning => simp [stopCommand, setScanOn, h]
  | _ => simp [stopCommand, setScanOn, h]

theorem parkCommand_unreferenced (h : s.frame.carriage = .unreferenced) :
    parkCommand () s = refuse .refusedState s := by simp [parkCommand, h]

theorem parkCommand_parked (h : s.frame.carriage = .parked) :
    parkCommand () s = accept (setScanOn false s) := by simp [parkCommand, h]

theorem parkCommand_away (h : s.frame.carriage = .parking ∨ (∃ sub d, s.frame.carriage = .traverse sub d) ∨
    (∃ sub, s.frame.carriage = .fixed sub) ∨ ∃ sub, s.frame.carriage = .probing sub) :
    parkCommand () s = accept (goPark (abandonTraverse .park (setScanOn false s))) := by
  rcases h with h | ⟨_, _, h⟩ | ⟨_, h⟩ | ⟨_, h⟩ <;> simp [parkCommand, h]

theorem parkCommand_standardizing {c : Collection} (h : s.frame.carriage = .standardizing)
    (hk : s.standardize.collection = some c) : parkCommand () s =
      accept (State.moving (endCollection (handHead .normal (setScanOn false s))) .parking
        s.tables.frame.park 200) := by
  have running : (setScanOn false s).standardize.collection = some c := hk
  have taken : parkCommand () s = accept (goPark (abandonCollection (setScanOn false s))) := by simp [parkCommand, h]
  rw [taken, abandonCollection_some _ c running, goPark_eq]
  rfl

theorem driveReady_iff (s : State) : driveReady s = true ↔
    ∃ d, s.frame.lastDrive = some d ∧ d.referenced = true ∧ d.fault = false := by
  cases h : s.frame.lastDrive <;> simp [driveReady, h]

theorem parkCommand_halted_ready (h : s.frame.carriage = .halted) (ready : driveReady s = true) :
    parkCommand () s = accept (startSilence (s.moving .parking s.tables.frame.park 200)) := by
  simp [parkCommand, h, ready, goPark_eq]

theorem parkCommand_halted_refused (h : s.frame.carriage = .halted) (ready : driveReady s ≠ true) :
    parkCommand () s = refuse .refusedState s := by
  simp [parkCommand, h, ready]

theorem resumeCommand_away (h : ∀ sub, s.frame.carriage ≠ .fixed sub) :
    resumeCommand () s = refuse .refusedState s := by
  cases hc : s.frame.carriage with
  | fixed sub => exact absurd hc (h sub)
  | _ => simp [resumeCommand, hc]

theorem resumeCommand_fixed {sub : DwellSub} (h : s.frame.carriage = .fixed sub) : resumeCommand () s =
    if s.contexts.queue = [] ∧ s.contexts.inEffect = none then refuse .noContext s
    else if parkMode s ∧ s.watch.state ≠ .sheetOn then refuse .refusedState s
    else accept (beginApproach (setScanOn true s)) := by
  simp [resumeCommand, h]

theorem resumeCommand_noContext {sub : DwellSub} (h : s.frame.carriage = .fixed sub)
    (contextless : s.contexts.queue = [] ∧ s.contexts.inEffect = none) : resumeCommand () s = refuse .noContext s := by
  rw [resumeCommand_fixed h, if_pos contextless]

theorem resumeCommand_broken {sub : DwellSub} (h : s.frame.carriage = .fixed sub)
    (context : ¬ (s.contexts.queue = [] ∧ s.contexts.inEffect = none))
    (broken : s.tables.sheet.mode ≠ .report ∧ s.watch.state ≠ .sheetOn) :
    resumeCommand () s = refuse .refusedState s := by
  rw [resumeCommand_fixed h, if_neg context, if_pos (by rwa [parkMode_iff])]

theorem resumeCommand_taken {sub : DwellSub} {c : Context} (h : s.frame.carriage = .fixed sub)
    (hg : governing s = some c)
    (sheet : ¬ (s.tables.sheet.mode ≠ .report ∧ s.watch.state ≠ .sheetOn)) : resumeCommand () s =
      accept ((setScanOn true s).moving (.traverse .positioning .fwd) (limitsNow c s).front c.speed) := by
  rw [resumeCommand_fixed h, if_neg (not_contextless_of_governing hg), if_neg (by rwa [parkMode_iff]),
    beginApproach_some (setScanOn true s) c hg]
  rfl

/-! ### A traverse abandoned by a command -/

theorem any_not_isProfile (l : List ReportFrame) : l.any (fun f => !f.isProfile) = true ↔ noticeCount l ≠ 0 := by
  simp [noticeCount, List.countP_eq_zero]

theorem placeNotice_counted (n : Notice) (s : State) : placeNotice n s = { s with
    mill := { s.mill with reports := s.mill.reports.filter ReportFrame.isProfile ++ [.notice n] }
    conditions := { s.conditions with counters := { s.conditions.counters with
      reportsDropped := if noticeCount s.mill.reports = 0 then s.conditions.counters.reportsDropped
        else min 65535 (s.conditions.counters.reportsDropped + 1) } } } := by
  rw [placeNotice_eq]
  simp only [any_not_isProfile, ite_not]

/-- An abandonment with the notice written out (R64): the notice is the newest frame of the buffer, and a notice it
replaces is counted. -/
theorem abandonTraverse_open (r : AbandonReason) {o : OpenTraverse} (h : s.binning.openTraverse = some o) :
    abandonTraverse r s = { s with
      binning := { s.binning with openTraverse := none }
      mill := { s.mill with reports := s.mill.reports.filter ReportFrame.isProfile ++
        [.notice ⟨s.closeOut.scanNumber, s.clock, o.direction, o.context.tag, o.map.identity, r⟩] }
      conditions := { s.conditions with counters := { s.conditions.counters with
        reportsDropped := if noticeCount s.mill.reports = 0 then s.conditions.counters.reportsDropped
          else min 65535 (s.conditions.counters.reportsDropped + 1) } } } := by
  rw [abandonTraverse_some r s o h, placeNotice_counted]
  rfl

/-! ### The four commands -/

theorem startScan_served (hand : AtHand f rest s) (hargs : f.args = []) (hcode : f.code = 0x07#8)
    (gate : s.conditions.summary = false) :
    exec .startScan s = .next (respond f (startCommand () (s.taken f rest))) :=
  congrArg Host.Outcome.next (serve_noArgs _ hand (by simp [rowOf, hcode]) hargs (.inr gate))

theorem stopScan_served (hand : AtHand f rest s) (hargs : f.args = []) (hcode : f.code = 0x08#8) :
    exec .stopScan s = .next (respond f (stopCommand () (s.taken f rest))) :=
  congrArg Host.Outcome.next (serve_noArgs _ hand (by simp [rowOf, hcode]) hargs (.inl rfl))

theorem park_served (hand : AtHand f rest s) (hargs : f.args = []) (hcode : f.code = 0x09#8) :
    exec .park s = .next (respond f (parkCommand () (s.taken f rest))) :=
  congrArg Host.Outcome.next (serve_noArgs _ hand (by simp [rowOf, hcode]) hargs (.inl rfl))

theorem resume_served (hand : AtHand f rest s) (hargs : f.args = []) (hcode : f.code = 0x0A#8)
    (gate : s.conditions.summary = false) :
    exec .resume s = .next (respond f (resumeCommand () (s.taken f rest))) :=
  congrArg Host.Outcome.next (serve_noArgs _ hand (by simp [rowOf, hcode]) hargs (.inr gate))

/-- Settles O58: each command by its owner's cases. -/
theorem scanCommandsByCarriageState : Obligations.ScanCommandsByCarriageState := by
  unfold Obligations.ScanCommandsByCarriageState
  intro f rest s hand hargs contextless broken flagged
  refine ⟨fun hcode gate => ?_, fun hcode => ?_, fun hcode => ?_, fun hcode gate => ?_⟩
  · rw [startScan_served hand hargs hcode gate]
    refine ⟨fun away => ?_, fun ready => ⟨fun none => ?_, fun context down => ?_, fun context sheet away => ?_,
      fun c hg sheet parked => ?_⟩⟩
    · rw [startCommand_refused (startRefusal_away (s := s.taken f rest) away)]
      rfl
    · rw [startCommand_refused (startRefusal_noContext (s := s.taken f rest) ready none)]
      rfl
    · rw [startCommand_refused (startRefusal_broken (s := s.taken f rest) ready context down)]
      rfl
    · rw [startCommand_taken (startRefusal_none (s := s.taken f rest) ready context sheet),
        startScanning_away (s := s.taken f rest) away]
      rfl
    · rw [startCommand_taken (startRefusal_none (s := s.taken f rest) ready (not_contextless_of_governing hg) sheet),
        startScanning_parked (s := s.taken f rest) parked hg]
      rfl
  · rw [stopScan_served hand hargs hcode]
    refine ⟨fun parks => ?_, fun fixed positioning => ?_⟩
    · rw [stopCommand_parks (s := s.taken f rest) parks]
      rfl
    · rw [stopCommand_stays (s := s.taken f rest) fixed positioning]
      rfl
  · rw [park_served hand hargs hcode]
    refine ⟨fun hc => ?_, fun hc => ?_, fun ho away => ?_, fun o sub d ho hc => ⟨_, ?_, rfl⟩,
      fun c hc hk => ⟨_, rfl, ?_⟩, fun hc => ⟨fun d hd known sound => ?_, fun unready => ?_⟩⟩
    · rw [parkCommand_unreferenced (s := s.taken f rest) hc]
      rfl
    · rw [parkCommand_parked (s := s.taken f rest) hc]
      rfl
    · rw [parkCommand_away (s := s.taken f rest) away,
        abandonTraverse_none (s := setScanOn false (s.taken f rest)) _ ho, goPark_eq]
      rfl
    · rw [parkCommand_away (s := s.taken f rest) (.inr (.inl ⟨sub, d, hc⟩)),
        abandonTraverse_open (s := setScanOn false (s.taken f rest)) .park ho, goPark_eq]
      rfl
    · rw [parkCommand_standardizing (s := s.taken f rest) hc hk]
      exact ⟨rfl, rfl, rfl, rfl, rfl, rfl⟩
    · rw [parkCommand_halted_ready (s := s.taken f rest) hc ((driveReady_iff _).mpr ⟨d, hd, known, sound⟩)]
      rfl
    · have fails : driveReady s ≠ true := by
        rw [Ne, driveReady_iff]
        rintro ⟨d, hd, known, sound⟩
        simpa [known, sound] using unready d hd
      rw [parkCommand_halted_refused (s := s.taken f rest) hc fails]
      rfl
  · rw [resume_served hand hargs hcode gate]
    refine ⟨fun away => ?_, fun sub hc => ?_⟩
    · rw [resumeCommand_away (s := s.taken f rest) away]
      rfl
    · refine ⟨fun none => ?_, fun context down => ?_, fun c hg sheet => ?_⟩
      · rw [resumeCommand_noContext (s := s.taken f rest) hc none]
        rfl
      · rw [resumeCommand_broken (s := s.taken f rest) hc context down]
        rfl
      · rw [resumeCommand_taken (s := s.taken f rest) hc hg sheet]
        rfl

end Sys2Proof.Machine

/-! ## FIXED_POINT and STANDARDIZE (O59) -/

namespace Sys2Proof.Machine

variable {s t : State} {f : CommandFrame} {rest : List CommandFrame} {p : Nat}

/-! ### The owners of the two commands -/

theorem twoBytes_be16 (h : p ≤ 65535) : twoBytes (be16 p) = some p := congrArg some (u16_be16 p h)

theorem fixedPointCommand_beyond (h : 32767 < p) : fixedPointCommand p s = refuse .badArgument s := if_pos h

theorem fixedPointCommand_refused (hp : p ≤ 32767) (h : s.frame.carriage = .unreferenced ∨
    s.frame.carriage = .standardizing ∨ s.frame.carriage = .halted ∨ ∃ sub, s.frame.carriage = .probing sub) :
    fixedPointCommand p s = refuse .refusedState s := by
  refine (if_neg (Nat.not_lt.mpr hp)).trans ?_
  rcases h with h | h | h | ⟨_, h⟩ <;> simp [h]

theorem fixedPointCommand_away (hp : p ≤ 32767) (h : s.frame.carriage = .parking ∨ s.frame.carriage = .parked ∨
    (∃ sub d, s.frame.carriage = .traverse sub d) ∨ ∃ sub, s.frame.carriage = .fixed sub) :
    fixedPointCommand p s =
      if parkMode s ∧ s.watch.state ≠ .sheetOn then refuse .refusedState s else accept (goFixed p s) := by
  refine (if_neg (Nat.not_lt.mpr hp)).trans ?_
  rcases h with h | h | ⟨_, _, h⟩ | ⟨_, h⟩ <;> simp [h]

theorem fixedPointCommand_broken (hp : p ≤ 32767) (h : s.frame.carriage = .parking ∨ s.frame.carriage = .parked ∨
    (∃ sub d, s.frame.carriage = .traverse sub d) ∨ ∃ sub, s.frame.carriage = .fixed sub)
    (mode : s.tables.sheet.mode ≠ .report) (broken : s.watch.state ≠ .sheetOn) :
    fixedPointCommand p s = refuse .refusedState s := by
  rw [fixedPointCommand_away hp h, if_pos ⟨(parkMode_iff s).mpr mode, broken⟩]

theorem fixedPointCommand_taken (hp : p ≤ 32767) (h : s.frame.carriage = .parking ∨ s.frame.carriage = .parked ∨
    (∃ sub d, s.frame.carriage = .traverse sub d) ∨ ∃ sub, s.frame.carriage = .fixed sub)
    (sheet : s.tables.sheet.mode = .report ∨ s.watch.state = .sheetOn) :
    fixedPointCommand p s = accept (goFixed p s) := by
  rw [fixedPointCommand_away hp h, if_neg]
  rw [parkMode_iff]
  tauto

/-- The carriage sent to a fixed point (R104), the abandonment of an open traverse left as it is. -/
theorem goFixed_eq (p : Nat) (s : State) : goFixed p s =
    let u := abandonTraverse .fixed (setScanOn false s)
    State.moving { u with frame := { u.frame with fixedPoint := some p } } (.fixed .moving) p (fixedSpeed u) :=
  setCarriage_sendMove _ _ _ _ rfl

theorem standardizeCommand_refused (h : s.frame.carriage = .unreferenced ∨ s.frame.carriage = .halted) :
    standardizeCommand () s = refuse .refusedState s := by
  rcases h with h | h <;> simp [standardizeCommand, h]

theorem standardizeCommand_running (h : s.frame.carriage = .standardizing) : standardizeCommand () s = accept s := by
  simp [standardizeCommand, h]

theorem standardizeCommand_parked (h : s.frame.carriage = .parked) :
    standardizeCommand () s = accept (setRequest s) := by
  simp [standardizeCommand, h]

/-- On the way, over the sheet or dwelling, a STANDARDIZE waits. -/
theorem standardizeCommand_waits (h : s.frame.carriage.hasMove = true ∨ s.frame.carriage.isScanning = true ∨
    s.frame.carriage = .fixed .dwelling ∨ s.frame.carriage = .probing .dwelling) : standardizeCommand () s =
      accept { s with standardize := { s.standardize with request := true } } := by
  cases hc : s.frame.carriage with
  | unreferenced | parked | standardizing | halted => simp [hc, Carriage.hasMove, Carriage.isScanning] at h
  | _ => simp [standardizeCommand, setRequest, hc]

/-- In PARKED a request starts the collection at once (R28, R29, R95). -/
theorem setRequest_parked (h : s.frame.carriage = .parked) : setRequest s = { s with
    frame := { s.frame with carriage := .standardizing }
    standardize := ⟨true, s.standardize.counter, some ⟨participantsNow s, s.tables.frame.s, 0,
      ⟨s.tables.frame.stdTimeout, 0⟩⟩⟩
    watch := { s.watch with breakRun := 0, heldRun := none, sheetRun := 0 }
    port := s.port.handHead .reference } := by
  unfold setRequest enterStandardizing
  rw [if_pos h, setCarriage_quiet _ _ rfl]
  rfl

/-! ### The two commands -/

theorem fixedPoint_served (hand : AtHand f rest s) (gate : s.conditions.summary = false) (hcode : f.code = 0x0B#8)
    (hp : p ≤ 65535) (hargs : f.args = be16 p) :
    exec .fixedPoint s = .next (respond f (fixedPointCommand p (s.taken f rest))) :=
  congrArg Host.Outcome.next
    (serve_owner hand (by simp [rowOf, hcode]) (by rw [hargs, twoBytes_be16 hp]) (.inr gate))

theorem standardize_served (hand : AtHand f rest s) (gate : s.conditions.summary = false) (hcode : f.code = 0x0C#8)
    (hargs : f.args = []) :
    exec .standardize s = .next (respond f (standardizeCommand () (s.taken f rest))) :=
  congrArg Host.Outcome.next (serve_noArgs _ hand (by simp [rowOf, hcode]) hargs (.inr gate))

/-- Settles O59: each command by its owner's cases. -/
theorem fixedPointAndStandardize : Obligations.FixedPointAndStandardize := by
  unfold Obligations.FixedPointAndStandardize
  intro f rest s hand gate
  refine ⟨fun hcode p hw hargs => ?_, fun hcode hargs => ?_⟩
  · rw [fixedPoint_served hand gate hcode hw hargs]
    refine ⟨fun beyond => ?_, fun hp refused => ?_, fun hp away => ⟨fun mode broken => ?_, fun sheet ho => ?_,
      fun o sheet ho => ?_⟩⟩
    · rw [fixedPointCommand_beyond beyond]
      rfl
    · rw [fixedPointCommand_refused (s := s.taken f rest) hp refused]
      rfl
    · rw [fixedPointCommand_broken (s := s.taken f rest) hp away mode broken]
      rfl
    · rw [fixedPointCommand_taken (s := s.taken f rest) hp away sheet, goFixed_eq,
        abandonTraverse_none (s := setScanOn false (s.taken f rest)) _ ho]
      rfl
    · rw [fixedPointCommand_taken (s := s.taken f rest) hp away sheet, goFixed_eq,
        abandonTraverse_open (s := setScanOn false (s.taken f rest)) .fixed ho]
      rfl
  · rw [standardize_served hand gate hcode hargs]
    refine ⟨fun refused => ?_, fun running => ?_, fun waits => ?_, fun parked => ?_⟩
    · rw [standardizeCommand_refused (s := s.taken f rest) refused]
      rfl
    · rw [standardizeCommand_running (s := s.taken f rest) running]
      rfl
    · rw [standardizeCommand_waits (s := s.taken f rest) waits]
      rfl
    · rw [standardizeCommand_parked (s := s.taken f rest) parked, setRequest_parked (s := s.taken f rest) parked]
      exact ⟨_, _, rfl, rfl, rfl, rfl, rfl, rfl, rfl, rfl, rfl⟩

end Sys2Proof.Machine

/-! ## REPORT: the end of the close-out (O41) -/

namespace Sys2Proof.Machine

variable {s t : State} {bank : Bank} {p : ClosingParams} {m : MeansResults} {st : StatsResults}
  {mons : List MonitorResult}

/-! ### The trend ring and the report -/

theorem appendTrend_room (ring : List TrendRecord) (r : TrendRecord) (h : ring.length < 64) :
    appendTrend ring r = ring ++ [r] := by
  have room : ring.length + 1 - Config.trendCapacity = 0 := Nat.sub_eq_zero_of_le h
  rw [appendTrend, room, List.drop_zero]

theorem appendTrend_full (ring : List TrendRecord) (r : TrendRecord) (h : ring.length = 64) :
    appendTrend ring r = ring.tail ++ [r] := by
  cases ring with
  | nil => simp at h
  | cons a rest =>
    have one : (a :: rest).length + 1 - Config.trendCapacity = 1 := by rw [h]; rfl
    rw [appendTrend, one]
    rfl

theorem anyAtLimit_iff (e : Edges) : e.anyAtLimit = true ↔ e.frontAtLimit = true ∨ e.backAtLimit = true := by
  simp [Edges.anyAtLimit]

theorem noteClears_iff (n : Option ProfileNote) :
    noteClears n = true ↔ n = some .cleared ∨ n = some .restoreFailed := by
  rcases n with _ | _ | _ | _ <;> simp [noteClears]

theorem profileReport_channels (scan : Nat) (store : ProfileStore) :
    (profileReport scan bank p m st mons store).map ProfileReport.channel =
      [ProfileChannel.bw, .mo, .ca, .dw].filter (fun c => (m.channels.get c).isSome) := by
  rw [profileReport, List.map_filterMap, ← List.filterMap_eq_filter]
  congr 1
  funext c
  cases h : m.channels.get c <;> simp [h, reportFrame, Option.guard]

theorem mem_profileReport {scan : Nat} {store : ProfileStore} {g : ProfileReport}
    (h : g ∈ profileReport scan bank p m st mons store) : ∃ cm, m.channels.get g.channel = some cm ∧
      g = reportFrame scan bank p m st mons store g.channel cm := by
  obtain ⟨c, -, found⟩ := List.mem_filterMap.mp h
  obtain ⟨cm, some, rfl⟩ := Option.map_eq_some_iff.mp found
  exact ⟨cm, some, rfl⟩

/-! ### What REPORT leaves before a standardize falls due -/

/-- The state after REPORT, a standardize that falls due left aside (R80, R83, R85, R86, R124). -/
def State.reported (s : State) (p : ClosingParams) (ring : List TrendRecord) (frames : List ProfileReport) : State :=
  { s with
    closeOut := ⟨.idle, nextScan s⟩
    binning := { s.binning with
      lastGood := if p.edges.lost then s.binning.lastGood else some ⟨p.edges.front, p.edges.back⟩ }
    profile := match s.profile.action with
      | none => { s.profile with note := none, trend := ring }
      | some a => { s.profile with note := none, trend := ring, action := none }.applyAction a
    standardize := { s.standardize with counter := min 255 (s.standardize.counter + 1) }
    mill := { s.mill with reports := s.mill.reports.filter (fun g => !g.isProfile) ++ frames.map ReportFrame.profile }
    conditions := { s.conditions with counters := { s.conditions.counters with
      reportsDropped := if s.mill.reports.any ReportFrame.isProfile
        then min 65535 (s.conditions.counters.reportsDropped + 1) else s.conditions.counters.reportsDropped } } }

/-- What the return to IDLE leaves of the profile store: a waiting action applied (R86, R124). -/
theorem applyPending_eq (s : State) : applyPending s = { s with profile := match s.profile.action with
    | none => s.profile
    | some a => { s.profile with action := none }.applyAction a } := by
  cases h : s.profile.action <;> simp [applyPending, h]

/-- The trend ring after REPORT (R83). -/
def State.trendAfter (s : State) (p : ClosingParams) (m : MeansResults) (st : StatsResults) : List TrendRecord :=
  appendTrend s.profile.trend (trendRecord (nextScan s) s.profile.note p m st)

theorem completeReport_eq : completeReport bank p m st mons s = checkDue (s.reported p (s.trendAfter p m st)
    (profileReport (nextScan s) bank p m st mons s.profile)) := by
  dsimp only [completeReport]
  rw [placeReport_eq, saturate_eq_min]
  rw [applyPending_eq]
  rfl

/-! ### A standardize that falls due -/

theorem standardizeDue_iff (s : State) : standardizeDue s = true ↔
    ∃ c, s.contexts.inEffect = some c ∧ c.interval ≠ 0 ∧ c.interval ≤ s.standardize.counter := by
  cases h : s.contexts.inEffect <;> simp [standardizeDue, h]

theorem setRequest_away (h : s.frame.carriage ≠ .parked) :
    setRequest s = { s with standardize := { s.standardize with request := true } } := if_neg h

theorem checkDue_notDue (h : ¬ standardizeDue s = true) : checkDue s = s := if_neg h

theorem checkDue_due (h : standardizeDue s = true) : checkDue s = setRequest s := if_pos h

theorem exec_reportComplete (h : s.closeOut.engine = .report bank p m st mons) :
    exec .reportComplete s = .next (completeReport bank p m st mons s) := by
  show execReportComplete s = _
  simp [execReportComplete, h]

/-- Settles O41: what REPORT leaves, then the standardize that falls due. -/
theorem reportEndsTheCloseOut : Obligations.ReportEndsTheCloseOut := by
  unfold Obligations.ReportEndsTheCloseOut
  intro s bank p m st mons hs
  have due := standardizeDue_iff (s.reported p (s.trendAfter p m st)
    (profileReport (nextScan s) bank p m st mons s.profile))
  refine ⟨_, trendRecord (nextScan s) s.profile.note p m st, s.trendAfter p m st,
    profileReport (nextScan s) bank p m st mons s.profile, exec_reportComplete hs, ?_, appendTrend_room _ _,
    appendTrend_full _ _, rfl, rfl, rfl, rfl, rfl, rfl, anyAtLimit_iff _, noteClears_iff _, rfl, rfl, fun c => ?_,
    profileReport_channels _ _, fun g h => mem_profileReport h⟩
  · rw [completeReport_eq]
    refine ⟨fun early => ?_, fun late away => ?_, fun late parked => ?_⟩
    · rw [checkDue_notDue (fun h => early (due.mp h))]
      rfl
    · rw [checkDue_due (due.mpr late), setRequest_away (s := s.reported p _ _) away]
      rfl
    · rw [checkDue_due (due.mpr late), setRequest_parked (s := s.reported p _ _) parked]
      rfl
  · exact PerProfile.get_make _ c

end Sys2Proof.Machine

/-! ## The timers of the standardize unit and the break watch (O48) -/

namespace Sys2Proof.Machine

variable {s t : State}

/-! ### The std timer (R36) -/

/-- The state that has abandoned a collection with STD_ABORT, before the standardize ends (R36). -/
def State.timedOut (s : State) : State := raise .stdAbort (endCollection (handHead .normal s))

theorem stdTimerExpiry_due {c : Collection} (hc : s.standardize.collection = some c) (due : c.timer.due = true) :
    exec .stdTimerExpiry s = .next (settle (standardizeEnded s.timedOut)) := by
  show execStdTimerExpiry s = _
  simp [execStdTimerExpiry, hc, due, abandonCollection_some s c hc, State.timedOut]

theorem settle_timedOut_stdAbort (s : State) :
    (settle (standardizeEnded s.timedOut)).conditions.flag .stdAbort = true := by
  obtain ⟨-, -, -, -, taken, -, -⟩ := settle_frame (standardizeEnded s.timedOut)
  refine taken ⟨alarmNow .stdAbort s, []⟩ ?_
  rw [standardizeEnded_eq]
  exact List.mem_append_right _ (List.mem_singleton_self _)

/-! ### The probe timer and the probe dwell (R142, R145) -/

/-- The state in which the probe timer is idle. -/
def State.probeIdle (s : State) : State := { s with watch := { s.watch with probe := none } }

/-- The state in which a probe dwell is over (R145). -/
def State.dwellOver (s : State) : State := { s with watch := { s.watch with dwell := none, sheetRun := 0 } }

theorem probeTimerExpiry_due (due : timerDue s.watch.probe = true) :
    exec .probeTimerExpiry s = .next (probeRequest s.probeIdle) :=
  congrArg Host.Outcome.next (if_pos due)

theorem probeRequest_parked (h : s.frame.carriage = .parked) :
    probeRequest s = s.moving (.probing .moving) s.tables.frame.probe 200 :=
  (if_pos h).trans (setCarriage_sendMove _ _ _ _ rfl)

theorem probeRequest_away (h : s.frame.carriage ≠ .parked) : probeRequest s = startProbeTimer s := if_neg h

theorem probeDwellExpiry_due (due : timerDue s.watch.dwell = true) :
    exec .probeDwellExpiry s = .next (startProbeTimer (parkRequest s.dwellOver)) :=
  congrArg Host.Outcome.next (if_pos due)

theorem parkRequest_probing {sub : DwellSub} (h : s.frame.carriage = .probing sub) :
    parkRequest s = (setScanOn false s).moving .parking s.tables.frame.park 200 := by
  simp [parkRequest, h, goPark_eq, setScanOn]

theorem parkRequest_onTheWay (h : s.frame.carriage = .parking ∨ s.frame.carriage = .standardizing) :
    parkRequest s = setScanOn false s := by
  rcases h with h | h <;> simp [parkRequest, h]

theorem parkRequest_parked (h : s.frame.carriage = .parked) : parkRequest s = watchArrival (setScanOn false s) := by
  simp [parkRequest, h]

theorem parkRequest_absent (h : s.frame.carriage = .unreferenced ∨ s.frame.carriage = .halted) : parkRequest s = s := by
  rcases h with h | h <;> simp [parkRequest, h]

/-- In SHEET_OFF an arrival starts the probe timer, if it starts anything. -/
theorem startProbeTimer_watchArrival (h : s.watch.state = .sheetOff) :
    startProbeTimer (watchArrival s) = startProbeTimer s := by
  simp only [watchArrival, h]
  split <;> rfl

/-! ### The end of a break by its settings (R147) -/

/-- The park request of an ended break, made in PARK and LATCHED mode. -/
def homed (s : State) : State := if parkMode s then parkRequest s else s

/-- The standardize request of an ended break, made if the settings say so. -/
def asked (s : State) : State := if s.tables.sheet.standardizeAfter then setRequest s else s

/-- The start request of an ended break, made if the settings say so. -/
def resumed (s : State) : State := if s.tables.sheet.autoResume then startRequest s else s

theorem endBreak_eq (s : State) : endBreak s =
    { resumed (asked (homed s.restored)) with
      watch := { (resumed (asked (homed s.restored))).watch with heldRun := runStanding s } } := rfl

/-- An ended break resumes: the settings say so, and there is a context. -/
def Resumes (s : State) : Prop :=
  s.tables.sheet.autoResume = true ∧ (s.contexts.queue ≠ [] ∨ s.contexts.inEffect ≠ none)

/-- The park request moves nothing: it clears the scan-on flag at most. -/
theorem homed_stays (sheet : s.watch.state = .sheetOn) (h : s.tables.sheet.mode = .report ∨
    s.frame.carriage = .unreferenced ∨ s.frame.carriage = .halted ∨ s.frame.carriage = .parked ∨
    s.frame.carriage = .parking ∨ s.frame.carriage = .standardizing) :
    ∃ b, homed s = setScanOn b s ∧ (b = true ↔ s.frame.scanOn = true ∧
      (s.tables.sheet.mode = .report ∨ s.frame.carriage = .unreferenced ∨ s.frame.carriage = .halted)) := by
  by_cases report : s.tables.sheet.mode = .report
  · exact ⟨s.frame.scanOn, if_neg (by simpa [parkMode_iff] using report), by simp [report]⟩
  · have parks : homed s = parkRequest s := if_pos ((parkMode_iff s).mpr report)
    have arrived : watchArrival (setScanOn false s) = setScanOn false s := by simp [watchArrival, setScanOn, sheet]
    obtain h | h | h | h | h | h := h
    · exact absurd h report
    · exact ⟨s.frame.scanOn, parks.trans (parkRequest_absent (.inl h)), by simp [h]⟩
    · exact ⟨s.frame.scanOn, parks.trans (parkRequest_absent (.inr h)), by simp [h]⟩
    · exact ⟨false, parks.trans ((parkRequest_parked h).trans arrived), by simp [h, report]⟩
    · exact ⟨false, parks.trans (parkRequest_onTheWay (.inl h)), by simp [h, report]⟩
    · exact ⟨false, parks.trans (parkRequest_onTheWay (.inr h)), by simp [h, report]⟩

theorem abandonTraverse_keeps (r : AbandonReason) (s : State) : abandonTraverse r s = { s with
    binning := (abandonTraverse r s).binning
    mill := (abandonTraverse r s).mill
    conditions := { s.conditions with counters := (abandonTraverse r s).conditions.counters } } := by
  cases ho : s.binning.openTraverse with
  | none => rw [abandonTraverse_none r s ho]
  | some o => rw [abandonTraverse_open r ho]

/-- From abroad the carriage is sent home, and an open traverse is abandoned with its notice (R64, R109). -/
theorem homed_abroad (mode : s.tables.sheet.mode ≠ .report) (h : (∃ sub d, s.frame.carriage = .traverse sub d) ∨
    (∃ sub, s.frame.carriage = .fixed sub) ∨ ∃ sub, s.frame.carriage = .probing sub) :
    ∃ binning mill counters, homed s = State.moving { setScanOn false s with
        binning := binning, mill := mill, conditions := { s.conditions with counters := counters } }
        .parking s.tables.frame.park 200 ∧
      ∀ o sub d, s.frame.carriage = .traverse sub d → s.binning.openTraverse = some o → binning.openTraverse = none ∧
        ReportFrame.notice ⟨s.closeOut.scanNumber, s.clock, o.direction, o.context.tag, o.map.identity, .brk⟩ ∈
          mill.reports := by
  have parks : homed s = parkRequest s := if_pos ((parkMode_iff s).mpr mode)
  rw [parks]
  obtain ⟨sub, d, h⟩ | h := h
  · have abandons : parkRequest s = goPark (abandonTraverse .brk (setScanOn false s)) := by simp [parkRequest, h]
    rw [abandons, goPark_eq, abandonTraverse_keeps]
    refine ⟨(abandonTraverse .brk (setScanOn false s)).binning, (abandonTraverse .brk (setScanOn false s)).mill,
      (abandonTraverse .brk (setScanOn false s)).conditions.counters, rfl, fun o _ _ _ ho => ?_⟩
    rw [abandonTraverse_open (s := setScanOn false s) .brk ho]
    exact ⟨rfl, List.mem_append_right _ (List.mem_singleton_self _)⟩
  · have leaves : parkRequest s = goPark (setScanOn false s) := by
      rcases h with ⟨_, h⟩ | ⟨_, h⟩ <;> simp [parkRequest, h]
    rw [leaves, goPark_eq]
    refine ⟨s.binning, s.mill, s.conditions.counters, rfl, fun o sub d traverse => ?_⟩
    rcases h with ⟨_, h⟩ | ⟨_, h⟩ <;> cases h.symm.trans traverse

theorem asked_away (h : s.frame.carriage ≠ .parked) : asked s = { s with standardize := { s.standardize with
    request := s.standardize.request || s.tables.sheet.standardizeAfter } } := by
  unfold asked
  cases s.tables.sheet.standardizeAfter with
  | true => rw [if_pos rfl, setRequest_away h, Bool.or_true]
  | false => rw [if_neg Bool.false_ne_true, Bool.or_false]

theorem asked_of_not (h : s.tables.sheet.standardizeAfter = false) : asked s = s := if_neg (by simp [h])

theorem asked_of (h : s.tables.sheet.standardizeAfter = true) : asked s = setRequest s := if_pos h

theorem resumed_of_not (h : s.tables.sheet.autoResume = false) : resumed s = s := if_neg (by simp [h])

theorem resumed_of (h : s.tables.sheet.autoResume = true) : resumed s = startRequest s := if_pos h

theorem startRequest_refused {st : Status} (h : startRefusal s = some st) : startRequest s = s := if_neg (by simp [h])

theorem startRequest_taken (h : startRefusal s = none) : startRequest s = startScanning s := if_pos (by simp [h])

theorem context_iff (s : State) : (s.contexts.queue ≠ [] ∨ s.contexts.inEffect ≠ none) ↔
    ¬ (s.contexts.queue = [] ∧ s.contexts.inEffect = none) := by tauto

/-- Without a context, or without the setting, nothing starts. -/
theorem resumed_stays (h : s.frame.carriage.mayBeScanOn = true ∨ s.frame.carriage = .parked) (not : ¬ Resumes s) :
    resumed s = s := by
  cases setting : s.tables.sheet.autoResume with
  | false => exact resumed_of_not setting
  | true =>
    have contextless : s.contexts.queue = [] ∧ s.contexts.inEffect = none := by
      simpa [Resumes, setting] using not
    rw [resumed_of setting, startRequest_refused (startRefusal_noContext h contextless)]

/-- Out of PARKED a start sets the scan-on flag and moves nothing. -/
theorem resumed_away (sheet : s.watch.state = .sheetOn) (away : s.frame.carriage ≠ .parked) :
    ∃ b, resumed s = setScanOn b s ∧
      (b = true ↔ s.frame.scanOn = true ∨ (Resumes s ∧ s.frame.carriage.mayBeScanOn = true)) := by
  by_cases able : s.frame.carriage.mayBeScanOn = true
  · by_cases resumes : Resumes s
    · obtain ⟨setting, context⟩ := resumes
      have free : startRefusal s = none :=
        startRefusal_none (.inl able) ((context_iff s).mp context) (by simp [sheet])
      exact ⟨true, by rw [resumed_of setting, startRequest_taken free, startScanning_away away],
        by simp [Resumes, setting, context, able]⟩
    · exact ⟨s.frame.scanOn, resumed_stays (.inl able) resumes, by simp [resumes]⟩
  · refine ⟨s.frame.scanOn, ?_, by simp [able]⟩
    cases setting : s.tables.sheet.autoResume with
    | false => exact resumed_of_not setting
    | true =>
      have refused : startRefusal s = some .refusedState := by
        apply startRefusal_away
        cases hc : s.frame.carriage with
        | parked => exact absurd hc away
        | parking | standardizing | traverse => simp [hc, Carriage.mayBeScanOn] at able
        | _ => simp
      rw [resumed_of setting, startRequest_refused refused]
      rfl

/-- In PARKED a start begins an approach. -/
theorem resumed_parked {g : Context} (sheet : s.watch.state = .sheetOn) (parked : s.frame.carriage = .parked)
    (setting : s.tables.sheet.autoResume = true) (hg : governing s = some g) :
    resumed s = (setScanOn true s).moving (.traverse .positioning .fwd) (limitsNow g s).front g.speed := by
  have free : startRefusal s = none :=
    startRefusal_none (.inr parked) (not_contextless_of_governing hg) (by simp [sheet])
  rw [resumed_of setting, startRequest_taken free, startScanning_parked parked hg]

/-! ### The restored state -/

/-- Whether the detector counts, when it is armed (R134). -/
def watched (s : State) : Prop :=
  (∃ d, s.frame.carriage = .traverse .scanning d) ∨ s.frame.carriage = .fixed .dwelling ∨
    s.frame.carriage = .probing .dwelling

theorem isScanning_iff (c : Carriage) : c.isScanning = true ↔ ∃ d, c = .traverse .scanning d := by
  cases c with
  | traverse sub d => cases sub <;> simp [Carriage.isScanning]
  | _ => simp [Carriage.isScanning]

theorem detectorActive_iff (threading : s.watch.state = .threading) : detectorActive s = true ↔ watched s := by
  simp [detectorActive, threading, watched, isScanning_iff, or_assoc]

theorem runStanding_watched (threading : s.watch.state = .threading) (h : watched s) :
    runStanding s = some s.watch.breakRun := if_pos ((detectorActive_iff threading).mpr h)

theorem runStanding_unwatched (threading : s.watch.state = .threading) (h : ¬ watched s) : runStanding s = none :=
  if_neg fun active => h ((detectorActive_iff threading).mp active)

theorem not_watched_of_parked (h : s.frame.carriage = .parked) : ¬ watched s := by simp [watched, h]

/-- The break watch of an ended break, with the run that it holds (R147; log 36). -/
def BreakWatch.ended (w : BreakWatch) (held : Option Nat) : BreakWatch :=
  { w with state := .sheetOn, breakRun := 0, heldRun := held, sheetRun := 0, holdOff := none }

theorem restored_eq (s : State) : ∃ held, s.restored = { s with
    watch := s.watch.ended held
    conditions := { s.conditions with
      raised := s.conditions.raised ++ [⟨{ alarmNow .restored s with breakState := .sheetOn }, []⟩] } } := by
  have off : sheetCounting { s with watch := { s.watch with state := .sheetOn, breakRun := 0, holdOff := none } } =
      false := by simp [sheetCounting]
  refine ⟨s.restored.watch.heldRun, ?_⟩
  simp only [State.restored, quietRuns, off, ite_self]
  rfl

/-! ### The break watch of an ended break -/

section
variable {w : BreakWatch}

theorem quietRuns_ended (h : ∃ held, t.watch = w.ended held) : ∃ held, (quietRuns t).watch = w.ended held := by
  obtain ⟨held, e⟩ := h
  exact ⟨(quietRuns t).watch.heldRun, by simp [quietRuns, e, BreakWatch.ended]⟩

theorem setCarriage_ended (c : Carriage) (h : ∃ held, t.watch = w.ended held) :
    ∃ held, (setCarriage c t).watch = w.ended held :=
  quietRuns_ended (t := { t with frame := { t.frame with carriage := c } }) h

theorem parkRequest_ended (h : ∃ held, t.watch = w.ended held) : ∃ held, (parkRequest t).watch = w.ended held := by
  have parks (u : State) (hu : ∃ held, u.watch = w.ended held) : ∃ held, (goPark u).watch = w.ended held :=
    setCarriage_ended _ hu
  cases hc : t.frame.carriage with
  | unreferenced => rwa [parkRequest_absent (.inl hc)]
  | halted => rwa [parkRequest_absent (.inr hc)]
  | parked =>
    obtain ⟨held, e⟩ := h
    have sheet : (setScanOn false t).watch.state = .sheetOn := congrArg BreakWatch.state e
    rw [parkRequest_parked hc, watchArrival, sheet]
    exact ⟨held, e⟩
  | parking => rw [parkRequest_onTheWay (.inl hc)]; exact h
  | standardizing => rw [parkRequest_onTheWay (.inr hc)]; exact h
  | traverse =>
    simp only [parkRequest, hc]
    exact parks _ (by rw [abandonTraverse_watch]; exact h)
  | fixed | probing =>
    simp only [parkRequest, hc]
    exact parks _ h

theorem setRequest_ended (h : ∃ held, t.watch = w.ended held) : ∃ held, (setRequest t).watch = w.ended held := by
  unfold setRequest
  dsimp only
  split
  · exact setCarriage_ended .standardizing h
  · exact h

theorem startRequest_ended (h : ∃ held, t.watch = w.ended held) : ∃ held, (startRequest t).watch = w.ended held := by
  unfold startRequest startScanning beginApproach
  dsimp only
  split
  · split
    · split
      · exact setCarriage_ended _ h
      · exact setCarriage_ended _ h
    · exact h
  · exact h

end

/-- Wherever the settings send the carriage, no run is left but the one held (R147; log 36). -/
theorem endBreak_watch (s : State) : (endBreak s).watch = s.watch.ended (runStanding s) := by
  obtain ⟨held, restored⟩ := restored_eq s
  obtain ⟨t, ⟨held', ht⟩, e⟩ := endBreak_ind (s := s) (P := fun t => ∃ held, t.watch = s.watch.ended held)
    (fun _ => parkRequest_ended) (fun _ => setRequest_ended) (fun _ => startRequest_ended) ⟨held, by rw [restored]⟩
  rw [e]
  show { t.watch with heldRun := runStanding s } = _
  rw [ht]
  rfl

theorem settle_endBreak_restored (s : State) : (settle (endBreak s)).conditions.flag .restored = true := by
  obtain ⟨t, kept, e⟩ := endBreak_ind (s := s) (P := fun t => t.conditions.raised = s.restored.conditions.raised)
    (fun t h => (parkRequest_raised t).trans h) (fun t h => (setRequest_raised t).trans h)
    (fun t h => by unfold startRequest; split; exacts [(startScanning_raised t).trans h, h]) rfl
  obtain ⟨held, restored⟩ := restored_eq s
  obtain ⟨-, -, -, -, taken, -, -⟩ := settle_frame (endBreak s)
  refine taken ⟨{ alarmNow .restored s with breakState := .sheetOn }, []⟩ ?_
  rw [e]
  show _ ∈ t.conditions.raised
  rw [kept, restored]
  exact List.mem_append_right _ (List.mem_singleton_self _)

theorem holdOffExpiry_due (due : timerDue s.watch.holdOff = true) :
    exec .holdOffExpiry s = .next (settle (endBreak s)) := congrArg Host.Outcome.next (if_pos due)

/-! ### The expiry of the hold-off by carriage state -/

/-- The state of an ended break whose carriage stays, before the condition unit takes RESTORED. -/
def State.breakEnded (s : State) (held : Option Nat) (request scanOn : Bool) : State :=
  { s with
    watch := s.watch.ended held
    standardize := { s.standardize with request := request }
    frame := { s.frame with scanOn := scanOn }
    conditions := { s.conditions with
      raised := s.conditions.raised ++ [⟨{ alarmNow .restored s with breakState := .sheetOn }, []⟩] } }

theorem settle_breakEnded (quiet : s.conditions.raised = []) (held : Option Nat) (request scanOn : Bool) :
    settle (s.breakEnded held request scanOn) = { s with
      watch := s.watch.ended held
      standardize := { s.standardize with request := request }
      frame := { s.frame with scanOn := scanOn }
      conditions := s.conditions.take { alarmNow .restored s with breakState := .sheetOn }
      choices := s.choices + 1 } := by
  have one : (s.breakEnded held request scanOn).conditions.raised =
      [⟨{ alarmNow .restored s with breakState := .sheetOn }, []⟩] := by simp [State.breakEnded, quiet]
  have same : { (s.breakEnded held request scanOn).conditions with raised := [] } = s.conditions := by rw [← quiet]; rfl
  rw [settle_one _ _ one rfl, same]
  rfl

/-- Where nothing moves the carriage, the settings change the two flags alone. -/
theorem endBreak_stays (away : s.frame.carriage ≠ .parked) (h : s.tables.sheet.mode = .report ∨
    s.frame.carriage = .unreferenced ∨ s.frame.carriage = .halted ∨ s.frame.carriage = .parking ∨
    s.frame.carriage = .standardizing) :
    ∃ b, endBreak s =
        s.breakEnded (runStanding s) (s.standardize.request || s.tables.sheet.standardizeAfter) b ∧
      (b = true ↔ (s.frame.scanOn = true ∧
        (s.tables.sheet.mode = .report ∨ s.frame.carriage = .unreferenced ∨ s.frame.carriage = .halted)) ∨
        (Resumes s ∧ s.frame.carriage.mayBeScanOn = true)) := by
  obtain ⟨held, restored⟩ := restored_eq s
  obtain ⟨b, home, flag⟩ := homed_stays (s := s.restored) rfl (by tauto)
  have ask := asked_away (s := setScanOn b s.restored) away
  obtain ⟨c, resume, flag'⟩ := resumed_away (s := asked (setScanOn b s.restored)) (by rw [ask]; rfl)
    (by rw [ask]; exact away)
  refine ⟨c, ?_, ?_⟩
  · rw [endBreak_eq, home, resume, ask, restored]
    rfl
  · rw [flag', ask]
    exact or_congr_left flag

/-- From abroad the carriage goes home, and the settings change the two flags on the way. -/
theorem endBreak_abroad (mode : s.tables.sheet.mode ≠ .report) (h : (∃ sub d, s.frame.carriage = .traverse sub d) ∨
    (∃ sub, s.frame.carriage = .fixed sub) ∨ ∃ sub, s.frame.carriage = .probing sub) :
    ∃ b, (endBreak s).frame.carriage = .parking ∧
      (endBreak s).port = s.port.handDrive (.move s.tables.frame.park 200) ∧
      (endBreak s).standardize.request = (s.standardize.request || s.tables.sheet.standardizeAfter) ∧
      (endBreak s).frame.scanOn = b ∧ (b = true ↔ Resumes s) ∧
      ∀ o sub d, s.frame.carriage = .traverse sub d → s.binning.openTraverse = some o →
        (endBreak s).binning.openTraverse = none ∧
        ReportFrame.notice ⟨s.closeOut.scanNumber, s.clock, o.direction, o.context.tag, o.map.identity, .brk⟩ ∈
          (endBreak s).mill.reports := by
  obtain ⟨binning, mill, counters, home, notice⟩ := homed_abroad (s := s.restored) mode h
  have ask := asked_away (s := homed s.restored) (by rw [home]; exact Carriage.noConfusion)
  obtain ⟨b, resume, flag⟩ := resumed_away (s := asked (homed s.restored)) (by rw [ask, home]; rfl)
    (by rw [ask, home]; exact Carriage.noConfusion)
  rw [endBreak_eq, resume]
  rw [ask, home] at flag ⊢
  refine ⟨b, rfl, rfl, rfl, rfl, ?_, notice⟩
  rw [flag]
  exact ⟨fun h => h.elim (fun off => absurd off Bool.false_ne_true) (fun on => on.1), fun on => .inr ⟨on, rfl⟩⟩

/-- In PARKED the park request clears the scan-on flag at most. -/
theorem homed_restored_parked (parked : s.frame.carriage = .parked) : ∃ b, homed s.restored = setScanOn b s.restored ∧
    (b = true ↔ s.frame.scanOn = true ∧ s.tables.sheet.mode = .report) := by
  obtain ⟨b, home, flag⟩ := homed_stays (s := s.restored) rfl (.inr (.inr (.inr (.inl parked))))
  have neither : ¬ (s.frame.carriage = .unreferenced ∨ s.frame.carriage = .halted) := by simp [parked]
  exact ⟨b, home, flag.trans (and_congr_right fun _ => or_iff_left neither)⟩

/-- In PARKED with a standardize after the break, its collection starts at once. -/
theorem endBreak_parked_standardizes (parked : s.frame.carriage = .parked)
    (standardize : s.tables.sheet.standardizeAfter = true) :
    (endBreak s).frame.carriage = .standardizing ∧ (endBreak s).port = s.port.handHead .reference ∧
      (endBreak s).standardize.request = true ∧
      ((endBreak s).frame.scanOn = true ↔ (s.frame.scanOn = true ∧ s.tables.sheet.mode = .report) ∨ Resumes s) := by
  obtain ⟨b, home, flag⟩ := homed_restored_parked parked
  have ask : asked (setScanOn b s.restored) = _ :=
    (asked_of (s := setScanOn b s.restored) standardize).trans (setRequest_parked (s := setScanOn b s.restored) parked)
  obtain ⟨c, resume, flag'⟩ := resumed_away (s := asked (setScanOn b s.restored)) (by rw [ask]; rfl)
    (by rw [ask]; exact Carriage.noConfusion)
  rw [endBreak_eq, home, resume]
  rw [ask] at flag' ⊢
  exact ⟨rfl, rfl, rfl, flag'.trans (or_congr flag (and_iff_left rfl))⟩

/-- In PARKED, with neither a standardize nor a start to follow, the scan-on flag is all that changes. -/
theorem endBreak_parked_rests (parked : s.frame.carriage = .parked)
    (standardize : s.tables.sheet.standardizeAfter = false) (resume : ¬ Resumes s) :
    ∃ b, (endBreak s).frame = { s.frame with scanOn := b } ∧ (endBreak s).port = s.port ∧
      (b = true ↔ s.frame.scanOn = true ∧ s.tables.sheet.mode = .report) := by
  obtain ⟨b, home, flag⟩ := homed_restored_parked parked
  rw [endBreak_eq, home, asked_of_not (s := setScanOn b s.restored) standardize,
    resumed_stays (s := setScanOn b s.restored) (.inr parked) resume]
  exact ⟨b, rfl, rfl, flag⟩

/-- In PARKED, with a start and no standardize to follow, an approach begins. -/
theorem endBreak_parked_resumes {g : Context} (parked : s.frame.carriage = .parked)
    (standardize : s.tables.sheet.standardizeAfter = false) (resume : s.tables.sheet.autoResume = true)
    (hg : governing s = some g) :
    (endBreak s).frame.carriage = .traverse .positioning .fwd ∧ (endBreak s).frame.scanOn = true ∧
      (endBreak s).port = s.port.handDrive (.move (limitsNow g s).front g.speed) := by
  obtain ⟨b, home, -⟩ := homed_restored_parked parked
  rw [endBreak_eq, home, asked_of_not (s := setScanOn b s.restored) standardize,
    resumed_parked (s := setScanOn b s.restored) rfl parked resume hg]
  exact ⟨rfl, rfl, rfl⟩

/-- Settles O48: each timer, and the hold-off by where the carriage is. -/
theorem standardizeAndBreakTimersExpire : Obligations.StandardizeAndBreakTimersExpire := by
  unfold Obligations.StandardizeAndBreakTimersExpire
  intro s quiet
  refine ⟨fun c hc due => ⟨_, stdTimerExpiry_due hc due, ?_⟩, fun due => ?_, fun due => ?_, fun due threading => ?_⟩
  · have ended := standardizeEnded_eq s.timedOut
    rw [settle_standardize, settle_tables, settle_watch, settle_frame', settle_port]
    refine ⟨congrArg State.standardize ended, (congrArg State.tables ended :), settle_timedOut_stdAbort s,
      congrArg State.watch ended, fun off => ?_, fun g on hg => ?_⟩
    · rw [standardizeEnded_parks (s := s.timedOut) (.inl off)]
      exact ⟨rfl, rfl⟩
    · rw [standardizeEnded_approach (s := s.timedOut) on hg]
      exact ⟨rfl, rfl⟩
  · rw [probeTimerExpiry_due due]
    refine ⟨fun parked => ?_, fun away => ?_⟩
    · rw [probeRequest_parked (s := s.probeIdle) parked]
      rfl
    · rw [probeRequest_away (s := s.probeIdle) away]
      rfl
  · rw [probeDwellExpiry_due due]
    refine ⟨fun dwelling => ?_, fun off home => ?_⟩
    · rw [parkRequest_probing (s := s.dwellOver) dwelling]
      rfl
    · obtain parking | parked := home
      · rw [parkRequest_onTheWay (s := s.dwellOver) (.inl parking)]
        rfl
      · rw [parkRequest_parked (s := s.dwellOver) parked,
          startProbeTimer_watchArrival (s := setScanOn false s.dwellOver) off]
        rfl
  · rw [holdOffExpiry_due due]
    refine ⟨fun stays => ?_, fun mode abroad => ⟨_, rfl, ?_⟩, fun parked => ⟨_, rfl, ?_⟩⟩
    · have away : s.frame.carriage ≠ .parked := by
        rintro parked
        simp [parked] at stays
      obtain ⟨scanOn, e, flag⟩ := endBreak_stays away (by tauto)
      rw [e, settle_breakEnded quiet]
      exact ⟨scanOn, runStanding s, rfl, runStanding_watched threading, runStanding_unwatched threading, flag⟩
    · obtain ⟨scanOn, carriage, port, request, on, flag, notice⟩ := endBreak_abroad mode abroad
      rw [settle_watch, settle_frame', settle_port, settle_standardize, settle_binning, settle_mill, endBreak_watch, on]
      refine ⟨fun h => ?_, fun h => ?_, carriage, port, settle_endBreak_restored s, request, flag, notice⟩
      · rw [runStanding_watched threading h]
        rfl
      · rw [runStanding_unwatched threading h]
        rfl
    · rw [settle_watch, settle_frame', settle_port, settle_standardize, endBreak_watch,
        runStanding_unwatched threading (not_watched_of_parked parked)]
      exact ⟨rfl, settle_endBreak_restored s, endBreak_parked_standardizes parked, endBreak_parked_rests parked,
        fun g standardize resume hg => endBreak_parked_resumes parked standardize resume hg⟩

end Sys2Proof.Machine

/-! ## What scanning and the slices rest on, and what a step can do to it (O7, O12) -/

namespace Sys2Proof.Machine

variable {s t u : State}

/-! ### The part of the state that the two invariants read -/

/-- Of the whole state what `ScanGoverned` and `SlicesAgree` read: the carriage with the scan-on flag and the limits, the
contexts, the maps, and everything that is held per slice. -/
structure ScanState where
  carriage : Carriage
  scanOn : Bool
  limits : Option Span
  contexts : ContextQueue
  maps : MapLetter → Option MapRecord
  traverse : Option OpenTraverse
  engine : Engine
  map : Option MapIdentity
  records : PerProfile (List SliceRecord)
  slots : List (Option SaveSlot)

def State.scanState (s : State) : ScanState where
  carriage := s.frame.carriage
  scanOn := s.frame.scanOn
  limits := s.frame.limits
  contexts := s.contexts
  maps := s.tables.map
  traverse := s.binning.openTraverse
  engine := s.closeOut.engine
  map := s.profile.map
  records := s.profile.records
  slots := s.profile.slots

namespace ScanState

/-- The governing context (R98, R118). -/
def governing (k : ScanState) : Option Context := k.contexts.queue.head?.or k.contexts.inEffect

/-- What a step can do to the scan state, one change at a time, each from a state in which it can occur. -/
inductive Next : ScanState → ScanState → Prop
  /-- A start or a RESUME from PARKED or a fixed point, or an approach under the scan-on flag (R97, R98, R107). -/
  | approaches (k : ScanState) (context : k.governing.isSome = true) :
    Next k { k with carriage := .traverse .positioning .fwd, scanOn := true }
  /-- A start taken by a carriage that scans, or that goes on to scan (R97). -/
  | starts (k : ScanState) (context : k.governing.isSome = true) (may : k.carriage.mayBeScanOn = true) :
    Next k { k with scanOn := true }
  /-- A traverse opens onto the map of its context with a cleared bank (R46, R48, R99). -/
  | opens (k : ScanState) (d : Direction) (c : Context) (r : MapRecord) (l : Span)
    (inEffect : k.contexts.inEffect = some c) (loaded : k.maps c.map = some r) :
    Next k { k with
      carriage := .traverse .scanning d, limits := some l
      traverse := some ⟨⟨c.map, r⟩, c, d, emptyBank r, .start, false⟩ }
  /-- The scan-on flag cleared where no approach rests on it (R96, R102, R109). -/
  | clears (k : ScanState) (elsewhere : k.carriage.isPositioning = false) : Next k { k with scanOn := false }
  /-- The carriage sent to park, the scan-on flag kept or cleared (R96, R101, R102, R109). -/
  | parks (k : ScanState) (on : Bool) (kept : on = true → k.scanOn = true) :
    Next k { k with carriage := .parking, scanOn := on }
  /-- PARKED entered with nothing that asks for more: no scan-on flag, or no context to scan by (R95, R103, log 13). -/
  | rests (k : ScanState) (idle : k.scanOn = true → k.governing = none) : Next k { k with carriage := .parked }
  /-- STANDARDIZING entered (R28, R95). -/
  | standardizes (k : ScanState) : Next k { k with carriage := .standardizing }
  /-- A fixed point approached (R104). -/
  | fixes (k : ScanState) : Next k { k with carriage := .fixed .moving, scanOn := false }
  /-- A dwell started (R105, R108). -/
  | dwells (k : ScanState) (c : Carriage) (arrives : (k.carriage = .fixed .moving ∧ c = .fixed .dwelling) ∨
      (k.carriage = .probing .moving ∧ c = .probing .dwelling)) : Next k { k with carriage := c }
  /-- A probe begun (R108). -/
  | probes (k : ScanState) (parked : k.carriage = .parked) : Next k { k with carriage := .probing .moving }
  /-- HALTED entered (R112). -/
  | halts (k : ScanState) : Next k { k with carriage := .halted, scanOn := false }
  /-- RESTART, in a carriage state that is neither an approach nor SCANNING (R113). -/
  | restarts (k : ScanState) (c : Carriage) (away : ∀ sub d, c ≠ .traverse sub d) :
    Next k ⟨c, false, none, ⟨[], none⟩, k.maps, none, .idle, none, .const [], k.slots⟩
  /-- A context queued (R114). -/
  | pushes (k : ScanState) (c : Context) (loaded : (k.maps c.map).isSome = true) :
    Next k { k with contexts := { k.contexts with queue := k.contexts.queue ++ [c] } }
  /-- The queue flushed (R116). -/
  | flushes (k : ScanState) (may : ¬ (k.contexts.inEffect = none ∧ k.scanOn = true)) :
    Next k { k with contexts := { k.contexts with queue := [] } }
  /-- The oldest context taken (R117). -/
  | takes (k : ScanState) (c : Context) (rest : List Context) (front : k.contexts.queue = c :: rest) :
    Next k { k with contexts := ⟨rest, some c⟩ }
  /-- A map written (R43). -/
  | loads (k : ScanState) (l : MapLetter) (r : MapRecord) (shaped : r.shaped = true) :
    Next k { k with maps := Function.update k.maps l (some r) }
  /-- The open traverse dropped (R48, R64). -/
  | drops (k : ScanState) : Next k { k with traverse := none }
  /-- A sample binned, or the break mark set: the same map, as many accumulators (R49, R139). -/
  | bins (k : ScanState) (o o' : OpenTraverse) (before : k.traverse = some o) (map : o'.map = o.map)
    (bank : o'.bank.length = o.bank.length) : Next k { k with traverse := some o' }
  /-- The open traverse closed into the engine (R60). -/
  | closes (k : ScanState) (o : OpenTraverse) (p : ClosingParams) (before : k.traverse = some o) (map : p.map = o.map) :
    Next k { k with traverse := none, engine := .means o.bank p }
  /-- MEANS completed (R69). -/
  | averages (k : ScanState) (bank : Bank) (p : ClosingParams) (before : k.engine = .means bank p) :
    Next k { k with engine := .filter bank p (computeMeans bank p) }
  /-- FILTER completed on the traverse's own map (R71 to R75). -/
  | filters (k : ScanState) (bank : Bank) (p : ClosingParams) (m : MeansResults) (before : k.engine = .filter bank p m)
    (map : k.map = some p.map.identity) : Next k { k with
      engine := .stats bank p m, records := .make fun c => filterChannel p (m.channels.get c) (k.records.get c) }
  /-- STATS completed (R77). -/
  | measures (k : ScanState) (bank : Bank) (p : ClosingParams) (m : MeansResults) (st : StatsResults)
    (before : k.engine = .stats bank p m) : Next k { k with engine := .monitors bank p m st }
  /-- MONITORS completed (R161). -/
  | judges (k : ScanState) (bank : Bank) (p : ClosingParams) (m : MeansResults) (st : StatsResults)
    (mons : List MonitorResult) (before : k.engine = .monitors bank p m st) :
    Next k { k with engine := .report bank p m st mons }
  /-- REPORT completed (R85). -/
  | reports (k : ScanState) : Next k { k with engine := .idle }
  /-- The profile cleared to a map (R70, R71, R121). -/
  | wipes (k : ScanState) (id : MapIdentity) :
    Next k { k with map := some id, records := .const (List.replicate id.sliceCount .cleared) }
  /-- A save slot restored onto a map of its slice count (R123, R127). -/
  | restores (k : ScanState) (id : MapIdentity) (x : SaveSlot) (filled : some x ∈ k.slots)
    (count : x.sliceCount = id.sliceCount) : Next k { k with
      map := some id, records := .make fun c => restoredRecords x.sliceCount (x.images.get c) }
  /-- The profile saved to a slot (R126). -/
  | saves (k : ScanState) (j tag : Nat) (id : MapIdentity) (map : k.map = some id) :
    Next k { k with slots := k.slots.set j (some (savedSlot tag id k.records)) }
  /-- A slot header written: no images (R129). -/
  | heads (k : ScanState) (j tag n : Nat) : Next k { k with slots := k.slots.set j (some ⟨tag, n, .const none⟩) }
  /-- A slot image written, with an entry for each of the slot's slices (R130). -/
  | images (k : ScanState) (j : Nat) (x : SaveSlot) (c : ProfileChannel) (es : List ImageEntry) (filled : some x ∈ k.slots)
    (count : es.length = x.sliceCount) :
    Next k { k with slots := k.slots.set j (some { x with images := x.images.set c (some es) }) }

/-! ### Scanning under a governing context -/

/-- `ScanGoverned`, said of the scan state. -/
structure Governed (k : ScanState) : Prop where
  governs : k.scanOn = true → k.governing.isSome = true
  mayScan : k.scanOn = true → k.carriage.mayBeScanOn = true
  approach : k.carriage.isPositioning = true → k.scanOn = true
  inEffect : k.carriage.isScanning = true → k.contexts.inEffect.isSome = true
  limited : k.carriage.isScanning = true → k.limits.isSome = true
  queueLoaded : ∀ c ∈ k.contexts.queue, (k.maps c.map).isSome = true
  inEffectLoaded : ∀ c, k.contexts.inEffect = some c → (k.maps c.map).isSome = true

theorem not_traversing {c : Carriage} (away : ∀ sub d, c ≠ .traverse sub d) :
    c.isPositioning = false ∧ c.isScanning = false := by
  cases c with
  | traverse sub d => exact absurd rfl (away sub d)
  | _ => exact ⟨rfl, rfl⟩

/-- With no scan-on flag, and neither an approach nor SCANNING, only the contexts' maps are in question. -/
theorem Governed.at_rest {k : ScanState} (h : k.Governed) {c : Carriage} (away : ∀ sub d, c ≠ .traverse sub d) :
    Governed { k with carriage := c, scanOn := false } := by
  obtain ⟨positioning, scanning⟩ := not_traversing away
  exact ⟨nofun, nofun, fun h => absurd (positioning.symm.trans h) nofun, fun h => absurd (scanning.symm.trans h) nofun,
    fun h => absurd (scanning.symm.trans h) nofun, h.queueLoaded, h.inEffectLoaded⟩

/-- A carriage under way to where the scan-on flag may stand. -/
theorem Governed.under_way {k : ScanState} (h : k.Governed) {c : Carriage} (may : c.mayBeScanOn = true)
    (away : ∀ sub d, c ≠ .traverse sub d) (on : Bool) (kept : on = true → k.governing.isSome = true) :
    Governed { k with carriage := c, scanOn := on } := by
  have rest := h.at_rest away
  exact { rest with
    governs := kept, mayScan := fun _ => may, approach := fun positioning => absurd (rest.approach positioning) nofun }

/-- Where the scan-on flag may not stand it does not. -/
theorem Governed.scanOff {k : ScanState} (h : k.Governed) (mayNot : k.carriage.mayBeScanOn = false) :
    k.scanOn = false := by
  cases on : k.scanOn with
  | false => rfl
  | true => simp [h.mayScan on] at mayNot

theorem governing_of_queued {c : Context} {q : List Context} (e : Option Context) :
    ((q ++ [c]).head?.or e).isSome = true := by
  cases q <;> rfl

theorem update_isSome {k : ScanState} {l m : MapLetter} {r : MapRecord} (h : (k.maps m).isSome = true) :
    (Function.update k.maps l (some r) m).isSome = true := by
  by_cases e : m = l
  · simp [e]
  · simpa [e] using h

/-- Every change that a step can make keeps scanning governed. -/
theorem Next.governed {k k' : ScanState} (h : Next k k') (g : k.Governed) : k'.Governed := by
  cases h with
  | approaches context =>
    exact { g with
      governs := fun _ => context, mayScan := fun _ => rfl, approach := fun _ => rfl, inEffect := nofun, limited := nofun }
  | starts context may => exact { g with governs := fun _ => context, mayScan := fun _ => may, approach := fun _ => rfl }
  | opens d c r l inEffect loaded =>
    exact { g with
      mayScan := fun _ => rfl, approach := nofun, inEffect := fun _ => by simp [inEffect], limited := fun _ => rfl }
  | clears elsewhere =>
    exact { g with governs := nofun, mayScan := nofun, approach := fun approach => by simp [elsewhere] at approach }
  | parks on kept => exact g.under_way (c := .parking) rfl nofun on fun h => g.governs (kept h)
  | rests idle =>
    have off : k.scanOn = false := by
      cases on : k.scanOn with
      | false => rfl
      | true => simpa [idle on] using g.governs on
    simpa [off] using g.at_rest (c := .parked) nofun
  | standardizes => exact g.under_way (c := .standardizing) rfl nofun k.scanOn g.governs
  | fixes => exact g.at_rest nofun
  | halts => exact g.at_rest nofun
  | dwells c arrives =>
    have off : k.scanOn = false := g.scanOff (by obtain ⟨e, _⟩ | ⟨e, _⟩ := arrives <;> simp [e, Carriage.mayBeScanOn])
    have rest := g.at_rest (c := c) (by obtain ⟨_, rfl⟩ | ⟨_, rfl⟩ := arrives <;> exact nofun)
    rw [← off] at rest
    exact rest
  | probes parked =>
    have off : k.scanOn = false := g.scanOff (by rw [parked]; rfl)
    have rest := g.at_rest (c := .probing .moving) nofun
    rw [← off] at rest
    exact rest
  | restarts c away =>
    obtain ⟨positioning, scanning⟩ := not_traversing away
    exact ⟨nofun, nofun, fun h => absurd (positioning.symm.trans h) nofun, fun h => absurd (scanning.symm.trans h) nofun,
      fun h => absurd (scanning.symm.trans h) nofun, nofun, nofun⟩
  | pushes c loaded =>
    exact { g with
      governs := fun _ => governing_of_queued _
      queueLoaded := fun c' hc => (List.mem_append.mp hc).elim (g.queueLoaded c') fun hc => by
        obtain rfl := List.mem_singleton.mp hc
        exact loaded }
  | flushes may =>
    refine { g with governs := fun on => ?_, queueLoaded := nofun }
    show k.contexts.inEffect.isSome = true
    cases e : k.contexts.inEffect with
    | none => exact absurd ⟨e, on⟩ may
    | some c => rfl
  | takes c rest front =>
    have loaded := g.queueLoaded
    rw [front] at loaded
    exact { g with
      governs := fun _ => by cases rest <;> rfl
      inEffect := fun _ => rfl
      queueLoaded := fun c' hc => loaded c' (List.mem_cons_of_mem _ hc)
      inEffectLoaded := fun c' hc => by
        obtain rfl := Option.some.inj hc
        exact loaded c (List.mem_cons_self ..) }
  | loads l r shaped =>
    exact { g with
      queueLoaded := fun c hc => update_isSome (g.queueLoaded c hc)
      inEffectLoaded := fun c hc => update_isSome (g.inEffectLoaded c hc) }
  | _ => exact { g with }

end ScanState

theorem scanGoverned_iff : ScanGoverned s ↔ s.scanState.Governed := by
  constructor
  · rintro ⟨on, approach, scanning, queue, inEffect⟩
    exact ⟨fun h => (on h).1, fun h => (on h).2, approach, fun h => (scanning h).1, fun h => (scanning h).2,
      List.all_eq_true.mp queue, fun c hc => by
        replace hc : s.contexts.inEffect = some c := hc
        rw [hc] at inEffect
        exact inEffect⟩
  · intro h
    refine ⟨fun on => ⟨h.governs on, h.mayScan on⟩, h.approach, fun scanning => ⟨h.inEffect scanning, h.limited scanning⟩,
      List.all_eq_true.mpr h.queueLoaded, ?_⟩
    cases hc : s.contexts.inEffect with
    | none => rfl
    | some c => exact h.inEffectLoaded c hc

end Sys2Proof.Machine

namespace Sys2Proof.Machine

variable {s t u : State}

namespace ScanState

/-! ### Slices everywhere alike -/

/-- `SlicesAgree`, said of the scan state. -/
structure Sliced (k : ScanState) : Prop where
  maps : ∀ l r, k.maps l = some r → r.shaped = true
  traverse : ∀ o, k.traverse = some o → bankShaped o.map.record o.bank = true
  engine : k.engine.shaped = true
  records : ∀ c, (k.records.get c).length = (k.map.map MapIdentity.sliceCount).getD 0
  slots : ∀ x, some x ∈ k.slots → x.shaped = true

theorem bankShaped_iff (r : MapRecord) (b : Bank) :
    bankShaped r b = true ↔ r.boundaries.length = r.sliceCount + 1 ∧ b.length = r.sliceCount := by
  simp [bankShaped, MapRecord.shaped]

theorem meansShaped_iff (n : Nat) (m : MeansResults) : m.shaped n = true ↔
    m.excluded.length = n ∧ ∀ c cm, m.channels.get c = some cm → cm.slices.length = n := by
  simp [MeansResults.shaped, Option.all_eq_true]

theorem slotShaped_iff (x : SaveSlot) :
    x.shaped = true ↔ ∀ c es, x.images.get c = some es → es.length = x.sliceCount := by
  simp [SaveSlot.shaped, optLengths, Option.all_eq_true]

theorem allLengths_iff {α : Type} (n : Nat) (p : PerProfile (List α)) :
    allLengths n p = true ↔ ∀ c, (p.get c).length = n := by
  simp [allLengths]

theorem exclusion_length_of_shaped {r : MapRecord} (h : r.boundaries.length = r.sliceCount + 1) (e : Edges) (w : Nat) :
    (exclusion r e w).length = r.sliceCount := by
  simp [exclusion, MapRecord.slices, h]

theorem channelMeans_length (eligible quorum : Nat) (marks : List SliceOutcome) :
    (channelMeans eligible quorum marks).slices.length = marks.length := by
  unfold channelMeans
  dsimp only
  split
  · rfl
  · exact List.length_map _

/-- MEANS finds an outcome for every slice (R67). -/
theorem computeMeans_shaped {bank : Bank} {p : ClosingParams} (h : bankShaped p.map.record bank = true) :
    (computeMeans bank p).shaped p.map.record.sliceCount = true := by
  obtain ⟨boundaries, length⟩ := (bankShaped_iff _ _).mp h
  have excluded := exclusion_length_of_shaped boundaries p.edges p.edgeWidth
  refine (meansShaped_iff _ _).mpr ⟨excluded, fun c cm hcm => ?_⟩
  simp only [computeMeans, PerProfile.get_make] at hcm
  split at hcm
  · obtain rfl := Option.some.inj hcm
    rw [channelMeans_length, List.length_zipWith, excluded, length, min_self]
  · exact nomatch hcm

/-- FILTER leaves a channel's records as many as they are where its outcomes are as many (R72 to R75). -/
theorem filterChannel_length {p : ClosingParams} {n : Nat} {m : Option ChannelMeans} {rs : List SliceRecord}
    (outcomes : ∀ cm, m = some cm → cm.slices.length = n) (records : rs.length = n) :
    (filterChannel p m rs).length = n := by
  cases m with
  | none => exact records
  | some cm => rw [filterChannel, List.length_zipWith, outcomes cm rfl, records, min_self]

theorem restoredRecords_length {n : Nat} {image : Option (List ImageEntry)} (h : ∀ es, image = some es → es.length = n) :
    (restoredRecords n image).length = n := by
  cases image with
  | none => exact List.length_replicate ..
  | some es => exact (List.length_map _).trans (h es rfl)

/-- Slots of which one is filled with a slot of the right shape. -/
theorem Sliced.setSlot {k : ScanState} (h : k.Sliced) {j : Nat} {x : SaveSlot} (hx : x.shaped = true) :
    Sliced { k with slots := k.slots.set j (some x) } := by
  refine { h with slots := fun y hy => (List.mem_or_eq_of_mem_set hy).elim (h.slots y) fun e => ?_ }
  obtain rfl := Option.some.inj e
  exact hx

/-- Every change that a step can make keeps everything per slice as long as its map. -/
theorem Next.sliced {k k' : ScanState} (h : Next k k') (g : k.Sliced) : k'.Sliced := by
  cases h with
  | opens d c r l inEffect loaded =>
    have boundaries : r.boundaries.length = r.sliceCount + 1 := by simpa [MapRecord.shaped] using g.maps _ r loaded
    refine { g with traverse := fun o ho => ?_ }
    obtain rfl := Option.some.inj ho
    exact (bankShaped_iff _ _).mpr ⟨boundaries, List.length_replicate ..⟩
  | restarts c away =>
    refine { maps := g.maps, traverse := forall_of_none, engine := rfl, records := fun c => ?_, slots := g.slots }
    rw [PerProfile.get_const]
    rfl
  | loads l r shaped =>
    refine { g with maps := fun m x hx => ?_ }
    by_cases e : m = l
    · obtain rfl : r = x := by simpa [e] using hx
      exact shaped
    · exact g.maps m x (by simpa [e] using hx)
  | drops => exact { g with traverse := forall_of_none }
  | bins o o' before map bank =>
    obtain ⟨boundaries, length⟩ := (bankShaped_iff _ _).mp (g.traverse o before)
    refine { g with traverse := fun x hx => ?_ }
    obtain rfl := Option.some.inj hx
    exact (bankShaped_iff _ _).mpr ⟨map ▸ boundaries, bank.trans (map ▸ length)⟩
  | closes o p before map =>
    exact { g with traverse := forall_of_none, engine := show bankShaped p.map.record o.bank = true from map ▸ g.traverse o before }
  | averages bank p before =>
    have shaped : bankShaped p.map.record bank = true := by simpa [before, Engine.shaped] using g.engine
    exact { g with engine := Bool.and_eq_true_iff.mpr ⟨shaped, computeMeans_shaped shaped⟩ }
  | filters bank p m before map =>
    have engine := g.engine
    rw [before] at engine
    obtain ⟨-, means⟩ := Bool.and_eq_true_iff.mp engine
    have outcomes := ((meansShaped_iff _ _).mp means).2
    have records := g.records
    refine { g with engine := engine, records := fun c => ?_ }
    rw [PerProfile.get_make, map]
    rw [map] at records
    exact filterChannel_length (outcomes c) (records c)
  | measures bank p m st before | judges bank p m st mons before =>
    have engine := g.engine
    rw [before] at engine
    exact { g with engine := engine }
  | reports => exact { g with engine := rfl }
  | wipes id =>
    refine { g with records := fun c => ?_ }
    rw [PerProfile.get_const]
    exact List.length_replicate ..
  | restores id x filled count =>
    refine { g with records := fun c => ?_ }
    rw [PerProfile.get_make]
    exact (restoredRecords_length ((slotShaped_iff x).mp (g.slots x filled) c)).trans count
  | saves j tag id map =>
    refine g.setSlot ((slotShaped_iff _).mpr fun c es hes => ?_)
    simp only [savedSlot, PerProfile.get_make, Option.some.injEq] at hes
    rw [← hes, List.length_map, g.records c, map]
    rfl
  | heads j tag n =>
    refine g.setSlot ((slotShaped_iff _).mpr fun c es hes => ?_)
    simp at hes
  | images j x c es filled count =>
    refine g.setSlot ((slotShaped_iff _).mpr fun d fs hfs => ?_)
    simp only [PerProfile.get_set] at hfs
    split at hfs
    · obtain rfl := Option.some.inj hfs
      exact count
    · exact (slotShaped_iff x).mp (g.slots x filled) d fs hfs
  | _ => exact { g with }

end ScanState

theorem slicesAgree_iff : SlicesAgree s ↔ s.scanState.Sliced := by
  constructor
  · rintro ⟨mapA, mapB, traverse, engine, records, slots⟩
    refine ⟨fun l r hr => ?_, fun o ho => ?_, engine, (ScanState.allLengths_iff _ _).mp records, fun x hx => ?_⟩
    · cases l with
      | a => exact (Option.all_eq_true ..).mp mapA r hr
      | b => exact (Option.all_eq_true ..).mp mapB r hr
    · exact (Option.all_eq_true ..).mp traverse o ho
    · exact List.all_eq_true.mp slots _ hx
  · intro h
    refine ⟨(Option.all_eq_true ..).mpr (h.maps .a), (Option.all_eq_true ..).mpr (h.maps .b),
      (Option.all_eq_true ..).mpr h.traverse, h.engine, (ScanState.allLengths_iff _ _).mpr h.records,
      List.all_eq_true.mpr fun x hx => (Option.all_eq_true ..).mpr fun y hy => h.slots y (hy ▸ hx)⟩

end Sys2Proof.Machine

/-! ## What the operations of the part do to the scan state (O7, O12) -/

namespace Sys2Proof.Machine

variable {s t u : State}

open ScanState (Next)

/-- The scan state of the one comes from that of the other by changes that a step can make. -/
def Reaches (s t : State) : Prop := Relation.ReflTransGen Next s.scanState t.scanState

theorem Reaches.of_eq (e : t.scanState = s.scanState) : Reaches s t := by
  rw [Reaches, e]

theorem Reaches.of_next (h : Next s.scanState t.scanState) : Reaches s t := .single h

theorem Reaches.refl (s : State) : Reaches s s := .of_eq rfl

theorem Reaches.trans (h : Reaches s t) (k : Reaches t u) : Reaches s u := Relation.ReflTransGen.trans h k

/-- What every such change keeps, any number of them keeps. -/
theorem Reaches.keeps {P : ScanState → Prop} (h : Reaches s t) (step : ∀ {k k'}, Next k k' → P k → P k') :
    P s.scanState → P t.scanState := by
  unfold Reaches at h
  generalize s.scanState = k, t.scanState = k' at h ⊢
  intro hk
  induction h with
  | refl => exact hk
  | tail _ next ih => exact step next ih

/-! ### Operations that leave the scan state -/

section
variable (s : State)

@[simp] theorem sendMove_scanState (target speed : Nat) : (sendMove target speed s).scanState = s.scanState := rfl
@[simp] theorem endMove_scanState : (endMove s).scanState = s.scanState := rfl
@[simp] theorem sendStop_scanState : (sendStop s).scanState = s.scanState := rfl
@[simp] theorem startSilence_scanState : (startSilence s).scanState = s.scanState := rfl
@[simp] theorem startProbeTimer_scanState : (startProbeTimer s).scanState = s.scanState := rfl
@[simp] theorem raise_scanState (c : Condition) : (raise c s).scanState = s.scanState := rfl
@[simp] theorem noteMoment_scanState (v : View) : (noteMoment v s).scanState = s.scanState := rfl
@[simp] theorem respond_scanState (f : CommandFrame) (a : Answer) : (respond f a).scanState = a.state.scanState := rfl
@[simp] theorem commit_scanState : (commit s).scanState = s.scanState := rfl

@[simp] theorem settle_scanState : (settle s).scanState = s.scanState := by simp [State.scanState]

@[simp] theorem raiseIf_scanState (b : Bool) (c : Condition) : (raiseIf b c s).scanState = s.scanState := by
  simp [State.scanState]

@[simp] theorem placeNotice_scanState (n : Notice) : (placeNotice n s).scanState = s.scanState := by
  rw [placeNotice_eq]
  rfl

@[simp] theorem abandonCollection_scanState : (abandonCollection s).scanState = s.scanState := by
  simp [State.scanState]

@[simp] theorem abortCollection_scanState : (abortCollection s).scanState = s.scanState := by
  unfold abortCollection
  split
  · rfl
  · exact abandonCollection_scanState s

@[simp] theorem watchArrival_scanState : (watchArrival s).scanState = s.scanState := by
  obtain ⟨_, _, _, e⟩ := watchArrival_eq s
  rw [e]
  rfl

@[simp] theorem watchStandardizeEnd_scanState : (watchStandardizeEnd s).scanState = s.scanState := by
  unfold watchStandardizeEnd
  split <;> rfl

@[simp] theorem watchDwellStart_scanState : (watchDwellStart s).scanState = s.scanState := by
  unfold watchDwellStart
  split <;> rfl

@[simp] theorem gapResetRuns_scanState (x : Sample) : (gapResetRuns x s).scanState = s.scanState := by
  unfold gapResetRuns
  split <;> rfl

@[simp] theorem lookForSheet_scanState (tr : Conditioned) : (lookForSheet tr s).scanState = s.scanState := by
  unfold lookForSheet
  split
  · rfl
  · split
    · split <;> rfl
    · rfl

@[simp] theorem feedWindows_scanState (x : Sample) : (feedWindows x s).scanState = s.scanState := by
  rw [feedWindows_eq]
  rfl

@[simp] theorem streamTakes_scanState (x : Sample) : (streamTakes x s).scanState = s.scanState := by
  rw [streamTakes_eq]
  rfl

@[simp] theorem conditionerTakes_scanState (f : SampleFrame) : (conditionerTakes f s).scanState = s.scanState := by
  rw [conditionerTakes_eq]
  rfl

@[simp] theorem notePosition_scanState (p : Nat) : (notePosition p s).scanState = s.scanState := by
  unfold notePosition
  dsimp only
  split <;> rfl

@[simp] theorem stageFactors_scanState (r : PerMeasured (Option ParticipantResult)) :
    (stageFactors r s).scanState = s.scanState := by
  unfold stageFactors
  split <;> rfl

@[simp] theorem arbitrate_scanState : (arbitrate s).scanState = s.scanState := by
  unfold arbitrate
  split <;> rfl

/-! ### The open traverse -/

@[simp] theorem abandonTraverse_scanState (r : AbandonReason) :
    (abandonTraverse r s).scanState = { s.scanState with traverse := none } := by
  simp [State.scanState]

theorem abandonTraverse_reaches (r : AbandonReason) : Reaches s (abandonTraverse r s) := by
  rw [Reaches, abandonTraverse_scanState]
  exact .single (.drops _)

theorem closeTraverse_reaches : Reaches s (closeTraverse s) := by
  cases ho : s.binning.openTraverse with
  | none => exact .of_eq (by simp [closeTraverse, ho])
  | some o =>
    by_cases idle : s.closeOut.engine = .idle
    · rw [closeTraverse_idle s o ho idle, Reaches, raiseIf_scanState]
      exact .single (.closes s.scanState o (closingParams o s) ho rfl)
    · rw [closeTraverse_busy s o ho idle, Reaches, raise_scanState, placeNotice_scanState]
      exact .single (.drops s.scanState)

theorem markTraverse_reaches : Reaches s (markTraverse s) := by
  cases ho : s.binning.openTraverse with
  | none => exact .of_eq (by simp [State.scanState, ho])
  | some o =>
    have marked : (markTraverse s).scanState = { s.scanState with traverse := some { o with breakMark := true } } := by
      simp [State.scanState, ho]
    rw [Reaches, marked]
    exact .single (.bins _ o _ ho rfl rfl)

theorem binBank_length (r : MapRecord) (x : Sample) (b : Bank) : (binBank r x b).length = b.length := by
  unfold binBank
  split
  · rfl
  · split
    · exact List.length_modify ..
    · rfl

theorem binningTakes_reaches (x : Sample) : Reaches s (binningTakes x s) := by
  unfold binningTakes
  split
  · exact .refl s
  · rename_i o ho
    exact .of_next (.bins _ o _ ho rfl (binBank_length ..))

/-! ### The profile -/

omit s in
theorem slot_mem {p : ProfileStore} {k : Nat} {x : SaveSlot} (h : p.slot k = some x) : some x ∈ p.slots := by
  rw [← h, ProfileStore.slot]
  by_cases within : k < p.slots.length
  · rw [List.getD_eq_getElem _ _ within]
    exact List.getElem_mem within
  · rw [ProfileStore.slot, List.getD_eq_default _ _ (Nat.not_lt.mp within)] at h
    exact nomatch h

/-- An action applied keeps the profile, clears it, or restores a slot of the map's slice count (R121 to R123). -/
theorem applyAction_reaches (a : PendingAction) : Reaches s { s with profile := s.profile.applyAction a } := by
  have wiped (id : MapIdentity) (n : ProfileNote) : Reaches s { s with profile := s.profile.clearTo id n } :=
    .of_next (.wipes _ id)
  unfold ProfileStore.applyAction
  split
  · split
    · exact .refl s
    · exact wiped _ _
  · exact wiped _ _
  · split
    · rename_i x hx
      split
      · rename_i count
        exact .of_next (.restores _ _ x (slot_mem hx) count)
      · exact wiped _ _
    · exact wiped _ _

theorem takeAction_reaches (a : PendingAction) : Reaches s (takeAction a s) := by
  unfold takeAction
  split
  · exact applyAction_reaches s a
  · exact .of_eq rfl

theorem applyPending_reaches : Reaches s (applyPending s) := by
  unfold applyPending
  split
  · rename_i a _
    exact applyAction_reaches { s with profile := { s.profile with action := none } } a
  · exact .refl s

/-- FILTER adopts the traverse's map, then writes its records (R71 to R75). -/
theorem completeFilter_reaches {bank : Bank} {p : ClosingParams} {m : MeansResults}
    (e : s.closeOut.engine = .filter bank p m) : Reaches s (completeFilter bank p m s) := by
  have adopted : Reaches s { s with profile := adopt p.map.identity s.profile } := by
    obtain ⟨_, e⟩ | e := adopt_cases p.map.identity s.profile <;> rw [e]
    · exact .refl s
    · exact .of_next (.wipes _ _)
  refine adopted.trans ?_
  rw [Reaches, completeFilter, raiseIf_scanState]
  exact .single (.filters (State.scanState _) bank p m e (adopt_map _ _))

/-! ### Moves, approaches, requests -/

/-- Sent to park from a state in which the scan-on flag alone has been cleared, if any. -/
theorem goPark_reaches {t : State} (e : t.scanState = { s.scanState with scanOn := t.frame.scanOn })
    (kept : t.frame.scanOn = true → s.frame.scanOn = true) : Reaches s (goPark t) := by
  have sent : (goPark t).scanState = { t.scanState with carriage := .parking } := rfl
  rw [Reaches, sent, e]
  exact .single (.parks s.scanState t.frame.scanOn kept)

/-- Sent to park with the traverse abandoned and the scan-on flag cleared. -/
theorem abandoned_goPark_reaches (r : AbandonReason) :
    Reaches s (goPark (abandonTraverse r (setScanOn false s))) := by
  refine .trans (.of_next (t := dropTraverse s) (.drops _)) (goPark_reaches _ ?_ ?_)
  · rw [abandonTraverse_scanState, abandonTraverse_frame]
    rfl
  · rw [abandonTraverse_frame]
    exact nofun

theorem beginApproach_reaches (on : s.frame.scanOn = true) : Reaches s (beginApproach s) := by
  cases hg : governing s with
  | none =>
    rw [beginApproach_none s hg]
    exact .of_next (.rests _ fun _ => hg)
  | some c =>
    have context : s.scanState.governing.isSome = true := by
      show (governing s).isSome = true
      rw [hg]
      rfl
    have next := Next.approaches s.scanState context
    rw [beginApproach_some s c hg, Reaches]
    refine .single ?_
    simpa only [State.moving, State.scanState, on] using next

theorem governing_isSome (h : ¬ (s.contexts.queue = [] ∧ s.contexts.inEffect = none)) :
    (governing s).isSome = true := by
  unfold governing
  cases hq : s.contexts.queue with
  | nil => simpa [hq, Option.isSome_iff_ne_none] using h
  | cons c rest => rfl

/-- A start that leads to an approach at once (R97, R107). -/
theorem started_approach_reaches (context : (governing s).isSome = true) :
    Reaches s (beginApproach (setScanOn true s)) := by
  obtain ⟨c, hg⟩ := Option.isSome_iff_exists.mp context
  rw [beginApproach_some (setScanOn true s) c hg]
  exact .of_next (.approaches s.scanState context)

/-- STANDARDIZING is entered from PARKED alone by a request. -/
theorem setRequest_reaches : Reaches s (setRequest s) := by
  unfold setRequest
  dsimp only
  split
  · exact .of_next (.standardizes s.scanState)
  · exact .of_eq rfl

theorem checkDue_reaches : Reaches s (checkDue s) := by
  unfold checkDue
  split
  · exact setRequest_reaches s
  · exact .refl s

theorem parkRequest_reaches : Reaches s (parkRequest s) := by
  have cleared {u : State} (e : u.scanState = { s.scanState with scanOn := false })
      (elsewhere : s.frame.carriage.isPositioning = false) : Reaches s u := by
    rw [Reaches, e]
    exact .single (.clears _ elsewhere)
  unfold parkRequest
  split
  case h_1 | h_2 => exact .refl s
  case h_3 hc => exact cleared (watchArrival_scanState _) (by rw [hc]; rfl)
  case h_4 hc | h_5 hc => exact cleared rfl (by rw [hc]; rfl)
  case h_6 => exact abandoned_goPark_reaches s .brk
  case h_7 | h_8 => exact goPark_reaches s rfl nofun

theorem probeRequest_reaches : Reaches s (probeRequest s) := by
  unfold probeRequest
  split
  · rename_i parked
    exact .of_next (.probes _ parked)
  · exact .of_eq rfl

theorem startScanning_reaches (h : startRefusal s = none) : Reaches s (startScanning s) := by
  have checked : (governing s).isSome = true ∧ (s.frame.carriage ≠ .parked → s.frame.carriage.mayBeScanOn = true) := by
    unfold startRefusal at h
    split at h
    case h_1 | h_2 | h_3 | h_4 => exact nomatch h
    all_goals
      rename_i hc
      split at h
      · exact nomatch h
      · rename_i context
        exact ⟨governing_isSome s context, by simp [hc, Carriage.mayBeScanOn]⟩
  obtain ⟨context, may⟩ := checked
  unfold startScanning
  dsimp only
  split
  · exact started_approach_reaches s context
  · rename_i away
    exact .of_next (.starts _ context (may away))

theorem startRequest_reaches : Reaches s (startRequest s) := by
  unfold startRequest
  split
  · rename_i h
    exact startScanning_reaches s (Option.isNone_iff_eq_none.mp h)
  · exact .refl s

/-! ### Openings and reversals -/

theorem takeContext_reaches (r : MapRecord) : Reaches s (takeContext r s) := by
  unfold takeContext
  split
  · exact .refl s
  · rename_i c rest front
    exact (Reaches.of_next (t := { s with contexts := ⟨rest, some c⟩ }) (.takes s.scanState c rest front)).trans
      ((checkDue_reaches _).trans (takeAction_reaches _ _))

/-- After the hand-over the governing context is the one in effect (R117). -/
theorem takeContext_inEffect (r : MapRecord) {c : Context} (h : governing s = some c) :
    (takeContext r s).contexts.inEffect = some c := by
  unfold takeContext
  split
  · rename_i empty
    simpa [governing, empty] using h
  · rename_i c' rest front
    obtain rfl : c' = c := by simpa [governing, front] using h
    rw [takeAction_contexts, (checkDue_steady _).contexts]

theorem openTraverse_reaches (d : Direction) : Reaches s (openTraverse d s) := by
  cases hg : governing s with
  | none =>
    simp only [openTraverse, hg]
    exact goPark_reaches s rfl id
  | some c =>
    cases hm : s.tables.map c.map with
    | none =>
      simp only [openTraverse, hg, hm]
      exact goPark_reaches s rfl id
    | some r =>
      rw [openTraverse_eq d s c r hg hm]
      refine (takeContext_reaches s r).trans (.of_next (.opens _ d c r _ (takeContext_inEffect s r hg) ?_))
      show (takeContext r s).tables.map c.map = some r
      rw [takeContext_tables, hm]

theorem reverse_reaches (d : Direction) : Reaches s (reverse d s) := by
  have onward (t : State) : Reaches t (if !t.frame.scanOn || t.standardize.request then goPark t
      else openTraverse (otherDirection d) t) := by
    split
    · exact goPark_reaches t rfl id
    · exact openTraverse_reaches t _
  refine .trans ?_ (onward _)
  split
  · exact abandonTraverse_reaches s _
  · exact closeTraverse_reaches s

/-! ### The consumers of a sample -/

theorem declareBreak_reaches (source : BreakSource) : Reaches s (declareBreak source s) := by
  have declared : Reaches s (raise .sheetBreak (quietRuns { s with watch := { s.watch with
    state := .broken, source := some source, breakRun := 0, heldRun := none, sheetRun := 0, holdOff := none } })) :=
    .of_eq rfl
  unfold declareBreak
  dsimp only
  split
  · exact declared.trans (parkRequest_reaches _)
  · exact declared.trans (markTraverse_reaches _)

theorem detect_reaches (tr : Conditioned) : Reaches s (detect tr s) := by
  unfold detect
  split
  · exact .refl s
  · split
    · split
      · exact .trans (.of_eq rfl) (declareBreak_reaches _ _)
      · exact .of_eq rfl
    · exact .of_eq rfl

theorem watchTakes_reaches (x : Sample) : Reaches s (watchTakes x s) := by
  have reset : Reaches s (gapResetRuns x s) := .of_eq (gapResetRuns_scanState s x)
  unfold watchTakes
  dsimp only
  split
  · exact reset
  · split
    · exact reset.trans (detect_reaches _ _)
    · split
      · exact reset.trans (.of_eq (lookForSheet_scanState _ _))
      · exact reset

theorem standardizeEnded_reaches : Reaches s (standardizeEnded s) := by
  rw [Reaches, standardizeEnded, watchStandardizeEnd_scanState]
  split
  · rename_i on
    exact beginApproach_reaches s on
  · rename_i off
    exact .single (.rests s.scanState fun on => absurd on off)

theorem standardizeTakes_reaches (x : Sample) : Reaches s (standardizeTakes x s) := by
  unfold standardizeTakes
  split
  · exact .refl s
  · split
    · dsimp only
      split
      · refine .trans (.of_eq ?_) (standardizeEnded_reaches _)
        rw [raiseIf_scanState, raiseIf_scanState]
        exact stageFactors_scanState ..
      · exact .of_eq rfl
    · exact .refl s

theorem arriveAtPark_reaches : Reaches s (arriveAtPark s) := by
  have told : Reaches s (watchArrival (endMove s)) := .of_eq (watchArrival_scanState _)
  unfold arriveAtPark
  dsimp only
  split
  · exact told.trans (.of_next (.standardizes _))
  · split
    · rename_i on
      exact told.trans (beginApproach_reaches _ on)
    · rename_i off
      exact told.trans (.of_next (.rests _ fun on => absurd on off))

theorem frameTakes_reaches (x : Sample) : Reaches s (frameTakes x s) := by
  have noted : Reaches s (notePosition x.frame.position s) := .of_eq (notePosition_scanState ..)
  unfold frameTakes
  dsimp only
  split
  case h_1 =>
    split
    · exact noted.trans (arriveAtPark_reaches _)
    · exact noted
  case h_2 d _ =>
    split
    · exact noted.trans ((Reaches.of_eq (endMove_scanState _)).trans (openTraverse_reaches _ d))
    · exact noted
  case h_3 d _ =>
    split
    · exact noted.trans (reverse_reaches _ d)
    · exact noted
  case h_4 hc =>
    split
    · exact noted.trans (.of_next (.dwells _ _ (.inl ⟨hc, rfl⟩)))
    · exact noted
  case h_5 => exact noted.trans (.of_eq (feedWindows_scanState ..))
  case h_6 hc =>
    split
    · refine noted.trans ?_
      rw [Reaches, startProbeDwell, watchDwellStart_scanState]
      exact .single (.dwells (State.scanState _) _ (.inr ⟨hc, rfl⟩))
    · exact noted
  all_goals exact noted

theorem Consumer.takes_reaches (x : Sample) (c : Consumer) : Reaches s (c.takes x s) := by
  rw [Consumer.takes_eq, Reaches, noteMoment_scanState]
  cases c with
  | frameController => exact frameTakes_reaches (noteMoment _ s) x
  | breakWatch => exact watchTakes_reaches s x
  | standardizeUnit => exact standardizeTakes_reaches s x
  | stream => exact Reaches.of_eq (streamTakes_scanState s x)

theorem takeSample_reaches (f : SampleFrame) : Reaches s (takeSample f s) := by
  rw [takeSample_eq]
  have binned : Reaches s (beforeConsumers f s) :=
    .trans (.of_eq (conditionerTakes_scanState (delivered s) f)) (binningTakes_reaches _ _)
  exact binned.trans (foldl_takes_rel _ _ _ .refl .trans fun c _ u => c.takes_reaches u _)

end

end Sys2Proof.Machine

/-! ## Scanning stays governed and slices stay alike, row by row (O7, O12) -/

namespace Sys2Proof.Machine

variable {s t : State}

open ScanState (Next)

/-! ### The commands of the carriage -/

section
variable (s : State)

theorem standardizeCommand_reaches (a : Unit) : Reaches s (standardizeCommand a s).state := by
  unfold standardizeCommand
  split
  case h_1 | h_2 | h_3 => exact .refl s
  all_goals exact setRequest_reaches s

theorem parkCommand_reaches (a : Unit) : Reaches s (parkCommand a s).state := by
  unfold parkCommand
  split
  case h_1 => exact .refl s
  case h_2 hc => exact .of_next (.clears _ (by rw [State.scanState, hc]; rfl))
  case h_3 =>
    refine goPark_reaches s ?_ ?_
    · rw [abandonCollection_scanState, abandonCollection_frame]
      rfl
    · rw [abandonCollection_frame]
      exact nofun
  case h_8 =>
    split
    · exact goPark_reaches s rfl id
    · exact .refl s
  all_goals exact abandoned_goPark_reaches s .park

theorem startCommand_reaches (a : Unit) : Reaches s (startCommand a s).state := by
  unfold startCommand
  split
  · exact .refl s
  · rename_i h
    exact startScanning_reaches s h

theorem stopCommand_reaches (a : Unit) : Reaches s (stopCommand a s).state := by
  unfold stopCommand
  dsimp only
  split
  case h_1 | h_2 => exact goPark_reaches s rfl nofun
  all_goals
    rename_i hc
    replace hc : s.frame.carriage = _ := hc
    exact .of_next (.clears _ (by rw [State.scanState, hc]; rfl))

theorem resumeCommand_reaches (a : Unit) : Reaches s (resumeCommand a s).state := by
  unfold resumeCommand
  split
  case h_1 =>
    split
    · exact .refl s
    · rename_i context
      split
      · exact .refl s
      · exact started_approach_reaches s (governing_isSome s context)
  all_goals exact .refl s

theorem fixedPointCommand_reaches (p : Nat) : Reaches s (fixedPointCommand p s).state := by
  have sent : Reaches s (goFixed p s) := by
    refine .trans (.of_next (t := dropTraverse s) (.drops _)) (.of_next ?_)
    have next := Next.fixes (dropTraverse s).scanState
    simpa [goFixed, State.scanState, sendMove] using next
  unfold fixedPointCommand
  split
  · exact .refl s
  · split
    case h_1 | h_2 | h_3 | h_4 => exact .refl s
    all_goals
      split
      · exact .refl s
      · exact sent

theorem sheetNotice_reaches (k : Nat) : Reaches s (sheetNotice k s).state := by
  unfold sheetNotice
  split
  · show Reaches s (breakNotice s)
    unfold breakNotice
    split
    case h_1 | h_2 => exact declareBreak_reaches s .mill
    all_goals exact .refl s
  · show Reaches s (restoredNotice s)
    unfold restoredNotice
    split <;> exact .of_eq rfl
  · exact .refl s

/-- RESTART leaves the maps and the save slots, and the carriage away from any traverse (R113). -/
theorem restartCommand_reaches (a : Unit) : Reaches s (restartCommand a s).state := by
  show Reaches s (restartCarriage (restartBlocks (abandonCollection s)))
  have restarted {c : Carriage} {u : State} (away : ∀ sub d, c ≠ .traverse sub d)
      (e : u.scanState = { (restartBlocks (abandonCollection s)).scanState with carriage := c }) : Reaches s u := by
    rw [Reaches, e, restartBlocks_abandonCollection]
    exact .single (.restarts s.scanState c away)
  have stays {c : Carriage} (hc : (restartBlocks (abandonCollection s)).frame.carriage = c)
      (away : ∀ sub d, c ≠ .traverse sub d) : Reaches s (restartBlocks (abandonCollection s)) :=
    restarted away (by rw [← hc]; rfl)
  unfold restartCarriage
  split
  case h_1 hc | h_2 hc | h_3 hc => exact stays hc nofun
  case h_4 => exact restarted (c := .parked) nofun rfl
  all_goals exact restarted (c := .parking) nofun rfl

/-! ### The commands of maps, contexts and slots -/

omit s in
theorem setMap_map (x : Tables) (l : MapLetter) (r : MapRecord) :
    (x.setMap l r).map = Function.update x.map l (some r) := by
  funext m
  cases l <;> cases m <;> rfl

omit s in
theorem validMap_shaped {stored : Option MapRecord} {a : MapArgs} {r : MapRecord} (h : validMap stored a = some r) :
    r.shaped = true := by
  unfold validMap at h
  split at h
  · exact nomatch h
  · dsimp only at h
    split at h
    · rename_i passes
      obtain rfl := Option.some.inj h
      simp only [Bool.and_eq_true, beq_iff_eq] at passes
      obtain ⟨⟨⟨⟨_, count⟩, _⟩, _⟩, _⟩ := passes
      simp [MapRecord.shaped, count]
    · exact nomatch h

theorem writeMap_reaches (a : MapArgs) : Reaches s (writeMap a s).state := by
  unfold writeMap
  split
  · exact .refl s
  · rename_i l _
    split
    · exact .refl s
    · split
      · exact .refl s
      · rename_i r hr
        have written : State.scanState { s with tables := s.tables.setMap l r } =
            { s.scanState with maps := Function.update s.scanState.maps l (some r) } := by
          rw [State.scanState, setMap_map]
          rfl
        rw [Reaches, accept, written]
        exact .single (.loads _ l r (validMap_shaped hr))

omit s in
theorem validContext_loaded {x : Tables} {a : ContextArgs} {c : Context} (h : validContext x a = some c) :
    (x.map c.map).isSome = true := by
  unfold validContext at h
  split at h
  · dsimp only at h
    split at h
    · rename_i passes
      obtain rfl := Option.some.inj h
      simp only [Bool.and_eq_true] at passes
      obtain ⟨⟨⟨⟨⟨⟨⟨loaded, _⟩, _⟩, _⟩, _⟩, _⟩, _⟩, _⟩ := passes
      exact loaded
    · exact nomatch h
  · exact nomatch h

theorem pushContext_reaches (a : ContextArgs) : Reaches s (pushContext a s).state := by
  unfold pushContext
  split
  · exact .refl s
  · rename_i c hc
    split
    · exact .of_eq rfl
    · exact .of_next (.pushes s.scanState c (validContext_loaded hc))

theorem flushQueue_reaches (a : Unit) : Reaches s (flushQueue a s).state := by
  unfold flushQueue
  split
  · exact .refl s
  · rename_i may
    exact .of_next (.flushes s.scanState may)

theorem saveProfile_reaches (a : Nat × Nat) : Reaches s (saveProfile a s).state := by
  unfold saveProfile
  split
  · exact .refl s
  · split
    · exact .refl s
    · split
      · exact .refl s
      · rename_i id hid
        exact .of_next (.saves s.scanState a.1 a.2 id hid)

theorem restoreProfile_reaches (k : Nat) : Reaches s (restoreProfile k s).state := by
  unfold restoreProfile
  split
  · exact .refl s
  · split
    · exact .refl s
    · split
      · exact .refl s
      · rename_i id _
        split
        · exact .refl s
        · rename_i x hx
          split
          · exact .refl s
          · rename_i count
            exact .of_next (.restores s.scanState id x (slot_mem hx) (not_not.mp count))

theorem clearProfile_reaches (a : Unit) : Reaches s (clearProfile a s).state := by
  unfold clearProfile
  split
  · exact .refl s
  · split
    · exact .refl s
    · rename_i id _
      exact .of_next (.wipes s.scanState id)

theorem writeSlotHeader_reaches (a : Nat × Nat × Nat) : Reaches s (writeSlotHeader a s).state := by
  unfold writeSlotHeader
  split
  · exact .refl s
  · exact .of_next (.heads s.scanState a.1 a.2.1 a.2.2)

theorem writeSlotImage_reaches (a : ImageArgs) : Reaches s (writeSlotImage a s).state := by
  unfold writeSlotImage
  split
  · exact .refl s
  · rename_i c _
    split
    · exact .refl s
    · split
      · exact .refl s
      · rename_i x hx
        split
        · exact .refl s
        · rename_i count
          split
          · exact .refl s
          · rename_i es hes
            exact .of_next (.images s.scanState a.slot x c es (slot_mem hx)
              ((mapM_some_mem hes).1.trans (not_not.mp count)))

/-! ### Events -/

theorem haltFor_reaches (c : Condition) : Reaches s (haltFor c s) := by
  have halted : Reaches s (haltCarriage s) :=
    (abandonTraverse_reaches s .halt).trans (.of_next (.halts _))
  exact halted.trans (.of_eq (abortCollection_scanState _))

theorem driveFault_reaches : Reaches s (driveFault s) := by
  have halted : Reaches s (haltCarriage s) :=
    (abandonTraverse_reaches s .halt).trans (.of_next (.halts _))
  exact halted.trans (.of_eq (abandonCollection_scanState _))

theorem takeDriveStatus_reaches (d : DriveStatus) : Reaches s (takeDriveStatus d s) := by
  have noted : Reaches s { s with frame := { s.frame with lastDrive := some d } } := .of_eq rfl
  unfold takeDriveStatus
  dsimp only
  split
  case h_1 =>
    split
    · exact .of_eq rfl
    · split
      · exact noted.trans (goPark_reaches _ rfl id)
      · exact noted
  case h_2 => exact noted.trans (.of_eq (raiseIf_scanState ..))
  all_goals
    split
    · exact noted.trans (driveFault_reaches _)
    · exact noted

theorem silenceExpires_reaches : Reaches s (silenceExpires s) := by
  unfold silenceExpires
  dsimp only
  split
  case h_6 | h_7 | h_8 => exact .of_eq rfl
  all_goals exact (Reaches.of_eq (t := { s with frame := { s.frame with silence := none } }) rfl).trans (haltFor_reaches _ _)

theorem stallExpires_reaches (k : StallTimer) : Reaches s (stallExpires k s) := by
  unfold stallExpires
  split
  · dsimp only
    split
    · exact haltFor_reaches s _
    · exact .of_eq rfl
  · exact .of_eq rfl

theorem endBreak_reaches : Reaches s (endBreak s) := by
  obtain ⟨t, ht, e⟩ := endBreak_ind (P := Reaches s) (fun t ht => ht.trans (parkRequest_reaches t))
    (fun t ht => ht.trans (setRequest_reaches t)) (fun t ht => ht.trans (startRequest_reaches t)) (.of_eq (s := s) rfl)
  rw [e]
  exact ht.trans (.of_eq rfl)

theorem completeMonitors_reaches {bank : Bank} {p : ClosingParams} {m : MeansResults} {st : StatsResults}
    (e : s.closeOut.engine = .monitors bank p m st) : Reaches s (completeMonitors bank p m st s) := by
  rw [Reaches, completeMonitors, raiseIf_scanState, raiseIf_scanState]
  exact .single (.judges s.scanState bank p m st _ e)

theorem completeReport_reaches (bank : Bank) (p : ClosingParams) (m : MeansResults) (st : StatsResults)
    (mons : List MonitorResult) : Reaches s (completeReport bank p m st mons s) := by
  refine .trans ?_ ((applyPending_reaches _).trans (checkDue_reaches _))
  rw [placeReport_eq]
  exact .of_next (.reports s.scanState)

end

/-! ### Every row -/

theorem serve_reaches {α : Type} {row : CommandRow} {parse : List Byte → Option α} {owner : α → State → Answer}
    (h : ∀ a u, Reaches u (owner a u).state) (s : State) : Reaches s (serve row parse owner s) := by
  rcases serve_cases row parse owner s with e | ⟨f, rest, st, e⟩ | ⟨f, rest, a, _, _, _, e⟩ <;> rw [e]
  · exact .refl s
  · exact .of_eq rfl
  · exact h a (s.taken f rest)

theorem settle_reaches (h : Reaches s t) : Reaches s (settle t) := h.trans (.of_eq (settle_scanState t))

/-- Power-on reset apart, a step changes the scan state by changes that a step can make. -/
theorem exec_reaches (i : Instr) (hi : i ≠ .powerOnReset) (h : exec i s = .next t) : Reaches s t := by
  cases i
  all_goals obtain rfl := Host.Outcome.next.inj h
  case powerOnReset => exact absurd rfl hi
  case sample f => exact settle_reaches (takeSample_reaches s f)
  case headAnnounce | millFrameCompleted | carriageTransmit | carriageFrameCompleted | millisecondTick => exact .of_eq rfl
  case driveStatus d => exact settle_reaches (takeDriveStatus_reaches (carriageDelivered s) d)
  case passUp p =>
    refine settle_reaches ?_
    unfold queuePassUp
    split <;> exact .of_eq rfl
  case command f =>
    refine settle_reaches ?_
    unfold queueCommand
    split <;> exact .of_eq rfl
  case frameCheckFailure l c => cases l <;> exact settle_reaches (.of_eq rfl)
  case syncPairFound l =>
    split
    · cases l <;> exact .of_eq rfl
    · exact .refl s
  case millTransmit =>
    split
    · exact .of_eq (arbitrate_scanState s)
    · exact .refl s
  case silenceTimerExpiry =>
    split
    · exact settle_reaches (silenceExpires_reaches s)
    · exact .refl s
  case stallTimerExpiry =>
    split
    · split
      · exact settle_reaches (stallExpires_reaches s _)
      · exact .refl s
    · exact .refl s
  case stdTimerExpiry =>
    split
    · split
      · exact settle_reaches (.trans (.of_eq (abandonCollection_scanState s)) (standardizeEnded_reaches (raise _ _)))
      · exact .refl s
    · exact .refl s
  case probeTimerExpiry =>
    split
    · exact probeRequest_reaches { s with watch := { s.watch with probe := none } }
    · exact .refl s
  case probeDwellExpiry =>
    split
    · exact parkRequest_reaches { s with watch := { s.watch with dwell := none, sheetRun := 0 } }
    · exact .refl s
  case holdOffExpiry =>
    split
    · exact settle_reaches (endBreak_reaches s)
    · exact .refl s
  case meansComplete =>
    split
    · exact .of_next (.averages s.scanState _ _ ‹_›)
    · exact .refl s
  case filterComplete =>
    split
    · exact settle_reaches (completeFilter_reaches s ‹_›)
    · exact .refl s
  case statsComplete =>
    split
    · exact .of_next (.measures s.scanState _ _ _ _ ‹_›)
    · exact .refl s
  case monitorsComplete =>
    split
    · exact settle_reaches (completeMonitors_reaches s ‹_›)
    · exact .refl s
  case reportComplete =>
    split
    · exact completeReport_reaches s ..
    · exact .refl s
  case startScan => exact serve_reaches (fun a u => startCommand_reaches u a) s
  case stopScan => exact serve_reaches (fun a u => stopCommand_reaches u a) s
  case park => exact serve_reaches (fun a u => parkCommand_reaches u a) s
  case resume => exact serve_reaches (fun a u => resumeCommand_reaches u a) s
  case fixedPoint => exact serve_reaches (fun a u => fixedPointCommand_reaches u a) s
  case standardize => exact serve_reaches (fun a u => standardizeCommand_reaches u a) s
  case sheetNotice => exact settle_reaches (serve_reaches (fun a u => sheetNotice_reaches u a) s)
  case restart => exact serve_reaches (fun a u => restartCommand_reaches u a) s
  case writeTableMap => exact serve_reaches (fun a u => writeMap_reaches u a) s
  case pushContext => exact settle_reaches (serve_reaches (fun a u => pushContext_reaches u a) s)
  case flushQueue => exact serve_reaches (fun a u => flushQueue_reaches u a) s
  case saveProfile => exact serve_reaches (fun a u => saveProfile_reaches u a) s
  case restoreProfile => exact serve_reaches (fun a u => restoreProfile_reaches u a) s
  case clearProfile => exact serve_reaches (fun a u => clearProfile_reaches u a) s
  case writeTableSlotHeader => exact serve_reaches (fun a u => writeSlotHeader_reaches u a) s
  case writeTableSlotImage => exact serve_reaches (fun a u => writeSlotImage_reaches u a) s
  case writeTableCurve => exact serve_reaches (fun a u => have ⟨_, e⟩ := writeCurve_state u a; .of_eq (by rw [e]; rfl)) s
  case writeTableBias => exact serve_reaches (fun a u => have ⟨_, e⟩ := writeBias_state u a; .of_eq (by rw [e]; rfl)) s
  case writeTableStdf => exact serve_reaches (fun a u => have ⟨_, e⟩ := writeStdf_state u a; .of_eq (by rw [e]; rfl)) s
  case writeTableMonitor =>
    exact serve_reaches (fun a u => have ⟨_, _, _, e⟩ := writeMonitor_state u a; .of_eq (by rw [e]; rfl)) s
  case writeTableSheet =>
    exact serve_reaches (fun a u => have ⟨_, _, e⟩ := writeSheet_state u a; .of_eq (by rw [e]; rfl)) s
  case writeTableFrame => exact serve_reaches (fun a u => have ⟨_, e⟩ := writeFrame_state u a; .of_eq (by rw [e]; rfl)) s
  case writeTableChannel =>
    exact serve_reaches (fun a u => have ⟨_, e⟩ := writeChannel_state u a; .of_eq (by rw [e]; rfl)) s
  case clearConditions =>
    exact serve_reaches (fun a u => have ⟨_, e⟩ := clearConditions_state u a; .of_eq (by rw [e]; rfl)) s
  case setMask => exact serve_reaches (fun a u => have ⟨_, e⟩ := setMask_state u a; .of_eq (by rw [e]; rfl)) s
  case passDown =>
    refine settle_reaches (serve_reaches (fun a u => ?_) s)
    obtain e | e | ⟨_, e⟩ := passDown_state u a
    · exact .of_eq (by rw [e])
    all_goals exact .of_eq (by rw [e]; rfl)
  case readTable => exact serve_reaches (fun a u => .of_eq (by rw [readTable_state])) s
  case readFixed => exact serve_reaches (fun a u => .of_eq (by rw [readFixed_state])) s
  case readProfile => exact serve_reaches (fun a u => .of_eq (by rw [readProfile_state])) s
  case readTrend => exact serve_reaches (fun a u => .of_eq (by rw [readTrend_state])) s
  case readStatus | writeTableUnknownRegion | unknownCommandCode | lockCalibration | ackAlarm | clearCounters
    | setStream =>
    exact serve_reaches (fun _ _ => .of_eq rfl) s

/-- What holds of the scan state after reset, and is kept by every change that a step can make, is kept by every step. -/
theorem step_keeps_scanState {P : ScanState → Prop} (reset : P State.reset.scanState)
    (next : ∀ {k k'}, Next k k' → P k → P k') (hs : P s.scanState) (h : step s = .next t) : P t.scanState := by
  unfold step at h
  split at h
  · obtain rfl := Host.Outcome.next.inj h
    exact hs
  · rename_i c rest _
    by_cases hc : c = .powerOnReset
    · subst hc
      obtain rfl := Host.Outcome.next.inj h
      exact reset
    · exact (exec_reaches (s := s.withPending rest) c hc h).keeps next hs

/-- Settles O7: scanning stays governed under every change that a step can make. -/
theorem stepKeepsScanGoverned : Obligations.StepKeepsScanGoverned := by
  unfold Obligations.StepKeepsScanGoverned
  intro s t hs h
  exact scanGoverned_iff.mpr (step_keeps_scanState ((scanGoverned_iff (s := State.reset)).mp (by decide))
    ScanState.Next.governed (scanGoverned_iff.mp hs) h)

/-- Settles O12: slices stay alike under every change that a step can make. -/
theorem stepKeepsSlicesAgree : Obligations.StepKeepsSlicesAgree := by
  unfold Obligations.StepKeepsSlicesAgree
  intro s t hs h
  exact slicesAgree_iff.mpr (step_keeps_scanState ((slicesAgree_iff (s := State.reset)).mp (by decide))
    ScanState.Next.sliced (slicesAgree_iff.mp hs) h)

end Sys2Proof.Machine

/-! ## Slices, edges and exclusion (O30, O32, O33, O34) -/

namespace Sys2Proof.Machine

/-! ### The edges at a closing (R55) -/

/-- Settles O33: the branches of R55 in order. -/
theorem edgesAtTheClosing : Obligations.EdgesAtTheClosing := by
  unfold Obligations.EdgesAtTheClosing
  intro lastGood o
  refine ⟨rfl, fun seeking => ⟨fun g hg => ?_, fun hg => ?_⟩, fun e p onSheet he hp => ?_, fun e l left he hl => ?_⟩
  · simp [edgesAtClosing, seeking, hg, edgesOfSpan]
  · simp [edgesAtClosing, seeking, hg, edgesOfSpan, MapRecord.span]
  · simp only [edgesAtClosing, onSheet, he, hp]
    cases o.direction <;> rfl
  · simp only [edgesAtClosing, left, he, hl]
    cases o.direction <;> rfl

/-! ### Rising boundaries -/

section
variable {l : List Nat} {i j a b : Nat}

theorem rising_lt (rising : l.Pairwise (· < ·)) (hij : i < j) (ha : l[i]? = some a) (hb : l[j]? = some b) : a < b := by
  obtain ⟨hi, rfl⟩ := List.getElem?_eq_some_iff.mp ha
  obtain ⟨hj, rfl⟩ := List.getElem?_eq_some_iff.mp hb
  exact List.pairwise_iff_getElem.mp rising i j hi hj hij

theorem rising_le (rising : l.Pairwise (· < ·)) (hij : i ≤ j) (ha : l[i]? = some a) (hb : l[j]? = some b) : a ≤ b := by
  rcases hij.lt_or_eq with hlt | rfl
  · exact (rising_lt rising hlt ha hb).le
  · rw [Option.some.inj (ha.symm.trans hb)]

end

/-! ### The slice of a position (R47) -/

/-- Position p lies in slice k of the boundaries l. -/
def HoldsPosition (l : List Nat) (p k : Nat) : Prop :=
  ∃ a b, l[k]? = some a ∧ l[k + 1]? = some b ∧ a ≤ p ∧ p < b

theorem sliceFrom_eq_some_iff {p j : Nat} {l : List Nat} (rising : l.Pairwise (· < ·)) (k : Nat) :
    sliceFrom p k l = some j ↔ ∃ i, j = k + i ∧ HoldsPosition l p i := by
  induction l generalizing k with
  | nil => simp [sliceFrom, HoldsPosition]
  | cons a l ih =>
    cases l with
    | nil => simp [sliceFrom, HoldsPosition]
    | cons b rest =>
      rw [sliceFrom]
      split
      case isTrue here =>
        constructor
        · intro h
          exact ⟨0, (Option.some.inj h).symm, a, b, rfl, rfl, here⟩
        · rintro ⟨i, rfl, a', b', ha, -, hap, -⟩
          cases i with
          | zero => rfl
          | succ i =>
            have := rising_le (i := 1) rising (by omega) rfl ha
            omega
      case isFalse here =>
        rw [ih rising.of_cons]
        constructor
        · rintro ⟨i, rfl, holds⟩
          exact ⟨i + 1, by omega, holds⟩
        · rintro ⟨i, rfl, holds⟩
          cases i with
          | zero =>
            obtain ⟨a', b', ha, hb, h⟩ := holds
            obtain rfl := Option.some.inj ha
            obtain rfl := Option.some.inj hb
            exact absurd h here
          | succ i => exact ⟨i, by omega, holds⟩

section
variable {r : MapRecord} {p b : Nat}

theorem sliceOf_eq_some_iff (rising : r.boundaries.Pairwise (· < ·)) (k : Nat) :
    r.sliceOf p = some k ↔ HoldsPosition r.boundaries p k := by
  simp [MapRecord.sliceOf, sliceFrom_eq_some_iff rising]

theorem sliceOf_below (rising : r.boundaries.Pairwise (· < ·)) (hb : r.boundaries.head? = some b) (hp : p < b) :
    r.sliceOf p = none := by
  refine Option.eq_none_iff_forall_ne_some.mpr fun k hk => ?_
  obtain ⟨a, _, ha, -, hap, -⟩ := (sliceOf_eq_some_iff rising k).mp hk
  rw [List.head?_eq_getElem?] at hb
  have := rising_le rising (Nat.zero_le k) hb ha
  omega

theorem sliceOf_above (rising : r.boundaries.Pairwise (· < ·)) (hb : r.boundaries.getLast? = some b) (hp : b ≤ p) :
    r.sliceOf p = none := by
  refine Option.eq_none_iff_forall_ne_some.mpr fun k hk => ?_
  obtain ⟨_, c, -, hc, -, hpc⟩ := (sliceOf_eq_some_iff rising k).mp hk
  rw [List.getLast?_eq_getElem?] at hb
  have hk : k + 1 < r.boundaries.length := (List.getElem?_eq_some_iff.mp hc).1
  have := rising_le rising (by omega) hc hb
  omega

end

/-! ### A sample binned (R49, R50) -/

section
variable (r : MapRecord) (x : Sample) (b : Bank)

theorem binBank_passed (h : x.frame.reference = true ∨ r.sliceOf x.frame.position = none) : binBank r x b = b := by
  obtain reference | outside := h
  · simp [binBank, reference]
  · simp [binBank, outside]

theorem binBank_slice {k : Nat} (hr : x.frame.reference = false) (hk : r.sliceOf x.frame.position = some k) :
    binBank r x b = b.modify k (binSlice x) := by
  simp [binBank, hr, hk]

theorem Accumulator.offer_eq (a : Accumulator) (v : Conditioned) : a.offer v =
    match v.usable with
    | none => a
    | some n => if a.count < 4095 then ⟨a.sum + n, a.count + 1, a.saturated⟩ else ⟨a.sum, a.count, true⟩ := by
  unfold Accumulator.offer
  split
  next n hn =>
    rw [hn, Accumulator.add, show Config.accumulatorMax = 4095 from rfl]
    dsimp only
    by_cases full : 4095 ≤ a.count
    · rw [if_pos full, if_neg (by omega)]
    · rw [if_neg full, if_pos (by omega)]
  next hn => rw [hn]

theorem get_binSlice (acc : PerProfile Accumulator) (c : ProfileChannel) :
    (binSlice x acc).get c = (acc.get c).offer (x.profileValue c) := by
  rw [binSlice, PerProfile.get_make]

end

/-- Settles O30: the slice of a position from the rising boundaries, and one accumulator at a time. -/
theorem sampleIsBinnedIntoItsSlice : Obligations.SampleIsBinnedIntoItsSlice := by
  unfold Obligations.SampleIsBinnedIntoItsSlice
  refine ⟨fun r p rising => ?_, fun x s h => ?_, fun x s o h => ?_, binBank_passed, fun r x b k hr hk j c => ?_⟩
  · have rising := (strictlyRising_iff _).mp rising
    exact ⟨sliceOf_eq_some_iff rising, fun b => sliceOf_below rising, fun b => sliceOf_above rising⟩
  · simp [binningTakes, h]
  · simp [binningTakes, h]
  · rw [binBank_slice r x b hr hk, List.getElem?_modify, Option.map_eq_map, Option.map_map]
    congr 1
    funext a
    by_cases hj : j = k
    · simp only [hj, Function.comp_apply, if_true, ne_eq, not_true_eq_false, if_false, get_binSlice]
      exact Accumulator.offer_eq _ _
    · simp [hj, Ne.symm hj]

/-! ### Runs of M samples (R53, R54) -/

section
variable (t : SheetSettings) {x y : Sample} {ys : List Sample} {e : EdgeFinder} {n p : Nat}

/-- A sample that the edge finder counts as a sheet sample: not reference-flagged, not after a gap. -/
def CountsAsSheet (x : Sample) : Prop :=
  x.frame.reference = false ∧ x.afterGap = false ∧ ∃ v, x.tr.usable = some v ∧ v < t.trPresent

/-- A sample that the edge finder counts as a clear sample. -/
def CountsAsClear (x : Sample) : Prop :=
  x.frame.reference = false ∧ x.afterGap = false ∧ ∃ v, x.tr.usable = some v ∧ t.trPresent ≤ v

variable {t}

theorem EdgeFinder.take_sheet (hx : CountsAsSheet t x) (h : e.phase = .seeking) :
    e.take t x = e.seekSheet t.m x.frame.position := by
  obtain ⟨hr, hg, v, hv, sheet⟩ := hx
  rw [EdgeFinder.take_seeking t hg hr h, EdgeFinder.seek, hv]
  exact if_pos sheet

theorem EdgeFinder.take_clear (hx : CountsAsClear t x) (h : e.phase = .onSheet) : e.take t x = e.leaveClear t.m := by
  obtain ⟨hr, hg, v, hv, clear⟩ := hx
  rw [EdgeFinder.take_onSheet t hg hr h, EdgeFinder.follow, hv]
  exact if_neg (by omega)

/-- The finder at a run of n sheet samples that began at position p. -/
def EdgeFinder.seekingRun (e : EdgeFinder) (n p : Nat) : EdgeFinder := { e with runCount := n, runStart := some p }

/-- The finder once the run of sheet samples is complete, its last position q. -/
def EdgeFinder.entered (e : EdgeFinder) (p q : Nat) : EdgeFinder :=
  { e with
    phase := .onSheet, runCount := 0, runStart := none, lastSheet := some q
    entering := some ⟨p, !e.clearSeen⟩ }

/-- The finder at a run of n clear samples. -/
def EdgeFinder.leavingRun (e : EdgeFinder) (n : Nat) : EdgeFinder := { e with runCount := n }

/-- The finder once a run of m clear samples is complete. -/
def EdgeFinder.left (e : EdgeFinder) (m : Nat) : EdgeFinder :=
  { e with phase := .left, runCount := m, leaving := e.lastSheet.map (fun p => ⟨p, false⟩) }

theorem EdgeFinder.seekSheet_first {m : Nat} (h : e.runCount = 0) (p : Nat) :
    e.seekSheet m p = if m ≤ 1 then e.entered p p else e.seekingRun 1 p := by
  simp [EdgeFinder.seekSheet, EdgeFinder.entered, EdgeFinder.seekingRun, h]

theorem EdgeFinder.take_sheet_run (hx : CountsAsSheet t x) (h : e.phase = .seeking) (hn : n ≠ 0) :
    (e.seekingRun n p).take t x = if t.m ≤ n + 1 then e.entered p x.frame.position else e.seekingRun (n + 1) p := by
  rw [EdgeFinder.take_sheet hx (show (e.seekingRun n p).phase = .seeking from h)]
  simp [EdgeFinder.seekSheet, EdgeFinder.entered, EdgeFinder.seekingRun, hn]

theorem EdgeFinder.take_clear_run (hx : CountsAsClear t x) (h : e.phase = .onSheet) :
    (e.leavingRun n).take t x = if t.m ≤ n + 1 then e.left (n + 1) else e.leavingRun (n + 1) :=
  EdgeFinder.take_clear hx (show (e.leavingRun n).phase = .onSheet from h)

/-- The rest of a run of sheet samples, n of them taken. -/
theorem EdgeFinder.foldl_take_sheet (h : e.phase = .seeking) (hn : n ≠ 0) (total : n + (y :: ys).length = t.m)
    (sheet : ∀ z ∈ y :: ys, CountsAsSheet t z) :
    (y :: ys).foldl (fun e z => e.take t z) (e.seekingRun n p) =
      e.entered p ((y :: ys).getLast (List.cons_ne_nil y ys)).frame.position := by
  induction ys generalizing n y with
  | nil =>
    rw [List.foldl_cons, EdgeFinder.take_sheet_run (sheet y List.mem_cons_self) h hn, if_pos (by simp [← total])]
    rfl
  | cons z zs ih =>
    simp only [List.length_cons] at total ih
    rw [List.foldl_cons, EdgeFinder.take_sheet_run (sheet y List.mem_cons_self) h hn, if_neg (by omega),
      ih n.succ_ne_zero (by omega) (fun w hw => sheet w (List.mem_cons_of_mem y hw)),
      List.getLast_cons (List.cons_ne_nil z zs)]

/-- The rest of a run of clear samples, n of them taken. -/
theorem EdgeFinder.foldl_take_clear (h : e.phase = .onSheet) (total : n + (y :: ys).length = t.m)
    (clear : ∀ z ∈ y :: ys, CountsAsClear t z) :
    (y :: ys).foldl (fun e z => e.take t z) (e.leavingRun n) = e.left t.m := by
  induction ys generalizing n y with
  | nil =>
    rw [List.foldl_cons, EdgeFinder.take_clear_run (clear y List.mem_cons_self) h, if_pos (by simp [← total]), ← total]
    rfl
  | cons z zs ih =>
    simp only [List.length_cons] at total ih
    rw [List.foldl_cons, EdgeFinder.take_clear_run (clear y List.mem_cons_self) h, if_neg (by omega),
      ih (by omega) (fun w hw => clear w (List.mem_cons_of_mem y hw))]

end

/-- Settles O32, by induction over what is left of the run. -/
theorem runsOfMFindTheEdges : Obligations.RunsOfMFindTheEdges := by
  unfold Obligations.RunsOfMFindTheEdges
  intro t e x xs h0 hm plain
  refine ⟨fun h sheet => ?_, fun h clear => ?_⟩
  · have sheet : ∀ y ∈ x :: xs, CountsAsSheet t y := fun y hy => ⟨(plain y hy).1, (plain y hy).2, sheet y hy⟩
    rw [List.foldl_cons, EdgeFinder.take_sheet (sheet x List.mem_cons_self) h, EdgeFinder.seekSheet_first h0]
    cases xs with
    | nil =>
      rw [if_pos (by simp [← hm])]
      rfl
    | cons y ys =>
      simp only [List.length_cons] at hm
      rw [if_neg (by omega), EdgeFinder.foldl_take_sheet h Nat.one_ne_zero (by simp only [List.length_cons]; omega)
        (fun w hw => sheet w (List.mem_cons_of_mem x hw)),
        List.getLast?_cons_cons, List.getLast?_eq_some_getLast (List.cons_ne_nil y ys)]
      rfl
  · have start : e = e.leavingRun 0 := by rw [EdgeFinder.leavingRun, ← h0]
    rw [start]
    exact EdgeFinder.foldl_take_clear h (by omega)
      (fun y hy => ⟨(plain y hy).1, (plain y hy).2, clear y hy⟩)

/-! ### Exclusion (R58) -/

section
variable {ins : List Bool} {i j k w : Nat}

theorem findIdx?_id_eq_some_iff :
    ins.findIdx? id = some i ↔ ins[i]? = some true ∧ ∀ n, ins[n]? = some true → i ≤ n := by
  rw [List.findIdx?_eq_some_iff_getElem]
  constructor
  · rintro ⟨hi, here, before⟩
    refine ⟨List.getElem?_eq_some_iff.mpr ⟨hi, here⟩, fun n hn => ?_⟩
    obtain ⟨hlt, hn⟩ := List.getElem?_eq_some_iff.mp hn
    by_contra hin
    exact before n (by omega) hn
  · rintro ⟨here, before⟩
    obtain ⟨hi, here⟩ := List.getElem?_eq_some_iff.mp here
    refine ⟨hi, here, fun n hn hit => ?_⟩
    have := before n (List.getElem?_eq_some_iff.mpr ⟨by omega, hit⟩)
    omega

theorem lastInside_eq_some_iff :
    lastInside ins = some j ↔ ins[j]? = some true ∧ ∀ n, ins[n]? = some true → n ≤ j := by
  have flip : ∀ n, n < ins.length → ins.reverse[n]? = ins[ins.length - 1 - n]? := fun n hn => List.getElem?_reverse hn
  have lt : ∀ n, ins[n]? = some true → n < ins.length := fun n hn => (List.getElem?_eq_some_iff.mp hn).1
  simp only [lastInside, Option.map_eq_some_iff, findIdx?_id_eq_some_iff]
  constructor
  · rintro ⟨n, ⟨here, before⟩, rfl⟩
    have hn : n < ins.length := by simpa using (List.getElem?_eq_some_iff.mp here).1
    refine ⟨flip n hn ▸ here, fun q hq => ?_⟩
    have hlt := lt q hq
    have := before (ins.length - 1 - q)
      (by rw [flip _ (by omega), show ins.length - 1 - (ins.length - 1 - q) = q by omega, hq])
    omega
  · rintro ⟨here, after⟩
    have hlt := lt j here
    refine ⟨ins.length - 1 - j, ⟨?_, fun q hq => ?_⟩, by omega⟩
    · rw [flip _ (by omega), show ins.length - 1 - (ins.length - 1 - j) = j by omega, here]
    · have hq' : q < ins.length := by simpa using (List.getElem?_eq_some_iff.mp hq).1
      have := after _ (flip q hq' ▸ hq)
      omega

theorem nearEdge_iff : nearEdge ins w k = true ↔
    ∃ i j, ins[i]? = some true ∧ ins[j]? = some true ∧ (∀ n, ins[n]? = some true → i ≤ n ∧ n ≤ j) ∧
      ((i ≤ k ∧ k < i + w) ∨ (j < k + w ∧ k ≤ j)) := by
  constructor
  · unfold nearEdge
    split
    next i j hi hj =>
      intro near
      obtain ⟨hi, first⟩ := findIdx?_id_eq_some_iff.mp hi
      obtain ⟨hj, last⟩ := lastInside_eq_some_iff.mp hj
      exact ⟨i, j, hi, hj, fun n hn => ⟨first n hn, last n hn⟩, by simpa using near⟩
    next => simp
  · rintro ⟨i, j, hi, hj, all, near⟩
    rw [nearEdge, findIdx?_id_eq_some_iff.mpr ⟨hi, fun n hn => (all n hn).1⟩,
      lastInside_eq_some_iff.mpr ⟨hj, fun n hn => (all n hn).2⟩]
    simpa using near

theorem ruledOut_iff (range : Option (Nat × Nat)) :
    ruledOut range k = true ↔ ∃ first last, range = some (first, last) ∧ first ≤ k ∧ k ≤ last := by
  cases range with
  | none => simp [ruledOut]
  | some bounds => simp [ruledOut, Prod.ext_iff, and_assoc]

end

section
variable (r : MapRecord) (e : Edges)

/-- Slice k lies wholly inside the edges (R58, test 1 negated). -/
def IsInside (k : Nat) : Prop :=
  ∃ a b, r.boundaries[k]? = some a ∧ r.boundaries[k + 1]? = some b ∧ e.front ≤ a ∧ b - 1 ≤ e.back

theorem inside_iff (k : Nat) : (r.slices.map (insideEdges e))[k]? = some true ↔ IsInside r e k := by
  simp only [MapRecord.slices, List.getElem?_map, Option.map_eq_some_iff, List.getElem?_zip_eq_some,
    List.getElem?_tail, insideEdges, Prod.exists, Bool.and_eq_true, decide_eq_true_eq, IsInside]
  refine exists_congr fun a => exists_congr fun b => ?_
  rw [and_assoc]
  exact and_congr_right fun _ => and_congr_right fun _ => and_congr_right fun _ => by omega

theorem length_slices : r.slices.length = r.boundaries.length - 1 := by
  simp only [MapRecord.slices, List.length_zip, List.length_tail]
  omega

theorem length_exclusion (w : Nat) : (exclusion r e w).length = r.boundaries.length - 1 := by
  simp [exclusion, length_slices]

theorem isInside_between {i j k : Nat} (rising : r.boundaries.Pairwise (· < ·)) (hi : IsInside r e i) (hj : IsInside r e j)
    (hik : i ≤ k) (hkj : k ≤ j) : IsInside r e k := by
  obtain ⟨ai, _, hai, -, front, -⟩ := hi
  obtain ⟨_, bj, -, hbj, -, back⟩ := hj
  have hlt : j + 1 < r.boundaries.length := (List.getElem?_eq_some_iff.mp hbj).1
  have hk : r.boundaries[k]? = some r.boundaries[k] := List.getElem?_eq_getElem (by omega)
  have hk1 : r.boundaries[k + 1]? = some r.boundaries[k + 1] := List.getElem?_eq_getElem (by omega)
  have := rising_le rising hik hai hk
  have := rising_le rising (show k + 1 ≤ j + 1 by omega) hk1 hbj
  exact ⟨_, _, hk, hk1, by omega, by omega⟩

/-- The mark of a slice: the three tests of R58. -/
theorem exclusion_iff {w k : Nat} (hk : k + 1 < r.boundaries.length) : (exclusion r e w)[k]? = some true ↔
    ¬ IsInside r e k ∨ nearEdge (r.slices.map (insideEdges e)) w k = true ∨ ruledOut r.fixedRange k = true := by
  have hlen : k < (r.slices.map (insideEdges e)).length := by
    rw [List.length_map, length_slices]
    omega
  rw [← inside_iff, List.getElem?_eq_getElem hlen]
  simp only [exclusion, List.getElem?_map, List.getElem?_zipIdx, List.getElem?_eq_getElem hlen, Option.map_some,
    Option.some.injEq, Nat.zero_add, Bool.or_eq_true, Bool.not_eq_true', Bool.not_eq_true, or_assoc]

end

/-- Settles O34: each of the three tests, slice by slice. -/
theorem exclusionByTheThreeTests : Obligations.ExclusionByTheThreeTests := by
  unfold Obligations.ExclusionByTheThreeTests
  intro r e w rising
  refine ⟨length_exclusion r e w, fun i j k => isInside_between r e ((strictlyRising_iff _).mp rising), fun k hk => ?_⟩
  rw [exclusion_iff r e hk, nearEdge_iff, ruledOut_iff]
  simp only [inside_iff]
  rfl

end Sys2Proof.Machine

/-! ## The reversal of a scanning traverse (O46) -/

namespace Sys2Proof.Machine

variable {s u : State} {o : OpenTraverse}

/-! ### The end of the open traverse (R60, R63, R64, R101) -/

/-- The open traverse at its reversal: abandoned for a break, else closed. -/
def endTraverse (s : State) : State := if breakAtReversal s then abandonTraverse .brk s else closeTraverse s

theorem breakAtReversal_iff (h : s.binning.openTraverse = some o) : breakAtReversal s = true ↔
    o.breakMark = true ∨ (s.tables.sheet.mode = .report ∧ s.watch.state ≠ .sheetOn) := by
  simp [breakAtReversal, h]

/-- What the end of the open traverse leaves to what the carriage does next. -/
structure TraverseEnded (s u : State) : Prop where
  closed : u.binning.openTraverse = none
  lastGood : u.binning.lastGood = s.binning.lastGood
  frame : u.frame = s.frame
  tables : u.tables = s.tables
  contexts : u.contexts = s.contexts
  standardize : u.standardize = s.standardize
  port : u.port = s.port

theorem endTraverse_ended (h : s.binning.openTraverse = some o) : TraverseEnded s (endTraverse s) := by
  unfold endTraverse
  split
  · rw [abandonTraverse_some .brk s o h, placeNotice_eq]
    exact ⟨rfl, rfl, rfl, rfl, rfl, rfl, rfl⟩
  · by_cases idle : s.closeOut.engine = .idle
    · rw [closeTraverse_idle s o h idle, raiseIf_eq]
      exact ⟨rfl, rfl, rfl, rfl, rfl, rfl, rfl⟩
    · rw [closeTraverse_busy s o h idle, placeNotice_eq]
      exact ⟨rfl, rfl, rfl, rfl, rfl, rfl, rfl⟩

/-- Two states that agree in the close-out engine, the raisings that wait and the report buffer. -/
structure ReportsAlike (s u : State) : Prop where
  closeOut : u.closeOut = s.closeOut
  raised : u.conditions.raised = s.conditions.raised
  reports : u.mill.reports = s.mill.reports

theorem mem_reports_placeNotice (n : Notice) (s : State) : .notice n ∈ (placeNotice n s).mill.reports := by
  rw [placeNotice_eq]
  exact List.mem_append_right _ (List.mem_singleton_self _)

theorem endTraverse_broken (h : s.binning.openTraverse = some o) (broken : breakAtReversal s = true) :
    (endTraverse s).closeOut = s.closeOut ∧ (endTraverse s).conditions.raised = s.conditions.raised ∧
      .notice (noticeOf o .brk s) ∈ (endTraverse s).mill.reports := by
  rw [endTraverse, if_pos broken, abandonTraverse_some .brk s o h]
  exact ⟨by rw [placeNotice_eq]; rfl, by rw [placeNotice_eq]; rfl, mem_reports_placeNotice _ _⟩

theorem endTraverse_idle (h : s.binning.openTraverse = some o) (whole : ¬ breakAtReversal s = true)
    (idle : s.closeOut.engine = .idle) :
    (endTraverse s).mill.reports = s.mill.reports ∧
      (endTraverse s).conditions.raised = s.conditions.raised ++
        (if (closingParams o s).edges.lost then [⟨alarmNow .edgeLost s, []⟩] else []) ∧
      (endTraverse s).closeOut = ⟨.means o.bank (closingParams o s), s.closeOut.scanNumber⟩ := by
  rw [endTraverse, if_neg whole, closeTraverse_idle s o h idle]
  cases (closingParams o s).edges.lost with
  | false => exact ⟨rfl, (List.append_nil _).symm, rfl⟩
  | true => exact ⟨rfl, rfl, rfl⟩

theorem endTraverse_busy (h : s.binning.openTraverse = some o) (whole : ¬ breakAtReversal s = true)
    (busy : s.closeOut.engine ≠ .idle) :
    (endTraverse s).closeOut = s.closeOut ∧
      (endTraverse s).conditions.raised = s.conditions.raised ++ [⟨alarmNow .overrun s, []⟩] ∧
      .notice (noticeOf o .overrun s) ∈ (endTraverse s).mill.reports := by
  rw [endTraverse, if_neg whole, closeTraverse_busy s o h busy]
  exact ⟨by rw [placeNotice_eq]; rfl, by rw [placeNotice_eq]; rfl, mem_reports_placeNotice _ _⟩

/-! ### What the carriage does next (R99, R101) -/

theorem reverse_parks (d : Direction)
    (h : (endTraverse s).frame.scanOn = false ∨ (endTraverse s).standardize.request = true) :
    reverse d s = goPark (endTraverse s) := by
  refine if_pos ?_
  simpa [endTraverse] using h

theorem reverse_turns (d : Direction) (on : (endTraverse s).frame.scanOn = true)
    (waits : (endTraverse s).standardize.request = false) :
    reverse d s = openTraverse (otherDirection d) (endTraverse s) := by
  refine if_neg ?_
  unfold endTraverse at on waits
  simp [on, waits]

theorem oldest_of_governing {c : Context} (h : governing s = some c) :
    s.contexts.queue.head? = some c ∨ (s.contexts.queue = [] ∧ s.contexts.inEffect = some c) := by
  simpa [governing] using h

theorem openTraverse_reports (d : Direction) (away : s.frame.carriage ≠ .parked) :
    ReportsAlike s (openTraverse d s) := by
  cases hg : governing s with
  | none =>
    simp only [openTraverse, hg]
    exact ⟨rfl, rfl, rfl⟩
  | some c =>
    cases hm : s.tables.map c.map with
    | none =>
      simp only [openTraverse, hg, hm]
      exact ⟨rfl, rfl, rfl⟩
    | some r =>
      rw [openTraverse_eq d s c r hg hm, takeContext_eq r away (oldest_of_governing hg)]
      exact ⟨rfl, rfl, rfl⟩

theorem reverse_reports (d : Direction) (away : (endTraverse s).frame.carriage ≠ .parked) :
    ReportsAlike (endTraverse s) (reverse d s) := by
  by_cases parks : (endTraverse s).frame.scanOn = false ∨ (endTraverse s).standardize.request = true
  · rw [reverse_parks d parks]
    exact ⟨rfl, rfl, rfl⟩
  · rw [not_or, Bool.not_eq_false, Bool.not_eq_true] at parks
    rw [reverse_turns d parks.1 parks.2]
    exact openTraverse_reports _ away

/-- Settles O46: the test of R101, what ends the open traverse, and what the carriage does next. -/
theorem reversalEndsTheTraverse : Obligations.ReversalEndsTheTraverse := by
  unfold Obligations.ReversalEndsTheTraverse
  intro x s dir l o hc hl ho p far rests beyond broken edges alarm t
  have noted : notePosition p s = s.noted p := notePosition_active p s (by simp [hc]) (by simp [hc])
  have test : isReversal dir p (s.noted p) = true ↔ beyond ∨ rests := noted ▸ isReversal_iff dir p p s l hl
  have taken : t = if isReversal dir p (s.noted p) then reverse dir (s.noted p) else s.noted p :=
    noted ▸ frameTakes_scanning x s dir hc
  have ho' : (s.noted p).binning.openTraverse = some o := ho
  have broken_iff : breakAtReversal (s.noted p) = true ↔ broken := breakAtReversal_iff ho'
  have ended := endTraverse_ended ho'
  refine ⟨fun short moving => ?_, fun reached => ?_⟩
  · rw [taken, if_neg (by simp [test, short, moving])]
    rfl
  · rw [if_pos (test.mpr reached)] at taken
    have away : (endTraverse (s.noted p)).frame.carriage ≠ .parked := by
      rw [ended.frame]
      simp [State.noted, hc]
    have alike : ReportsAlike _ t := taken ▸ reverse_reports dir away
    rw [alike.closeOut, alike.raised, alike.reports]
    refine ⟨fun parks => ?_, fun c r on waits hg hr => ?_, fun hb => ?_, fun hw idle => ?_, fun hw busy => ?_⟩
    · rw [taken, reverse_parks dir (by rw [ended.frame, ended.standardize]; exact parks), goPark_eq]
      refine ⟨rfl, ?_, ended.closed⟩
      simp only [State.moving, ended.port, ended.tables]
      rfl
    · have hg' : governing (endTraverse (s.noted p)) = some c := by
        rw [governing, ended.contexts]
        exact hg
      have hm : (endTraverse (s.noted p)).tables.map c.map = some r := by
        rw [ended.tables]
        exact hr
      have next : limitsNow c (endTraverse (s.noted p)) =
          limitsOf s.tables.frame.minimumWidth c s.binning.lastGood := by
        rw [limitsNow, ended.tables, ended.lastGood]
        rfl
      rw [taken, reverse_turns dir (by rw [ended.frame]; exact on) (by rw [ended.standardize]; exact waits),
        openTraverse_eq _ _ c r hg' hm, takeContext_eq r away (oldest_of_governing hg'), ← next]
      refine ⟨otherDirection dir, by cases dir <;> simp [otherDirection], rfl, rfl, ?_, _, rfl, rfl, rfl, ?_⟩
      · show (endTraverse (s.noted p)).port.handDrive _ = _
        rw [ended.port]
        rfl
      · exact List.length_replicate
    · obtain ⟨hclose, hraised, notice⟩ := endTraverse_broken ho' (broken_iff.mpr hb)
      exact ⟨hclose, hraised, _, notice, rfl⟩
    · obtain ⟨hreports, hraised, hclose⟩ := endTraverse_idle ho' (mt broken_iff.mp hw) idle
      refine ⟨hreports, hraised.trans ?_, hclose⟩
      simp only [alarmNow, State.noted, hc]
      rfl
    · obtain ⟨hclose, hraised, notice⟩ := endTraverse_busy ho' (mt broken_iff.mp hw) busy
      refine ⟨hclose, hraised.trans ?_, _, notice, rfl⟩
      simp only [alarmNow, State.noted, hc]
      rfl

end Sys2Proof.Machine

/-! ## MAP writes (O54) -/

namespace Sys2Proof.Machine

variable {s : State} {f : CommandFrame} {rest : List CommandFrame}

/-! ### What a MAP write carries -/

theorem mapValid_iff (r : MapRecord) : r.valid = true ↔
    (1 ≤ r.id ∧ r.id ≤ 65535) ∧ (8 ≤ r.sliceCount ∧ r.sliceCount ≤ 480) ∧ r.boundaries.length = r.sliceCount + 1 ∧
    (∀ b ∈ r.boundaries, b ≤ 32767) ∧ strictlyRising r.boundaries = true ∧
    ∀ p, r.fixedRange = some p → p.1 ≤ p.2 ∧ p.2 < r.sliceCount := by
  simp only [MapRecord.valid, Bool.and_eq_true, decide_eq_true_eq, List.all_eq_true, Option.all_eq_true, between_iff,
    and_assoc]
  rfl

/-- A map record as a MAP write carries it. -/
def MapRecord.args (l : MapLetter) (r : MapRecord) : MapArgs :=
  ⟨l.code, r.id, r.sliceCount, bit r.fixedRange.isSome, r.fixedRange, r.boundaries⟩

theorem mapArgs_mapBytes (l : MapLetter) {r : MapRecord} (h : r.valid = true) :
    mapArgs (byte l.code :: mapBytes r) = some (r.args l) := by
  obtain ⟨id, count, len, positions, -, range⟩ := (mapValid_iff r).mp h
  have boundaries : counted (u16 (byte (r.boundaries.length / 256)) (byte r.boundaries.length))
      (pairsOf (r.boundaries.flatMap be16)) = some r.boundaries := by
    rw [pairsOf_be16 _ fun b hb => (positions b hb).trans (by decide), u16_be16 _ (by omega), counted_of_length rfl]
  have letter : (byte l.code).toNat = l.code := by cases l <;> rfl
  cases hr : r.fixedRange with
  | none =>
    have bytes : mapBytes r = be16 r.id ++ be16 r.sliceCount ++ be16 r.boundaries.length ++ [byte 0] ++
        r.boundaries.flatMap be16 := by rw [mapBytes, hr]
    rw [bytes]
    show (counted _ (pairsOf (r.boundaries.flatMap be16))).map _ = _
    rw [boundaries, Option.map_some, letter, u16_be16 _ (by omega), u16_be16 _ (by omega), MapRecord.args, hr]
    rfl
  | some p =>
    obtain ⟨first, last⟩ := p
    obtain ⟨ordered, within⟩ := range _ hr
    dsimp only at ordered within
    have bytes : mapBytes r = be16 r.id ++ be16 r.sliceCount ++ be16 r.boundaries.length ++
        (byte 1 :: be16 first ++ be16 last) ++ r.boundaries.flatMap be16 := by rw [mapBytes, hr]
    rw [bytes]
    show (counted _ (pairsOf (r.boundaries.flatMap be16))).map _ = _
    rw [boundaries, Option.map_some, letter, u16_be16 _ (by omega), u16_be16 _ (by omega), u16_be16 _ (by omega),
      u16_be16 _ (by omega), MapRecord.args, hr]
    rfl

theorem validMap_args (stored : Option MapRecord) (l : MapLetter) {r : MapRecord} (h : r.valid = true) :
    validMap stored (r.args l) = if keepsGeometry stored r then some r else none := by
  obtain ⟨id, count, len, positions, rising, range⟩ := (mapValid_iff r).mp h
  have taken : validRange (bit r.fixedRange.isSome) r.sliceCount r.fixedRange = some r.fixedRange := by
    cases hr : r.fixedRange with
    | none => rfl
    | some p => exact if_pos (range p hr)
  have id0 : (r.id != 0) = true := bne_iff_ne.mpr (by omega)
  have within : r.boundaries.all (fun b => decide (b ≤ Config.maxPosition)) = true :=
    List.all_eq_true.mpr fun b hb => decide_eq_true (positions b hb)
  unfold validMap MapRecord.args
  dsimp only
  rw [taken]
  dsimp only
  simp only [id0, (between_iff 8 480 _).mpr count, beq_iff_eq.mpr len, within, rising, Bool.true_and]

theorem keepsGeometry_iff (stored : Option MapRecord) (r : MapRecord) : keepsGeometry stored r = true ↔
    ∀ o, stored = some o → o.id = r.id → o.sliceCount = r.sliceCount ∧ o.boundaries = r.boundaries := by
  cases stored with
  | none => simp [keepsGeometry]
  | some o =>
    simp only [keepsGeometry, Bool.or_eq_true, bne_iff_ne, Bool.and_eq_true, beq_iff_eq, Option.some.injEq,
      forall_eq', ne_eq]
    exact imp_iff_not_or.symm

/-- A MAP write by the places of its fields, counted from its letter on. -/
structure MapFields (bytes : List Byte) (a : MapArgs) : Prop where
  letter : a.letter = byteAt bytes 0
  id : a.id = wordAt bytes 1
  sliceCount : a.sliceCount = wordAt bytes 3
  count : a.boundaries.length = wordAt bytes 5
  present : a.present = byteAt bytes 7
  ranged : byteAt bytes 7 = 1 → a.fixedRange = some (wordAt bytes 8, wordAt bytes 10) ∧
    ∀ (i : Nat) (h : i < a.boundaries.length), a.boundaries[i] = wordAt bytes (2 * i + 12)
  rangeless : byteAt bytes 7 ≠ 1 →
    ∀ (i : Nat) (h : i < a.boundaries.length), a.boundaries[i] = wordAt bytes (2 * i + 8)

theorem mapArgs_fields {bytes : List Byte} {a : MapArgs} (h : mapArgs bytes = some a) : MapFields bytes a := by
  unfold mapArgs at h
  split at h
  case h_2 => exact nomatch h
  case h_1 l i1 i0 n1 n0 b1 b0 p more =>
    have word := u16_eq_wordAt (l :: i1 :: i0 :: n1 :: n0 :: b1 :: b0 :: p :: more)
    split at h
    case isTrue one =>
      subst one
      split at h
      case h_2 => exact nomatch h
      case h_1 f1 f0 t1 t0 bs =>
        simp only [Option.map_eq_some_iff, counted_eq_some] at h
        obtain ⟨bounds, ⟨pairs, len⟩, rfl⟩ := h
        refine ⟨rfl, word 1, word 3, len.trans (word 5), rfl, fun _ => ⟨?_, fun i hi => pairsOf_getElem pairs i hi⟩,
          fun two => absurd rfl two⟩
        exact congrArg some (Prod.ext (word 8) (word 10))
    case isFalse other =>
      simp only [Option.map_eq_some_iff, counted_eq_some] at h
      obtain ⟨bounds, ⟨pairs, len⟩, rfl⟩ := h
      have unset : ¬ byteAt (l :: i1 :: i0 :: n1 :: n0 :: b1 :: b0 :: p :: more) 7 = 1 := fun one =>
        other (BitVec.eq_of_toNat_eq one)
      exact ⟨rfl, word 1, word 3, len.trans (word 5), rfl, fun one => absurd one unset,
        fun _ i hi => pairsOf_getElem pairs i hi⟩

/-! ### What a MAP write must carry to be taken (R43) -/

theorem validRange_ranges {present n : Nat} {range taken : Option (Nat × Nat)}
    (h : validRange present n range = some taken) :
    present ≤ 1 ∧ (present = 1 → ∀ p, range = some p → p.1 ≤ p.2 ∧ p.2 < n) := by
  unfold validRange at h
  split at h
  · exact ⟨by omega, by omega⟩
  · split at h
    · rename_i within
      refine ⟨le_refl 1, fun _ p hp => ?_⟩
      obtain rfl := Option.some.inj hp
      exact within
    · exact nomatch h
  · exact nomatch h

theorem validMap_ranges {stored : Option MapRecord} {a : MapArgs} {r : MapRecord} (h : validMap stored a = some r) :
    a.id ≠ 0 ∧ (8 ≤ a.sliceCount ∧ a.sliceCount ≤ 480) ∧ a.boundaries.length = a.sliceCount + 1 ∧ a.present ≤ 1 ∧
    (a.present = 1 → ∀ p, a.fixedRange = some p → p.1 ≤ p.2 ∧ p.2 < a.sliceCount) ∧
    (∀ (i : Nat) (hi : i < a.boundaries.length), a.boundaries[i] ≤ 32767) ∧
    ∀ (i : Nat) (hi : i + 1 < a.boundaries.length), a.boundaries[i] < a.boundaries[i + 1] := by
  unfold validMap at h
  split at h
  · exact nomatch h
  · rename_i taken range
    dsimp only at h
    split at h
    · rename_i passes
      simp only [Bool.and_eq_true, bne_iff_ne, beq_iff_eq, List.all_eq_true, decide_eq_true_eq, between_iff,
        strictlyRising_iff] at passes
      obtain ⟨⟨⟨⟨⟨id, slices⟩, count⟩, positions⟩, rising⟩, -⟩ := passes
      obtain ⟨present, within⟩ := validRange_ranges range
      exact ⟨id, slices, count, present, within, fun i hi => positions _ (List.getElem_mem hi),
        fun i hi => List.pairwise_iff_getElem.mp rising i (i + 1) (by omega) hi (by omega)⟩
    · exact nomatch h

/-! ### Answers of the MAP region -/

/-- The map in effect while the carriage works on it: no write replaces it (R45). -/
def MapIsHeld (s : State) (l : MapLetter) : Prop :=
  (∃ c, s.contexts.inEffect = some c ∧ c.map = l) ∧
    ((∃ sub d, s.frame.carriage = .traverse sub d) ∨ (∃ sub, s.frame.carriage = .fixed sub) ∨
      ∃ sub, s.frame.carriage = .probing sub)

theorem mapIsHeld_iff (s : State) (l : MapLetter) : MapIsHeld s l ↔ mapInEffect s = some l ∧ mapHeld s = true := by
  refine and_congr ?_ ?_
  · simp [mapInEffect]
  · unfold mapHeld
    cases s.frame.carriage <;> simp

section
variable {a : MapArgs} {l : MapLetter}

theorem writeMap_held (hl : mapLetterOf a.letter = some l) (h : MapIsHeld s l) :
    writeMap a s = refuse .refusedState s := by
  rw [writeMap, hl]
  exact if_pos ((mapIsHeld_iff s l).mp h)

theorem writeMap_free (hl : mapLetterOf a.letter = some l) (h : ¬ MapIsHeld s l) :
    writeMap a s = match validMap (s.tables.map l) a with
      | none => refuse .badArgument s
      | some r => accept { s with tables := s.tables.setMap l r } := by
  rw [writeMap, hl]
  exact if_neg (mt (mapIsHeld_iff s l).mpr h)

theorem writeMap_bad (hl : mapLetterOf a.letter = some l) (h : ¬ MapIsHeld s l)
    (ha : ∀ r, validMap (s.tables.map l) a ≠ some r) : writeMap a s = refuse .badArgument s := by
  rw [writeMap_free hl h, Option.eq_none_iff_forall_ne_some.mpr ha]

theorem writeMap_taken {r : MapRecord} (hl : mapLetterOf a.letter = some l) (h : ¬ MapIsHeld s l)
    (ha : validMap (s.tables.map l) a = some r) : writeMap a s = accept { s with tables := s.tables.setMap l r } := by
  rw [writeMap_free hl h, ha]

end

theorem mapLetterOf_code (l : MapLetter) : mapLetterOf l.code = some l := by cases l <;> rfl

theorem mapLetterOf_of_le {n : Nat} (h : 2 ≤ n) : mapLetterOf n = none := by
  match n with
  | n + 2 => rfl

theorem rowOf_write_three (hcode : f.code = 0x03#8) (h0 : argByte f 0 = 3) : rowOf f = .writeMap := by
  cases hargs : f.args with
  | nil => simp [argByte, hargs] at h0
  | cons region more =>
    have h0' : region.toNat = 3 := by rw [← h0, argByte, hargs]; rfl
    simp [rowOf_write hcode, hargs, writeRow, h0']

section
variable (hand : AtHand f rest s) (quiet : s.conditions.summary = false)
include hand quiet

/-- A MAP write past form and gate. -/
theorem writeMap_served {a : MapArgs} (hrow : rowOf f = .writeMap) (ha : mapArgs f.args.tail = some a) :
    exec .writeTableMap s = .next (respond f (writeMap a (s.taken f rest))) :=
  congrArg Host.Outcome.next (serve_owner (parse := afterRegion mapArgs) hand hrow ha (.inr quiet))

variable (hcode : f.code = 0x03#8)
include hcode

/-- A valid MAP record: refused while the carriage works on the map, else by the identity rule (R44, R45). -/
theorem writeTableMap_record (l : MapLetter) {r : MapRecord} (valid : r.valid = true)
    (hargs : f.args = 3#8 :: byte l.code :: mapBytes r) :
    (MapIsHeld s l → exec .writeTableMap s = .next (s.answered f rest .refusedState [])) ∧
    (¬ MapIsHeld s l → keepsGeometry (s.tables.map l) r = true → exec .writeTableMap s =
      .next (State.answered { s with tables := s.tables.setMap l r } f rest .ok [])) ∧
    (¬ MapIsHeld s l → keepsGeometry (s.tables.map l) r = false →
      exec .writeTableMap s = .next (s.answered f rest .badArgument [])) := by
  have letter : mapLetterOf (r.args l).letter = some l := mapLetterOf_code l
  have checked := validMap_args (s.tables.map l) l valid
  rw [writeMap_served hand quiet (a := r.args l) (by rw [rowOf_write hcode, hargs]; rfl)
    (by rw [hargs]; exact mapArgs_mapBytes l valid)]
  refine ⟨fun held => ?_, fun free keeps => ?_, fun free breaks => ?_⟩
  · rw [writeMap_held (s := s.taken f rest) letter held, respond_refuse]
  · rw [keeps] at checked
    rw [writeMap_taken (s := s.taken f rest) letter free checked]
    rfl
  · have refused : ∀ q, validMap (s.tables.map l) (r.args l) ≠ some q := by simp [checked, breaks]
    rw [writeMap_bad (s := s.taken f rest) letter free refused, respond_refuse]

/-- A MAP write with a letter or a value that R43 does not admit. -/
theorem writeTableMap_bad (h0 : argByte f 0 = 3) (formed : CommandRow.writeMap.wellFormedArgs f.args = true) :
    (2 ≤ argByte f 1 → exec .writeTableMap s = .next (s.answered f rest .badArgument [])) ∧
    (∀ l : MapLetter, argByte f 1 = l.code → MapIsHeld s l →
      exec .writeTableMap s = .next (s.answered f rest .refusedState [])) ∧
    (∀ l : MapLetter, argByte f 1 = l.code → ¬ MapIsHeld s l →
      let word := argWord f
      let first := if argByte f 8 = 1 then 13 else 9
      (word 2 = 0 ∨ word 4 < 8 ∨ 480 < word 4 ∨ word 6 ≠ word 4 + 1 ∨ 1 < argByte f 8 ∨
        (argByte f 8 = 1 ∧ (word 11 < word 9 ∨ word 4 ≤ word 11)) ∨
        (∃ i, i < word 6 ∧ 32767 < word (first + 2 * i)) ∨
        (∃ i, i + 1 < word 6 ∧ word (first + 2 * i + 2) ≤ word (first + 2 * i))) →
      exec .writeTableMap s = .next (s.answered f rest .badArgument [])) := by
  obtain ⟨a, parsed⟩ := Option.isSome_iff_exists.mp formed
  obtain ⟨letter, id, slices, count, present, ranged, rangeless⟩ := mapArgs_fields parsed
  rw [writeMap_served hand quiet (rowOf_write_three hcode h0) parsed]
  simp only [argByte_succ, ← letter]
  refine ⟨fun out => ?_, fun l hl held => ?_, fun l hl free bad => ?_⟩
  · rw [writeMap, mapLetterOf_of_le out, respond_refuse]
  · rw [writeMap_held (s := s.taken f rest) (hl ▸ mapLetterOf_code l) held, respond_refuse]
  · rw [writeMap_bad (s := s.taken f rest) (hl ▸ mapLetterOf_code l) free fun r taken => ?_, respond_refuse]
    obtain ⟨nonzero, few, length, flag, within, positions, rising⟩ := validMap_ranges taken
    have boundary : ∀ (i : Nat) (hi : i < a.boundaries.length),
        a.boundaries[i] = argWord f ((if byteAt f.args.tail 7 = 1 then 13 else 9) + 2 * i) := fun i hi => by
      split
      case isTrue one => rw [(ranged one).2 i hi, Nat.add_comm 13, argWord_succ]
      case isFalse other => rw [rangeless other i hi, Nat.add_comm 9, argWord_succ]
    have range : byteAt f.args.tail 7 = 1 →
        wordAt f.args.tail 8 ≤ wordAt f.args.tail 10 ∧ wordAt f.args.tail 10 < a.sliceCount :=
      fun one => within (present.trans one) _ (ranged one).1
    obtain bad | bad | bad | bad | bad | ⟨one, bad⟩ | ⟨i, hi, high⟩ | ⟨i, hi, falls⟩ := bad
    · exact nonzero (id.trans ((argWord_succ f 1).symm.trans bad))
    · rw [argWord_succ, ← slices] at bad
      omega
    · rw [argWord_succ, ← slices] at bad
      omega
    · rw [argWord_succ, argWord_succ, ← slices, ← count] at bad
      omega
    · omega
    · have range := range one
      rw [argWord_succ, argWord_succ, argWord_succ, ← slices] at bad
      omega
    · rw [argWord_succ, ← count] at hi
      have top := positions i hi
      rw [boundary i hi] at top
      omega
    · rw [argWord_succ, ← count] at hi
      have less := rising i hi
      rw [boundary i (by omega), boundary (i + 1) hi, Nat.mul_succ, ← Nat.add_assoc] at less
      omega

end

end Sys2Proof.Machine

/-! ## MONITOR writes (O54) -/

namespace Sys2Proof.Machine

variable {s : State} {f : CommandFrame} {rest : List CommandFrame}

/-! ### Monitor records in their bytes -/

/-- A list of bytes is as long as a monitor record: longer by the slice range with source code 3, SLICE. -/
def IsMonitorRecord (r : List Byte) : Prop := r.length = if r[2]? = some 3#8 then 17 else 13

/-- A 4-byte field that begins at a place, in two's complement. -/
def longAt (l : List Byte) (k : Nat) : Int := signed 32 (65536 * wordAt l k + wordAt l (k + 2))

/-- A monitor record by the places of its fields, its limits from a place on. -/
def monitorFieldsFrom (r : List Byte) (range : Option (Nat × Nat)) (limits : Nat) : MonitorArgs :=
  ⟨byteAt r 0, byteAt r 1, byteAt r 2, range, longAt r limits, longAt r (limits + 4), byteAt r (limits + 8),
    byteAt r (limits + 9)⟩

/-- A monitor record by the places of its fields: the slice range stands there with source code 3 only (table 11-9). -/
def monitorFields (r : List Byte) : MonitorArgs :=
  if byteAt r 2 = 3 then monitorFieldsFrom r (some (wordAt r 3, wordAt r 5)) 7 else monitorFieldsFrom r none 3

theorem u16_eq_add (a b : Byte) : u16 a b = 256 * a.toNat + b.toNat := by
  unfold u16
  omega

theorem u32_eq_words (a b c d : Byte) : u32 a b c d = 65536 * (256 * a.toNat + b.toNat) + (256 * c.toNat + d.toNat) := by
  unfold u32
  omega

theorem monitorRecordArgs_append {r : List Byte} (hr : IsMonitorRecord r) (more : List Byte) :
    monitorRecordArgs (r ++ more) = some (monitorFields r, more) := by
  unfold IsMonitorRecord at hr
  split at hr
  case isTrue slice =>
    match r, hr, slice with
    | [e, c, x, f1, f0, t1, t0, l3, l2, l1, l0, h3, h2, h1, h0, p, k], _, slice =>
      obtain rfl : x = 3#8 := Option.some.inj slice
      simp only [monitorRecordArgs, List.cons_append, List.nil_append, if_true, monitorTail, u32_eq_words, u16_eq_add]
      rfl
  case isFalse other =>
    match r, hr, other with
    | [e, c, x, l3, l2, l1, l0, h3, h2, h1, h0, p, k], _, other =>
      have source : x ≠ 3#8 := fun h => other (congrArg some h)
      have code : ¬ byteAt [e, c, x, l3, l2, l1, l0, h3, h2, h1, h0, p, k] 2 = 3 := fun h =>
        source (BitVec.eq_of_toNat_eq h)
      simp only [monitorRecordArgs, List.cons_append, List.nil_append, if_neg source, monitorTail, u32_eq_words]
      rw [monitorFields, if_neg code]
      rfl

theorem monitorRecords_flatten : ∀ {records : List (List Byte)}, (∀ r ∈ records, IsMonitorRecord r) →
    monitorRecords records.length records.flatten = some (records.map monitorFields)
  | [], _ => rfl
  | r :: records, h => by
    have ⟨first, others⟩ := List.forall_mem_cons.mp h
    rw [List.length_cons, monitorRecords, List.flatten_cons, monitorRecordArgs_append first]
    dsimp only
    rw [monitorRecords_flatten others]
    rfl

theorem monitorArgs_flatten {k : Nat} {records : List (List Byte)} (hk : k ≤ 255) (h1 : 1 ≤ records.length)
    (h255 : records.length ≤ 255) (hrecords : ∀ r ∈ records, IsMonitorRecord r) :
    monitorArgs (byte k :: byte records.length :: records.flatten) = some (k, records.map monitorFields) := by
  have count : (byte records.length).toNat = records.length := toNat_byte_of_le h255
  have some_record : byte records.length ≠ 0#8 := fun e => by
    rw [e] at count
    have : (0#8 : Byte).toNat = 0 := rfl
    omega
  rw [monitorArgs, if_neg some_record, count, monitorRecords_flatten hrecords, Option.map_some, toNat_byte_of_le hk]

/-! ### Monitor records that R151 admits -/

/-- A monitor record that R151 admits. -/
def MonitorRecord.Admitted (r : MonitorRecord) : Prop :=
  1 ≤ r.persistence ∧ r.persistence ≤ 15 ∧ r.low ≤ r.high ∧
    (match r.source with
     | .scanAvg => 0 ≤ r.low ∧ r.high ≤ r.channel.max
     | .spread | .range => 0 ≤ r.low ∧ r.high ≤ 65535
     | .slice first last => -65535 ≤ r.low ∧ r.high ≤ 65535 ∧ first ≤ last ∧ last ≤ 479)

/-- The slice range of a source, for SLICE. -/
def MonitorSource.slices : MonitorSource → Option (Nat × Nat)
  | .slice first last => some (first, last)
  | _ => none

/-- A monitor record as a MONITOR write carries it. -/
def MonitorRecord.args (r : MonitorRecord) : MonitorArgs :=
  ⟨bit r.enabled, r.channel.code, r.source.code, r.source.slices, r.low, r.high, r.persistence, r.kind.code⟩

theorem channel_max_le (c : ProfileChannel) : c.max ≤ 65535 := by cases c <;> decide

theorem MonitorRecord.Admitted.limits {r : MonitorRecord} (h : r.Admitted) :
    (limitRange r.channel r.source).1 ≤ r.low ∧ r.high ≤ (limitRange r.channel r.source).2 := by
  obtain ⟨-, -, -, range⟩ := h
  cases hs : r.source with
  | scanAvg | spread | range =>
    rw [hs] at range
    exact range
  | slice first last =>
    rw [hs] at range
    exact ⟨range.1, range.2.1⟩

theorem MonitorRecord.Admitted.slices {r : MonitorRecord} (h : r.Admitted) {first last : Nat}
    (hs : r.source = .slice first last) : first ≤ last ∧ last ≤ 479 := by
  obtain ⟨-, -, -, range⟩ := h
  rw [hs] at range
  exact ⟨range.2.2.1, range.2.2.2⟩

theorem limitRange_le (c : ProfileChannel) (x : MonitorSource) :
    -65535 ≤ (limitRange c x).1 ∧ (limitRange c x).2 ≤ 65535 := by
  have := channel_max_le c
  cases x <;> simp only [limitRange] <;> omega

theorem validSource_args {r : MonitorRecord} (h : r.Admitted) :
    validSource r.source.code r.source.slices = some r.source := by
  cases hs : r.source with
  | scanAvg | spread | range => rfl
  | slice first last => exact if_pos (h.slices hs)

theorem validMonitor_args {r : MonitorRecord} (h : r.Admitted) : validMonitor r.args = some r := by
  obtain ⟨low, high⟩ := h.limits
  have source := validSource_args h
  obtain ⟨positive, short, ordered, -⟩ := h
  have enabled : boolOf (bit r.enabled) = some r.enabled := by cases r.enabled <;> rfl
  have channel : profileChannelOf r.channel.code = some r.channel := by cases r.channel <;> rfl
  have kind : monitorKindOf r.kind.code = some r.kind := by cases r.kind <;> rfl
  unfold validMonitor MonitorRecord.args
  dsimp only
  rw [enabled, channel, source, kind]
  exact if_pos ⟨low, ordered, high, (between_iff _ _ _).mpr ⟨positive, short⟩⟩

/-- A limit comes back from its four bytes. -/
theorem signed_be32 {i : Int} (low : -65535 ≤ i) (high : i ≤ 65535) :
    signed 32 (65536 * (256 * (byte (twos 32 i / 16777216)).toNat + (byte (twos 32 i / 65536)).toNat) +
      (256 * (byte (twos 32 i / 256)).toNat + (byte (twos 32 i)).toNat)) = i := by
  have field := twos_lt 32 i
  rw [← u32_eq_words, u32_be32 _ (by omega), signed_twos32 _ (by omega) (by omega)]

theorem add_be16 {n : Nat} (h : n ≤ 65535) : 256 * (byte (n / 256)).toNat + (byte n).toNat = n := by
  rw [← u16_eq_add, u16_be16 _ h]

section
variable (a b p k : Byte) {low high : Int} (hlow : -65535 ≤ low ∧ low ≤ 65535) (hhigh : -65535 ≤ high ∧ high ≤ 65535)
include hlow hhigh

theorem monitorFields_plain {c : Byte} (hc : c.toNat ≠ 3) :
    monitorFields ([a, b] ++ [c] ++ be32 (twos 32 low) ++ be32 (twos 32 high) ++ [p, k]) =
      ⟨a.toNat, b.toNat, c.toNat, none, low, high, p.toNat, k.toNat⟩ := by
  unfold monitorFields
  refine (if_neg hc).trans ?_
  rw [monitorFieldsFrom, MonitorArgs.mk.injEq]
  exact ⟨rfl, rfl, rfl, rfl, signed_be32 hlow.1 hlow.2, signed_be32 hhigh.1 hhigh.2, rfl, rfl⟩

theorem monitorFields_slice {first last : Nat} (hfirst : first ≤ 65535) (hlast : last ≤ 65535) :
    monitorFields ([a, b] ++ (byte 3 :: be16 first ++ be16 last) ++ be32 (twos 32 low) ++ be32 (twos 32 high) ++ [p, k]) =
      ⟨a.toNat, b.toNat, 3, some (first, last), low, high, p.toNat, k.toNat⟩ := by
  show monitorFieldsFrom _ _ 7 = _
  rw [monitorFieldsFrom, MonitorArgs.mk.injEq]
  exact ⟨rfl, rfl, rfl, congrArg some (Prod.ext (add_be16 hfirst) (add_be16 hlast)), signed_be32 hlow.1 hlow.2,
    signed_be32 hhigh.1 hhigh.2, rfl, rfl⟩

end

theorem isMonitorRecord_bytes (r : MonitorRecord) : IsMonitorRecord (monitorRecordBytes r) := by
  unfold monitorRecordBytes
  cases r.source <;> rfl

theorem monitorFields_bytes {r : MonitorRecord} (h : r.Admitted) : monitorFields (monitorRecordBytes r) = r.args := by
  obtain ⟨low, high⟩ := h.limits
  obtain ⟨bottom, top⟩ := limitRange_le r.channel r.source
  have slices := fun first last => h.slices (first := first) (last := last)
  obtain ⟨positive, short, ordered, -⟩ := h
  have enabled : (bitByte r.enabled).toNat = bit r.enabled := by cases r.enabled <;> rfl
  have channel : (byte r.channel.code).toNat = r.channel.code := by cases r.channel <;> rfl
  have kind : (byte r.kind.code).toNat = r.kind.code := by cases r.kind <;> rfl
  have persistence : (byte r.persistence).toNat = r.persistence := toNat_byte_of_le (by omega)
  unfold monitorRecordBytes MonitorRecord.args
  cases hs : r.source with
  | scanAvg | spread | range =>
    refine (monitorFields_plain _ _ _ _ ⟨by omega, by omega⟩ ⟨by omega, by omega⟩ ?_).trans ?_
    · decide
    · rw [enabled, channel, kind, persistence]
      rfl
  | slice first last =>
    obtain ⟨ordered, within⟩ := slices first last hs
    rw [sourceBytes, monitorFields_slice _ _ _ _ ⟨by omega, by omega⟩ ⟨by omega, by omega⟩ (by omega) (by omega), enabled,
      channel, kind, persistence]
    rfl

theorem mapM_map_eq_some {α β : Type} {g : α → β} {h : β → Option α} :
    ∀ {l : List α}, (∀ a ∈ l, h (g a) = some a) → (l.map g).mapM h = some l
  | [], _ => rfl
  | a :: l, back => by
    have ⟨first, others⟩ := List.forall_mem_cons.mp back
    rw [List.map_cons, List.mapM_cons, first, mapM_map_eq_some others]
    rfl

/-! ### What a MONITOR write must carry to be taken (R151) -/

theorem monitorKindOf_le {n : Nat} {k : MonitorKind} (h : monitorKindOf n = some k) : n ≤ 1 := by
  match n with
  | 0 | 1 => omega
  | n + 2 => exact nomatch (show none = some k from h)

theorem validSource_ranges {n : Nat} {range : Option (Nat × Nat)} {x : MonitorSource} (h : validSource n range = some x) :
    n ≤ 3 ∧ (n = 3 → ∀ p, range = some p → p.1 ≤ p.2 ∧ p.2 ≤ 479) := by
  unfold validSource at h
  split at h
  case h_4 =>
    split at h
    · rename_i within
      exact ⟨le_refl 3, fun _ p hp => Option.some.inj hp ▸ within⟩
    · exact nomatch h
  case h_5 => exact nomatch h
  all_goals exact ⟨by omega, by omega⟩

/-- What the codes of channel and source say of the limits (8.1). -/
theorem limitRange_codes {n m : Nat} {range : Option (Nat × Nat)} {c : ProfileChannel} {x : MonitorSource}
    (hc : profileChannelOf n = some c) (hx : validSource m range = some x) : limitRange c x =
      (if m = 3 then -65535 else 0, if m = 0 ∧ n = 1 then 10000 else 65535) := by
  have channel : (c.max : Int) = if n = 1 then 10000 else 65535 := by
    match n with
    | 0 | 1 | 2 | 4 => obtain rfl := Option.some.inj hc; rfl
    | 3 => exact nomatch hc
    | n + 5 => exact nomatch (show none = some c from hc)
  unfold validSource at hx
  split at hx
  case h_1 =>
    obtain rfl := Option.some.inj hx
    simp [limitRange, channel]
  case h_2 | h_3 =>
    obtain rfl := Option.some.inj hx
    rfl
  case h_4 =>
    split at hx
    · obtain rfl := Option.some.inj hx
      rfl
    · exact nomatch hx
  case h_5 => exact nomatch hx

theorem validMonitor_ranges {a : MonitorArgs} {r : MonitorRecord} (h : validMonitor a = some r) :
    a.enabled ≤ 1 ∧ a.channel ∈ [0, 1, 2, 4] ∧ a.source ≤ 3 ∧
    (a.source = 3 → ∀ p, a.range = some p → p.1 ≤ p.2 ∧ p.2 ≤ 479) ∧
    (if a.source = 3 then -65535 else 0) ≤ a.low ∧ a.low ≤ a.high ∧
    a.high ≤ (if a.source = 0 ∧ a.channel = 1 then 10000 else 65535) ∧
    (1 ≤ a.persistence ∧ a.persistence ≤ 15) ∧ a.kind ≤ 1 := by
  unfold validMonitor at h
  split at h
  case h_2 => exact nomatch h
  case h_1 e c x k enabled channel source kind =>
    dsimp only at h
    split at h
    · rename_i limits
      rw [limitRange_codes channel source] at limits
      obtain ⟨low, ordered, high, persistence⟩ := limits
      obtain ⟨code, range⟩ := validSource_ranges source
      exact ⟨boolOf_le enabled, profileChannelOf_mem channel, code, range, low, ordered, high,
        (between_iff _ _ _).mp persistence, monitorKindOf_le kind⟩
    · exact nomatch h

theorem validMonitor_fields {r : List Byte} {m : MonitorRecord} (h : validMonitor (monitorFields r) = some m) :
    let limits := if byteAt r 2 = 3 then 7 else 3
    byteAt r 0 ≤ 1 ∧ byteAt r 1 ∈ [0, 1, 2, 4] ∧ byteAt r 2 ≤ 3 ∧
    (byteAt r 2 = 3 → wordAt r 3 ≤ wordAt r 5 ∧ wordAt r 5 ≤ 479) ∧
    (if byteAt r 2 = 3 then -65535 else 0) ≤ longAt r limits ∧ longAt r limits ≤ longAt r (limits + 4) ∧
    longAt r (limits + 4) ≤ (if byteAt r 2 = 0 ∧ byteAt r 1 = 1 then 10000 else 65535) ∧
    (1 ≤ byteAt r (limits + 8) ∧ byteAt r (limits + 8) ≤ 15) ∧ byteAt r (limits + 9) ≤ 1 := by
  unfold monitorFields at h
  split at h
  case isTrue slice =>
    obtain ⟨enabled, channel, source, range, limits⟩ := validMonitor_ranges h
    rw [if_pos slice]
    exact ⟨enabled, channel, source, fun _ => range slice _ rfl, limits⟩
  case isFalse other =>
    obtain ⟨enabled, channel, source, -, limits⟩ := validMonitor_ranges h
    rw [if_neg other]
    exact ⟨enabled, channel, source, fun slice => absurd slice other, limits⟩

/-! ### Answers of the MONITOR region -/

theorem writeMonitor_busy (a : Nat × List MonitorArgs) (h : s.closeOut.engine ≠ .idle) :
    writeMonitor a s = refuse .busy s := by
  refine if_pos ?_
  simp [engineIdle, h]

theorem writeMonitor_bad {a : Nat × List MonitorArgs} (h : s.closeOut.engine = .idle)
    (ha : 8 < a.1 + a.2.length ∨ ∃ x ∈ a.2, ∀ r, validMonitor x ≠ some r) :
    writeMonitor a s = refuse .badArgument s := by
  rw [writeMonitor, if_neg (by simp [engineIdle, h])]
  split
  · rfl
  · rename_i fits
    obtain out | ⟨x, hx, fails⟩ := ha
    · exact absurd out fits
    · have bad : a.2.mapM validMonitor = none := Option.eq_none_iff_forall_ne_some.mpr fun rs hrs => by
        obtain ⟨r, hr⟩ := mapM_some_passes hrs x hx
        exact fails r hr
      rw [bad]

theorem writeMonitor_taken {k : Nat} {l : List MonitorArgs} {rs : List MonitorRecord} (h : s.closeOut.engine = .idle)
    (fits : k + l.length ≤ 8) (hl : l.mapM validMonitor = some rs) :
    writeMonitor (k, l) s = accept { s with monitors := writeAt s.monitors k (rs.map Monitor.fresh) } := by
  rw [writeMonitor, if_neg (by simp [engineIdle, h]), if_neg (Nat.not_lt.mpr fits), hl]

section
variable (hand : AtHand f rest s) (quiet : s.conditions.summary = false)
include hand quiet

/-- A MONITOR write past form and gate. -/
theorem writeMonitor_served {a : Nat × List MonitorArgs} (hrow : rowOf f = .writeMonitor)
    (ha : monitorArgs f.args.tail = some a) :
    exec .writeTableMonitor s = .next (respond f (writeMonitor a (s.taken f rest))) :=
  congrArg Host.Outcome.next (serve_owner (parse := afterRegion monitorArgs) hand hrow ha (.inr quiet))

variable (hcode : f.code = 0x03#8)
include hcode

theorem writeTableMonitor_served {k : Nat} {records : List (List Byte)} (hk : k ≤ 255) (h1 : 1 ≤ records.length)
    (h255 : records.length ≤ 255) (hrecords : ∀ r ∈ records, IsMonitorRecord r)
    (hargs : f.args = 4#8 :: byte k :: byte records.length :: records.flatten) :
    exec .writeTableMonitor s =
      .next (respond f (writeMonitor (k, records.map monitorFields) (s.taken f rest))) :=
  writeMonitor_served hand quiet (by rw [rowOf_write hcode, hargs]; rfl)
    (by rw [hargs]; exact monitorArgs_flatten hk h1 h255 hrecords)

/-- A MONITOR write with an index or a record that R151 does not admit. -/
theorem writeTableMonitor_bad {k : Nat} {records : List (List Byte)} (hk : k ≤ 255) (h1 : 1 ≤ records.length)
    (h255 : records.length ≤ 255) (hrecords : ∀ r ∈ records, IsMonitorRecord r)
    (hargs : f.args = 4#8 :: byte k :: byte records.length :: records.flatten) (idle : s.closeOut.engine = .idle)
    (bad : 8 < k + records.length ∨ ∃ r ∈ records, ∀ m, validMonitor (monitorFields r) ≠ some m) :
    exec .writeTableMonitor s = .next (s.answered f rest .badArgument []) := by
  rw [writeTableMonitor_served hand quiet hcode hk h1 h255 hrecords hargs,
    writeMonitor_bad (s := s.taken f rest) idle ?_, respond_refuse]
  rw [List.length_map]
  exact bad.imp_right fun ⟨r, hr, fails⟩ => ⟨monitorFields r, List.mem_map_of_mem hr, fails⟩

/-- A MONITOR write of records that R151 admits: BUSY during a close-out, else taken (R82, R152). -/
theorem writeTableMonitor_records {k : Nat} {rs : List MonitorRecord} (h1 : 1 ≤ rs.length) (h8 : k + rs.length ≤ 8)
    (admitted : ∀ r ∈ rs, r.Admitted)
    (hargs : f.args = 4#8 :: byte k :: byte rs.length :: rs.flatMap monitorRecordBytes) :
    (s.closeOut.engine ≠ .idle → exec .writeTableMonitor s = .next (s.answered f rest .busy [])) ∧
    (s.closeOut.engine = .idle → exec .writeTableMonitor s = .next (State.answered { s with
      monitors := writeAt s.monitors k (rs.map Monitor.fresh) } f rest .ok [])) := by
  have served := writeTableMonitor_served hand quiet hcode (k := k) (records := rs.map monitorRecordBytes) (by omega)
    (by rwa [List.length_map]) (by rw [List.length_map]; omega)
    (List.forall_mem_map.mpr fun r _ => isMonitorRecord_bytes r)
    (by rw [hargs, List.length_map, List.flatMap_def])
  have fields : (rs.map monitorRecordBytes).map monitorFields = rs.map MonitorRecord.args := by
    rw [List.map_map]
    exact List.map_congr_left fun r hr => monitorFields_bytes (admitted r hr)
  rw [served, fields]
  refine ⟨fun busy => ?_, fun idle => ?_⟩
  · rw [writeMonitor_busy (s := s.taken f rest) _ busy, respond_refuse]
  · rw [writeMonitor_taken (s := s.taken f rest) idle (by rwa [List.length_map])
      (mapM_map_eq_some fun r hr => validMonitor_args (admitted r hr))]
    rfl

end

/-- Settles O54: MAP records and MAP bytes, then MONITOR bytes and MONITOR records. -/
theorem mapAndMonitorWrites : Obligations.MapAndMonitorWrites := by
  unfold Obligations.MapAndMonitorWrites
  intro f rest s hand quiet hcode held
  refine ⟨fun l r valid hargs => ?_, writeTableMap_bad hand quiet hcode,
    fun k records hk h1 h255 hrecords hargs idle bad => ?_, fun k rs h1 h8 admitted hargs => ?_⟩
  · obtain ⟨refused, taken, bad⟩ := writeTableMap_record hand quiet hcode l valid hargs
    refine ⟨refused, fun free keeps => ?_, fun o free stored id differs => bad free ?_⟩
    · rw [taken free ((keepsGeometry_iff _ r).mpr (by cases l <;> exact keeps))]
      cases l <;> rfl
    · rw [← Bool.not_eq_true, keepsGeometry_iff]
      intro keeps
      obtain ⟨slices, boundaries⟩ := keeps o (by cases l <;> exact stored) id
      exact differs.elim (absurd slices) (absurd boundaries)
  · refine writeTableMonitor_bad hand quiet hcode hk h1 h255 hrecords hargs idle
      (bad.imp_right fun ⟨r, hr, out⟩ => ⟨r, hr, fun m taken => ?_⟩)
    obtain ⟨enabled, channel, source, range, low, ordered, high, persistence, kind⟩ := validMonitor_fields taken
    obtain out | out | out | ⟨slice, out⟩ | out | out | out | out | out | out := out
    · exact absurd enabled (Nat.not_le.mpr out)
    · exact out channel
    · exact absurd source (Nat.not_le.mpr out)
    · exact out.elim (Nat.not_lt.mpr (range slice).1) (Nat.not_lt.mpr (range slice).2)
    · exact absurd low (Int.not_le.mpr out)
    · exact absurd ordered (Int.not_le.mpr out)
    · exact absurd high (Int.not_le.mpr out)
    · exact Nat.one_le_iff_ne_zero.mp persistence.1 out
    · exact absurd persistence.2 (Nat.not_le.mpr out)
    · exact absurd kind (Nat.not_le.mpr out)
  · have records := writeTableMonitor_records hand quiet hcode h1 h8 admitted hargs
    rwa [writeAt, List.length_map] at records

end Sys2Proof.Machine

/-! ## MEANS (O35) -/

namespace Sys2Proof.Machine

/-! ### One channel (R67 to R69) -/

@[simp] theorem mean?_deviate (average : Nat) (o : SliceOutcome) : (o.deviate average).mean? = o.mean? := by
  cases o <;> rfl

theorem isShort_iff (eligible quorum valid : Nat) :
    isShort eligible quorum valid = true ↔ valid = 0 ∨ valid < (eligible * quorum + 99) / 100 := by
  simp [isShort]

section
variable (eligible quorum : Nat) (marks : List SliceOutcome)

theorem channelMeans_short :
    (channelMeans eligible quorum marks).short =
      isShort eligible quorum (channelMeans eligible quorum marks).valid := rfl

theorem channelMeans_average : (channelMeans eligible quorum marks).average =
    if (channelMeans eligible quorum marks).valid = 0 then none
    else some (roundHalfUp (marks.filterMap SliceOutcome.mean?).sum (channelMeans eligible quorum marks).valid) := rfl

/-- A SHORT channel keeps its marks; another one has a scan average, from which its valid slices deviate (R69). -/
theorem channelMeans_slices :
    ((channelMeans eligible quorum marks).short = true ∧ (channelMeans eligible quorum marks).slices = marks) ∨
    ((channelMeans eligible quorum marks).short = false ∧ ∃ g, (channelMeans eligible quorum marks).average = some g ∧
      (channelMeans eligible quorum marks).slices = marks.map (SliceOutcome.deviate g)) := by
  cases hs : (channelMeans eligible quorum marks).short with
  | true => exact .inl ⟨rfl, if_pos hs⟩
  | false =>
    have some_valid : (channelMeans eligible quorum marks).valid ≠ 0 := fun none => by
      rw [channelMeans_short, (isShort_iff _ _ _).mpr (.inl none)] at hs
      exact nomatch hs
    have average := (channelMeans_average eligible quorum marks).trans (if_neg some_valid)
    refine .inr ⟨rfl, _, average, (if_neg (Bool.eq_false_iff.mp hs)).trans ?_⟩
    exact congrArg (fun a : Option Nat => marks.map (SliceOutcome.deviate (a.getD 0))) average

/-- Deviations leave the means. -/
theorem channelMeans_means :
    (channelMeans eligible quorum marks).slices.filterMap SliceOutcome.mean? = marks.filterMap SliceOutcome.mean? := by
  obtain ⟨-, same⟩ | ⟨-, g, -, deviated⟩ := channelMeans_slices eligible quorum marks
  · rw [same]
  · rw [deviated, List.filterMap_map]
    exact congrArg (List.filterMap · marks) (funext (mean?_deviate g))

end

/-! ### Every channel -/

/-- The marks of one channel, slice by slice (R67). -/
def channelMarks (bank : Bank) (p : ClosingParams) (c : ProfileChannel) : List SliceOutcome :=
  List.zipWith (fun x a => sliceMark p.nmin x (PerProfile.get a c)) (exclusion p.map.record p.edges p.edgeWidth) bank

theorem computeMeans_channel (bank : Bank) (p : ClosingParams) (c : ProfileChannel) :
    (computeMeans bank p).channels.get c = if p.profiled.get c then
      some (channelMeans (computeMeans bank p).eligible p.quorum (channelMarks bank p c)) else none := by
  rw [computeMeans, PerProfile.get_make]
  rfl

theorem exec_meansComplete {s : State} {bank : Bank} {p : ClosingParams} (h : s.closeOut.engine = .means bank p) :
    exec .meansComplete s = .next (setEngine (.filter bank p (computeMeans bank p)) s) := by
  show execMeansComplete s = _
  simp [execMeansComplete, h]

/-- The outcome of one slice of a profiled channel: its mark, a valid one with its deviation unless the channel is SHORT
(R67, R69). -/
theorem channelMeans_slice (eligible : Nat) {bank : Bank} {p : ClosingParams} {c : ProfileChannel} {k : Nat} {x : Bool}
    {a : PerProfile Accumulator} (hx : (exclusion p.map.record p.edges p.edgeWidth)[k]? = some x)
    (ha : bank[k]? = some a) :
    let cm := channelMeans eligible p.quorum (channelMarks bank p c)
    cm.slices[k]? = some (
      if x then .excluded
      else if p.nmin ≤ (a.get c).count then
        .valid (roundHalfUp (a.get c).sum (a.get c).count)
          (if cm.short then none
            else cm.average.map fun g => (roundHalfUp (a.get c).sum (a.get c).count : Int) - g)
      else .empty) := by
  have mark : (channelMarks bank p c)[k]? = some (sliceMark p.nmin x (a.get c)) := by
    simp [channelMarks, List.getElem?_zipWith, hx, ha]
  dsimp only
  obtain ⟨short, same⟩ | ⟨sound, g, average, deviated⟩ := channelMeans_slices eligible p.quorum (channelMarks bank p c)
  · rw [same, mark, short, if_pos rfl]
    rfl
  · rw [deviated, List.getElem?_map, mark, sound, average, Option.map_some, sliceMark]
    split
    · rfl
    · split <;> rfl

/-- Settles O35: the engine's step, then each channel by its marks. -/
theorem meansMarksSlicesAndFindsAverages : Obligations.MeansMarksSlicesAndFindsAverages := by
  unfold Obligations.MeansMarksSlicesAndFindsAverages
  intro s bank p hs
  refine ⟨computeMeans bank p, exec_meansComplete hs, rfl, rfl, fun c => ⟨fun out => ?_, fun profiled => ?_⟩⟩
  · rw [computeMeans_channel, if_neg (by simp [out])]
  · refine ⟨_, (computeMeans_channel bank p c).trans (if_pos profiled), ?_, isShort_iff _ _ _, ?_,
      fun k x a hx ha => channelMeans_slice _ hx ha⟩
    · rw [channelMeans_means]
      rfl
    · rw [channelMeans_means]
      exact channelMeans_average _ _ _

end Sys2Proof.Machine

/-! ## FILTER (O36, O37) -/

namespace Sys2Proof.Machine

/-! ### The step of a filtered value (R72) -/

/-- A step of x × w / 256, halves upward, stays between 0 and x, and is x for w = 256. -/
theorem filterStep_between {w : Nat} (hw : w ≤ 256) (x : Int) :
    min 0 x ≤ (x * (w : Int) + 128) / 256 ∧ (x * (w : Int) + 128) / 256 ≤ max 0 x := by
  have hw0 : (0 : Int) ≤ w := Int.natCast_nonneg w
  have hw' : (w : Int) ≤ 256 := by exact_mod_cast hw
  obtain up | down := le_total 0 x
  · have nonneg := mul_nonneg up hw0
    have most := mul_le_mul_of_nonneg_left hw' up
    omega
  · have nonpos := mul_nonpos_of_nonpos_of_nonneg down hw0
    have least := mul_le_mul_of_nonpos_left hw' down
    omega

theorem filterValue_unset (w : Nat) (d : Int) {r : SliceRecord} (h : r.state = .unset) :
    filterValue w d r = 16 * d := by
  simp [filterValue, h]

theorem filterValue_set (w : Nat) (d : Int) {r : SliceRecord} (h : r.state ≠ .unset) :
    filterValue w d r = r.f + ((16 * d - r.f) * (w : Int) + 128) / 256 := by
  cases hs : r.state with
  | unset => exact absurd hs h
  | valid | stale => simp [filterValue, hs]

/-- The filtered value never passes 16d. -/
theorem filterValue_between {w : Nat} (hw : w ≤ 256) (d : Int) (r : SliceRecord) :
    min r.f (16 * d) ≤ filterValue w d r ∧ filterValue w d r ≤ max r.f (16 * d) := by
  by_cases h : r.state = .unset
  · rw [filterValue_unset w d h]
    omega
  · rw [filterValue_set w d h]
    have step := filterStep_between hw (16 * d - r.f)
    omega

/-! ### One record by its outcome (R72 to R74) -/

section
variable (w stale : Nat) (r : SliceRecord)

theorem holdRecord_unset (h : r.state = .unset) :
    holdRecord stale r = { r with status := .held, lastMean := none } := by
  simp [holdRecord, h]

theorem holdRecord_set (h : r.state ≠ .unset) : holdRecord stale r = { r with
    age := min 15 (r.age + 1), status := .held, lastMean := none
    state := if stale < min 15 (r.age + 1) then .stale else r.state } := by
  rw [← saturate_eq_min]
  cases hs : r.state with
  | unset => exact absurd hs h
  | valid | stale => simp [holdRecord, hs]

end

/-- Settles O36: a valid slice by the state of its record, then the other outcomes. -/
theorem filterWritesEverySliceByItsOutcome : Obligations.FilterWritesEverySliceByItsOutcome := by
  unfold Obligations.FilterWritesEverySliceByItsOutcome
  refine ⟨fun w stale mean d r hw => ?_, fun w stale r => ⟨holdRecord_unset stale r, holdRecord_set stale r,
    fun _ => rfl, fun _ _ => rfl, rfl⟩⟩
  have between := filterValue_between hw d r
  refine ⟨rfl, rfl, rfl, rfl, filterValue_unset w d,
    fun set => ⟨filterValue_set w d set, between.1, between.2, fun whole => ?_⟩, fun low high low' high' => ?_⟩
  · refine (filterValue_set w d set).trans ?_
    subst whole
    omega
  · show -1048560 ≤ filterValue w d r ∧ filterValue w d r ≤ 1048560
    omega

/-! ### Every record of the profile (R71, R75) -/

/-- The profile store after FILTER: on the traverse map, its records filtered, its note that of the adoption. -/
theorem filterProfile_eq (p : ClosingParams) (m : MeansResults) (x : ProfileStore) :
    filterProfile p m x = { x with
      map := (filterProfile p m x).map, records := (filterProfile p m x).records
      note := (filterProfile p m x).note } := by
  unfold filterProfile
  obtain ⟨-, e⟩ | e := adopt_cases p.map.identity x
  · rw [e]
  · rw [e]
    rfl

theorem filterProfile_map (p : ClosingParams) (m : MeansResults) (x : ProfileStore) :
    (filterProfile p m x).map = some p.map.identity := adopt_map _ x

theorem filterProfile_note (p : ClosingParams) (m : MeansResults) (x : ProfileStore) :
    (filterProfile p m x).note = (adopt p.map.identity x).note := rfl

theorem filterProfile_records (p : ClosingParams) (m : MeansResults) (x : ProfileStore) (c : ProfileChannel) :
    (filterProfile p m x).records.get c =
      filterChannel p (m.channels.get c) ((adopt p.map.identity x).records.get c) := PerProfile.get_make _ c

theorem filterChannel_getElem? (p : ClosingParams) (cm : ChannelMeans) {rs : List SliceRecord} {k : Nat}
    {o : SliceOutcome} {r : SliceRecord} (ho : cm.slices[k]? = some o) (hr : rs[k]? = some r) :
    (filterChannel p (some cm) rs)[k]? = some (filterSlice p.weight p.staleLimit cm.short o r) := by
  simp [filterChannel, List.getElem?_zipWith, ho, hr]

/-- The records on which FILTER works: those of the profile, or cleared ones for the map adopted (R71). -/
theorem adopt_records {id : MapIdentity} {x : ProfileStore} {c : ProfileChannel} {base : List SliceRecord}
    (kept : x.map = some id → base = x.records.get c)
    (cleared : ¬ x.map = some id → base = List.replicate id.sliceCount ⟨0, .unset, 0, .unwritten, none⟩) :
    (adopt id x).records.get c = base := by
  by_cases h : x.map = some id
  · rw [adopt_of_eq h, kept h]
  · rw [adopt_of_ne h, cleared h]
    exact PerProfile.get_const _ c

/-! ### The phase -/

theorem anyShort_iff (m : MeansResults) :
    anyShort m = true ↔ ∃ c cm, m.channels.get c = some cm ∧ cm.short = true := by
  simp only [anyShort, List.any_eq_true, ProfileChannel.mem_all, true_and]
  refine exists_congr fun c => ?_
  cases h : m.channels.get c <;> simp

section
variable {s : State} {bank : Bank} {p : ClosingParams} {m : MeansResults}

theorem exec_filterComplete (h : s.closeOut.engine = .filter bank p m) :
    exec .filterComplete s = .next (settle (completeFilter bank p m s)) := by
  show execFilterComplete s = _
  simp [execFilterComplete, h]

/-- The state after FILTER, before the condition unit takes what it raised. -/
def State.filtered (s : State) (bank : Bank) (p : ClosingParams) (m : MeansResults) : State :=
  setEngine (.stats bank p m) { s with profile := filterProfile p m s.profile }

/-- SHORT_SCAN is the one raising of FILTER (R74). -/
theorem settle_completeFilter (quiet : s.conditions.raised = []) : settle (completeFilter bank p m s) =
    { s.filtered bank p m with
      conditions := if anyShort m then s.conditions.take (alarmNow .shortScan s) else s.conditions
      choices := if anyShort m then s.choices + 1 else s.choices } := by
  cases h : anyShort m with
  | true =>
    rw [completeFilter, h]
    exact settle_raise (s := s.filtered bank p m) .shortScan quiet
  | false =>
    rw [completeFilter, h]
    exact settle_nil (s.filtered bank p m) quiet

end

/-- Settles O37: the store after FILTER, record by record, then the raising. -/
theorem filterWritesTheProfileAtOnce : Obligations.FilterWritesTheProfileAtOnce := by
  unfold Obligations.FilterWritesTheProfileAtOnce
  intro s bank p m hs quiet keeps
  refine ⟨_, (exec_filterComplete hs).trans (congrArg Host.Outcome.next (settle_completeFilter quiet)), ?_,
    filterProfile_map p m s.profile, fun kept => ?_, fun moved => ?_, fun c base kept cleared => ?_,
    fun short => if_pos ((anyShort_iff m).mpr short), fun sound => if_neg ?_⟩
  · exact congrArg (fun x : ProfileStore => { s.filtered bank p m with
      profile := x
      conditions := if anyShort m then s.conditions.take (alarmNow .shortScan s) else s.conditions
      choices := if anyShort m then s.choices + 1 else s.choices }) (filterProfile_eq p m s.profile)
  · exact (filterProfile_note p m s.profile).trans (congrArg ProfileStore.note (adopt_of_eq kept))
  · exact (filterProfile_note p m s.profile).trans (congrArg ProfileStore.note (adopt_of_ne moved))
  · have records := filterProfile_records p m s.profile c
    rw [adopt_records kept cleared] at records
    refine ⟨fun out => ?_, fun cm found k o r ho hr => ?_⟩
    · rw [out] at records
      exact records
    · rw [found] at records
      exact (congrArg (·[k]?) records).trans (filterChannel_getElem? p cm ho hr)
  · rw [anyShort_iff]
    rintro ⟨c, cm, found, short⟩
    rw [sound c cm found] at short
    exact nomatch short

end Sys2Proof.Machine

/-! ## STATS (O38) -/

namespace Sys2Proof.Machine

/-! ### The square root by successive approximation (R77) -/

/-- A trial whose square does not pass q, and that the bits still to come can bring past the root, ends at the root. -/
theorem sqrtBits_spec (q : Nat) : ∀ (n trial : Nat), trial * trial ≤ q → q < (trial + 2 ^ n) * (trial + 2 ^ n) →
    sqrtBits q n trial * sqrtBits q n trial ≤ q ∧ q < (sqrtBits q n trial + 1) * (sqrtBits q n trial + 1)
  | 0, _, low, high => ⟨low, high⟩
  | n + 1, trial, low, high => by
    rw [sqrtBits]
    split
    · rename_i fits
      refine sqrtBits_spec q n _ fits ?_
      rwa [Nat.add_assoc, ← Nat.two_mul, ← Nat.pow_succ']
    · rename_i passes
      exact sqrtBits_spec q n _ low (Nat.not_le.mp passes)

theorem sigma16_spec {q : Nat} (h : q < 2 ^ 42) :
    sigma16 q * sigma16 q ≤ q ∧ q < (sigma16 q + 1) * (sigma16 q + 1) :=
  sqrtBits_spec q 21 0 (Nat.zero_le q) (by omega)

/-! ### The values that enter (R76) -/

/-- What a slice adds to the statistics by its mark and its record. -/
def enteringValue : Option Bool → Option SliceRecord → Option Int
  | some false, some r => if r.state = .valid then some r.f else none
  | _, _ => none

theorem statsValues_eq : ∀ (excluded : List Bool) (rs : List SliceRecord), statsValues excluded rs =
    (List.range rs.length).filterMap (fun k => enteringValue excluded[k]? rs[k]?)
  | [], rs => by simp [statsValues, enteringValue]
  | _ :: _, [] => rfl
  | x :: excluded, r :: rs => by
    have others := statsValues_eq excluded rs
    have first : enteringValue (some x) (some r) = if !x && r.state == .valid then some r.f else none := by
      cases x <;> simp [enteringValue]
    rw [statsValues] at others ⊢
    rw [List.zip_cons_cons, List.filterMap_cons, List.length_cons, List.range_succ_eq_map, List.filterMap_cons,
      List.filterMap_map, others]
    simp only [List.getElem?_cons_zero, first]
    rfl

/-! ### Spread and range (R76, R77) -/

/-- The largest and the smallest of a list bound it, and stand in it. -/
theorem statsOf_cons (f : Int) (rest : List Int) : ∃ hi lo : Int, hi ∈ f :: rest ∧ lo ∈ f :: rest ∧
    (∀ g ∈ f :: rest, lo ≤ g ∧ g ≤ hi) ∧ statsOf (f :: rest) =
      some ⟨roundHalfUp (2 * sigma16 (meanSquare (f :: rest))) 16, roundHalfUp (hi - lo).toNat 16⟩ := by
  obtain ⟨hi_mem, le_hi⟩ := List.max?_eq_some_iff.mp (List.max?_cons' (x := f) (xs := rest))
  obtain ⟨lo_mem, lo_le⟩ := List.min?_eq_some_iff.mp (List.min?_cons' (x := f) (xs := rest))
  exact ⟨_, _, hi_mem, lo_mem, fun g hg => ⟨lo_le g hg, le_hi g hg⟩, rfl⟩

/-! ### The phase -/

theorem computeStats_get (m : MeansResults) (records : PerProfile (List SliceRecord)) (c : ProfileChannel) :
    (computeStats m records).get c = (m.channels.get c).bind fun cm =>
      if cm.short then none else statsOf (statsValues m.excluded (records.get c)) := by
  rw [computeStats, PerProfile.get_make]
  cases m.channels.get c <;> rfl

theorem exec_statsComplete {s : State} {bank : Bank} {p : ClosingParams} {m : MeansResults}
    (h : s.closeOut.engine = .stats bank p m) :
    exec .statsComplete s = .next (setEngine (.monitors bank p m (computeStats m s.profile.records)) s) := by
  show execStatsComplete s = _
  simp [execStatsComplete, h]

/-- Settles O38: the root, the phase, the values that enter, spread and range. -/
theorem statsGiveSpreadAndRange : Obligations.StatsGiveSpreadAndRange := by
  unfold Obligations.StatsGiveSpreadAndRange
  refine ⟨fun q => sigma16_spec, fun s bank p m hs => ⟨_, exec_statsComplete hs, fun c => ?_⟩, statsValues_eq, rfl,
    fun fs some_value => ?_⟩
  · rw [computeStats_get]
    refine ⟨fun out => ?_, fun cm found short => ?_, fun cm found sound => ?_⟩
    · rw [out]
      rfl
    · rw [found]
      exact if_pos short
    · rw [found]
      exact if_neg (Bool.eq_false_iff.mp sound)
  · obtain ⟨f, rest, rfl⟩ := List.exists_cons_of_ne_nil some_value
    obtain ⟨hi, lo, hi_mem, lo_mem, bounds, stats⟩ := statsOf_cons f rest
    refine ⟨hi, lo, hi_mem, lo_mem, bounds, stats.trans ?_⟩
    rw [roundHalfUp, ← Nat.mul_assoc]
    rfl

end Sys2Proof.Machine

/-! ## MONITORS (O40) -/

namespace Sys2Proof.Machine

/-! ### One monitor (R154, R157 to R161) -/

@[simp] theorem after_lastOutcome (mon : Monitor) (scan : Nat) (o : MonitorOutcome) (n : Option Nat) :
    (mon.after scan o n).lastOutcome = some o := by
  cases o <;> rfl

section
variable {m : MeansResults} {st : StatsResults} {records : PerProfile (List SliceRecord)} {r : MonitorRecord}

/-- A monitor is handed over exactly when it is enabled on a channel profiled and not SHORT. -/
theorem handedOver_eq_some_iff {c : ChannelResults} : handedOver m st records r = some c ↔
    ∃ cm, (r.enabled = true ∧ m.channels.get r.channel = some cm ∧ cm.short = false) ∧
      c = ⟨cm.average, st.get r.channel, m.excluded, records.get r.channel⟩ := by
  unfold handedOver
  cases r.enabled with
  | false => simp
  | true =>
    cases m.channels.get r.channel with
    | none => simp
    | some cm => cases h : cm.short <;> simp [h, eq_comm (a := c)]

end

section
variable {results : MonitorRecord → Option ChannelResults} {mon : Monitor} {c : ChannelResults}

theorem evaluate_some (scan : Nat) (h : results mon.record = some c) : mon.evaluate scan results =
    mon.after scan (monitorOutcome mon.record c).1 (monitorOutcome mon.record c).2 := by
  simp [Monitor.evaluate, h]

theorem evaluate_none (scan : Nat) (h : results mon.record = none) : mon.evaluate scan results = mon := by
  simp [Monitor.evaluate, h]

theorem invalidNow_evaluate_iff (scan : Nat) : invalidNow results (mon.evaluate scan results) = true ↔
    ∃ c, results mon.record = some c ∧ mon.record.kind = .strict ∧ (monitorOutcome mon.record c).1 = .unordered := by
  rw [invalidNow, evaluate_record]
  cases h : results mon.record with
  | none => simp
  | some c => simp [evaluate_some scan h]

theorem tripsNow_iff (before after : Monitor) :
    tripsNow before after = true ↔ before.state = .armed ∧ after.state = .tripped := by
  simp [tripsNow]

end

/-! ### What the bank returns (R161) -/

section
variable (results : MonitorRecord → Option ChannelResults)

/-- What the bank returns of the monitor of a number. -/
def monitorResultAt (x : Monitor × Nat) : Option MonitorResult :=
  match results x.1.record, x.1.lastOutcome with
  | some _, some o => some ⟨x.2, x.1.record.channel, o, x.1.state⟩
  | _, _ => none

theorem monitorResults_eq (mons : List Monitor) :
    monitorResults results mons = mons.zipIdx.filterMap (monitorResultAt results) := rfl

theorem monitorResultAt_number {x : Monitor × Nat} {e : MonitorResult} (h : monitorResultAt results x = some e) :
    e.number = x.2 := by
  unfold monitorResultAt at h
  split at h
  · obtain rfl := Option.some.inj h
    rfl
  · exact nomatch h

/-- The results stand in monitor order. -/
theorem monitorResults_pairwise (mons : List Monitor) :
    (monitorResults results mons).Pairwise (fun a b => a.number < b.number) := by
  have rising : mons.zipIdx.Pairwise (fun a b => a.2 < b.2) := by
    rw [List.pairwise_iff_getElem]
    intro i j hi hj hij
    simpa using hij
  rw [monitorResults_eq]
  refine List.Pairwise.filterMap _ (fun x y before e he e' he' => ?_) rising
  rw [monitorResultAt_number results he, monitorResultAt_number results he']
  exact before

/-- A monitor evaluated has its outcome and state returned; one passed over has nothing returned. -/
theorem monitorResultAt_evaluate (scan : Nat) (mon : Monitor) (k : Nat) (e : MonitorResult) :
    monitorResultAt results (mon.evaluate scan results, k) = some e ↔ ∃ c, results mon.record = some c ∧
      e = ⟨k, mon.record.channel, (monitorOutcome mon.record c).1, (mon.evaluate scan results).state⟩ := by
  rw [monitorResultAt, evaluate_record]
  cases h : results mon.record with
  | none => simp
  | some c => simp [evaluate_some scan h, eq_comm]

theorem mem_monitorResults_evaluate (scan : Nat) (mons : List Monitor) (e : MonitorResult) :
    e ∈ monitorResults results (mons.map (Monitor.evaluate scan results)) ↔
      ∃ mon c, mons[e.number]? = some mon ∧ results mon.record = some c ∧
        e = ⟨e.number, mon.record.channel, (monitorOutcome mon.record c).1, (mon.evaluate scan results).state⟩ := by
  rw [monitorResults_eq, List.mem_filterMap]
  constructor
  · rintro ⟨⟨x, k⟩, member, found⟩
    have number := monitorResultAt_number results found
    obtain ⟨mon, at_k, rfl⟩ : ∃ mon, mons[k]? = some mon ∧ mon.evaluate scan results = x := by
      simpa [List.mk_mem_zipIdx_iff_getElem?] using member
    obtain ⟨c, handed, rfl⟩ := (monitorResultAt_evaluate results scan mon k e).mp found
    exact ⟨mon, c, at_k, handed, rfl⟩
  · rintro ⟨mon, c, at_k, handed, same⟩
    refine ⟨(mon.evaluate scan results, e.number), ?_,
      (monitorResultAt_evaluate results scan mon e.number e).mpr ⟨c, handed, same⟩⟩
    simp [List.mk_mem_zipIdx_iff_getElem?, at_k]

end

/-! ### The phase -/

section
variable {s : State} {bank : Bank} {p : ClosingParams} {m : MeansResults} {st : StatsResults}

theorem exec_monitorsComplete (h : s.closeOut.engine = .monitors bank p m st) :
    exec .monitorsComplete s = .next (settle (completeMonitors bank p m st s)) := by
  show execMonitorsComplete s = _
  simp [execMonitorsComplete, h]

/-- The monitors after MONITORS (R161). -/
def State.evaluatedMonitors (s : State) (m : MeansResults) (st : StatsResults) : List Monitor :=
  s.monitors.map (Monitor.evaluate (nextScan s) (handedOver m st s.profile.records))

theorem evaluatedMonitors_getElem? {k : Nat} {mon : Monitor} (h : s.monitors[k]? = some mon) :
    (s.evaluatedMonitors m st)[k]? = some (mon.evaluate (nextScan s) (handedOver m st s.profile.records)) := by
  simp [State.evaluatedMonitors, h]

/-- The state after MONITORS, before the condition unit takes what it raised. -/
def State.monitored (s : State) (bank : Bank) (p : ClosingParams) (m : MeansResults) (st : StatsResults) : State :=
  setEngine (.report bank p m st
    (monitorResults (handedOver m st s.profile.records) (s.evaluatedMonitors m st)))
    { s with monitors := s.evaluatedMonitors m st }

/-- Whether a monitor goes from ARMED to TRIPPED in MONITORS (R158). -/
def State.anyTrips (s : State) (m : MeansResults) (st : StatsResults) : Bool :=
  (List.zipWith tripsNow s.monitors (s.evaluatedMonitors m st)).any id

/-- Whether an evaluated STRICT monitor comes out UNORDERED in MONITORS (R160). -/
def State.anyInvalid (s : State) (m : MeansResults) (st : StatsResults) : Bool :=
  (s.evaluatedMonitors m st).any (invalidNow (handedOver m st s.profile.records))

theorem completeMonitors_eq : completeMonitors bank p m st s =
    raiseIf (s.anyInvalid m st) .monInvalid (raiseIf (s.anyTrips m st) .monTrip (s.monitored bank p m st)) := rfl

theorem completeMonitors_frame : completeMonitors bank p m st s = { s.monitored bank p m st with
    conditions := (completeMonitors bank p m st s).conditions } := by
  rw [completeMonitors_eq]
  cases s.anyInvalid m st <;> cases s.anyTrips m st <;> rfl

theorem settle_completeMonitors : settle (completeMonitors bank p m st s) = { s.monitored bank p m st with
    conditions := (settle (completeMonitors bank p m st s)).conditions
    choices := (settle (completeMonitors bank p m st s)).choices } := by
  refine (settle_eq _).trans ?_
  exact congrArg (fun x : State => { x with
    conditions := (settle (completeMonitors bank p m st s)).conditions
    choices := (settle (completeMonitors bank p m st s)).choices }) completeMonitors_frame

theorem settle_completeMonitors_flag (quiet : s.conditions.raised = []) {c : Condition} (link : c ≠ .linkError) :
    (settle (completeMonitors bank p m st s)).conditions.flag c = true ↔ s.conditions.flag c = true ∨
      (c = .monTrip ∧ s.anyTrips m st = true) ∨ (c = .monInvalid ∧ s.anyInvalid m st = true) := by
  have raised : (s.monitored bank p m st).conditions.raised = [] := quiet
  have flags : (completeMonitors bank p m st s).conditions.flags = s.conditions.flags := by
    rw [completeMonitors_eq, raiseIf_eq, raiseIf_eq]
    rfl
  rw [settle_flag_iff _ link, ConditionUnit.flag, flags, completeMonitors_eq, raiseIf_raised, raiseIf_raised, raised]
  refine or_congr_right ?_
  cases s.anyTrips m st <;> cases s.anyInvalid m st <;> simp

theorem settle_completeMonitors_monTrip (quiet : s.conditions.raised = []) :
    (settle (completeMonitors bank p m st s)).conditions.flag .monTrip = true ↔
      s.conditions.flag .monTrip = true ∨ s.anyTrips m st = true := by
  simpa using settle_completeMonitors_flag (c := .monTrip) quiet (by decide)

theorem settle_completeMonitors_monInvalid (quiet : s.conditions.raised = []) :
    (settle (completeMonitors bank p m st s)).conditions.flag .monInvalid = true ↔
      s.conditions.flag .monInvalid = true ∨ s.anyInvalid m st = true := by
  simpa using settle_completeMonitors_flag (c := .monInvalid) quiet (by decide)

theorem anyTrips_iff : s.anyTrips m st = true ↔ ∃ (k : Nat) (mon mon' : Monitor), s.monitors[k]? = some mon ∧
    (s.evaluatedMonitors m st)[k]? = some mon' ∧ mon.state = .armed ∧ mon'.state = .tripped := by
  simp only [State.anyTrips, List.any_eq_true, id, exists_eq_right, List.mem_iff_getElem?,
    List.getElem?_zipWith_eq_some, tripsNow_iff]

theorem anyInvalid_iff : s.anyInvalid m st = true ↔ ∃ (k : Nat) (mon : Monitor) (c : ChannelResults),
    s.monitors[k]? = some mon ∧ handedOver m st s.profile.records mon.record = some c ∧
      mon.record.kind = .strict ∧ (monitorOutcome mon.record c).1 = .unordered := by
  rw [State.anyInvalid, State.evaluatedMonitors, List.any_map, List.any_eq_true]
  simp only [Function.comp_apply, invalidNow_evaluate_iff, List.mem_iff_getElem?]
  constructor
  · rintro ⟨mon, ⟨k, at_k⟩, c, invalid⟩
    exact ⟨k, mon, c, at_k, invalid⟩
  · rintro ⟨k, mon, c, at_k, invalid⟩
    exact ⟨mon, ⟨k, at_k⟩, c, invalid⟩

end

/-- Settles O40: monitor by monitor, then what is returned, then the two raisings. -/
theorem monitorsAreEvaluatedAtOnce : Obligations.MonitorsAreEvaluatedAtOnce := by
  unfold Obligations.MonitorsAreEvaluatedAtOnce
  intro s bank p m st hs quiet outcome evaluated written
  have handed {mon : Monitor} {c : ChannelResults} : handedOver m st s.profile.records mon.record = some c ↔
      ∃ cm, evaluated mon cm ∧ c = _ := handedOver_eq_some_iff
  refine ⟨_, monitorResults (handedOver m st s.profile.records) (s.evaluatedMonitors m st),
    (exec_monitorsComplete hs).trans (congrArg Host.Outcome.next settle_completeMonitors), rfl, List.length_map _,
    fun k mon at_k => ⟨fun passed => ?_, fun cm takes => ?_⟩, monitorResults_pairwise _ _, fun e => ?_, ?_, ?_,
    fun c trip invalid link => ?_⟩
  · have none : handedOver m st s.profile.records mon.record = none :=
      Option.eq_none_iff_forall_ne_some.mpr fun c found =>
        have ⟨cm, takes, _⟩ := handed.mp found
        passed cm takes
    exact (evaluatedMonitors_getElem? at_k).trans (congrArg some (evaluate_none _ none))
  · exact (evaluatedMonitors_getElem? at_k).trans (congrArg some (evaluate_some _ (handed.mpr ⟨cm, takes, rfl⟩)))
  · refine (mem_monitorResults_evaluate _ _ _ e).trans ⟨?_, ?_⟩
    · rintro ⟨mon, c, at_k, found, same⟩
      obtain ⟨cm, takes, rfl⟩ := handed.mp found
      refine ⟨mon, cm, at_k, takes, ?_⟩
      rwa [evaluate_some _ found] at same
    · rintro ⟨mon, cm, at_k, takes, same⟩
      have found := handed.mpr ⟨cm, takes, rfl⟩
      refine ⟨mon, _, at_k, found, ?_⟩
      rwa [evaluate_some _ found]
  · exact (settle_completeMonitors_monTrip quiet).trans (or_congr_right anyTrips_iff)
  · refine (settle_completeMonitors_monInvalid quiet).trans (or_congr_right (anyInvalid_iff.trans ?_))
    refine exists_congr fun k => exists_congr fun mon => ⟨?_, ?_⟩
    · rintro ⟨c, at_k, found, invalid⟩
      obtain ⟨cm, takes, rfl⟩ := handed.mp found
      exact ⟨cm, at_k, takes, invalid⟩
    · rintro ⟨cm, at_k, takes, invalid⟩
      exact ⟨_, at_k, handed.mpr ⟨cm, takes, rfl⟩, invalid⟩
  · have same := settle_completeMonitors_flag (bank := bank) (p := p) (m := m) (st := st) quiet link
    simp only [trip, invalid, false_and, or_false] at same
    exact Bool.eq_iff_iff.mpr same

end Sys2Proof.Machine

/-! ## Profile actions (O42) -/

namespace Sys2Proof.Machine

/-! ### An action applied, case by case (R121 to R123) -/

section
variable {p : ProfileStore} {id : MapIdentity}

theorem applyAction_keep_same (h : p.map = some id) : p.applyAction ⟨.keep, id⟩ = p := if_pos h

theorem applyAction_keep_other (h : p.map ≠ some id) : p.applyAction ⟨.keep, id⟩ = p.clearTo id .cleared := if_neg h

theorem applyAction_clear : p.applyAction ⟨.clear, id⟩ = p.clearTo id .cleared := rfl

/-- A RESTORE of an empty slot, or of one saved on a map of another slice count, fails. -/
theorem applyAction_restore_fails {k : Nat}
    (h : p.slot k = none ∨ ∃ x, p.slot k = some x ∧ x.sliceCount ≠ id.sliceCount) :
    p.applyAction ⟨.restore k, id⟩ = p.clearTo id .restoreFailed := by
  unfold ProfileStore.applyAction
  dsimp only
  obtain empty | ⟨x, filled, other⟩ := h
  · rw [empty]
  · rw [filled]
    exact if_neg other

theorem applyAction_restore {k : Nat} {x : SaveSlot} (filled : p.slot k = some x)
    (alike : x.sliceCount = id.sliceCount) : p.applyAction ⟨.restore k, id⟩ = p.restoreTo id x := by
  unfold ProfileStore.applyAction
  dsimp only
  rw [filled]
  exact if_pos alike

/-- The records after a restore: the slot's image of a channel, or cleared records. -/
theorem restoreTo_records (p : ProfileStore) (id : MapIdentity) (x : SaveSlot) (c : ProfileChannel) :
    (p.restoreTo id x).records.get c = restoredRecords x.sliceCount (x.images.get c) := PerProfile.get_make _ c

end

/-- Settles O42: each action by its cases. -/
theorem profileActionsKeepClearOrRestore : Obligations.ProfileActionsKeepClearOrRestore := by
  unfold Obligations.ProfileActionsKeepClearOrRestore
  intro p id cleared
  refine ⟨applyAction_keep_same, applyAction_keep_other, applyAction_clear, fun k => applyAction_restore_fails,
    fun k x filled alike => ⟨(p.restoreTo id x).records, applyAction_restore filled alike,
      fun c => ⟨fun im present => ?_, fun absent => ?_⟩⟩⟩
  · rw [restoreTo_records, present]
    rfl
  · rw [restoreTo_records, absent, alike]
    rfl

end Sys2Proof.Machine

/-! ## Slot writes: fields, forms and owners (O56) -/

namespace Sys2Proof.Machine

variable {s : State} {f : CommandFrame} {rest : List CommandFrame}

/-! ### What a slot write carries (table 11-9) -/

theorem toNat_channelCode (c : ProfileChannel) : (byte c.code).toNat = c.code := by cases c <;> rfl

theorem profileChannelOf_channelCode (c : ProfileChannel) : profileChannelOf c.code = some c := by cases c <;> rfl

/-- An image entry as the bytes of a write carry it: F as its field holds it, and the code of its state. -/
def ImageEntry.args (e : ImageEntry) : Int × Nat := (signed 24 (twos 24 e.f), e.state.code)

theorem slotImageArgs_imageBytes {k : Nat} (hk : k ≤ 255) (c : ProfileChannel) {im : List ImageEntry}
    (him : im.length ≤ 65535) :
    slotImageArgs (byte k :: byte c.code :: imageBytes im) = some ⟨k, c.code, im.map ImageEntry.args⟩ := by
  have entries : foursOf (fun a b x y => (signed 24 (u24 a b x), y.toNat % 4)) (im.flatMap imageEntryBytes) =
      some (im.map ImageEntry.args) := by
    refine foursOf_flatMap _ imageEntryBytes ImageEntry.args im fun e _ => ⟨_, _, _, _, rfl, ?_⟩
    rw [u24_be24 _ (twos_lt 24 e.f)]
    cases he : e.state <;> simp [ImageEntry.args, SliceState.code, he]
  show (counted _ (foursOf _ (im.flatMap imageEntryBytes))).map _ = _
  rw [entries, u16_be16 _ him, counted_of_length (List.length_map _), Option.map_some, toNat_byte_of_le hk,
    toNat_channelCode]

/-- A slot image write by the places of its fields, counted from its slot on. -/
theorem slotImageArgs_fields {bytes : List Byte} {a : ImageArgs} (h : slotImageArgs bytes = some a) :
    a.slot = byteAt bytes 0 ∧ a.channel = byteAt bytes 1 ∧ a.entries.length = wordAt bytes 2 ∧
    ∀ (i : Nat) (hi : i < a.entries.length), a.entries[i] =
      (signed 24 (256 * wordAt bytes (4 * i + 4) + byteAt bytes (4 * i + 6)), byteAt bytes (4 * i + 7) % 4) := by
  unfold slotImageArgs at h
  split at h
  · rename_i k c e1 e0 more
    simp only [Option.map_eq_some_iff, counted_eq_some] at h
    obtain ⟨es, ⟨entries, count⟩, rfl⟩ := h
    refine ⟨rfl, rfl, count.trans (u16_eq_wordAt (k :: c :: e1 :: e0 :: more) 2), fun i hi => ?_⟩
    dsimp only at hi ⊢
    rw [foursOf_getElem entries i hi]
    have field (a b x : Byte) : u24 a b x = 256 * (256 * a.toNat + b.toNat) + x.toNat := by
      unfold u24
      omega
    rw [field]
    rfl
  · exact nomatch h

theorem validEntry_args {e : ImageEntry} (low : -1048560 ≤ e.f) (high : e.f ≤ 1048560)
    (unset : e.state = .unset → e.f = 0) : validEntry e.args = some e := by
  have state : sliceStateOf e.state.code = some e.state := by cases e.state <;> rfl
  have value : signed 24 (twos 24 e.f) = e.f := signed_twos24 _ (by omega) (by omega)
  unfold validEntry ImageEntry.args
  dsimp only
  rw [state, value]
  exact if_pos ⟨low, high, unset⟩

/-- What R130 asks of an entry. -/
theorem validEntry_ranges {e : Int × Nat} {x : ImageEntry} (h : validEntry e = some x) :
    -1048560 ≤ e.1 ∧ e.1 ≤ 1048560 ∧ e.2 ≠ 3 ∧ (e.2 = 0 → e.1 = 0) := by
  obtain ⟨value, code⟩ := e
  unfold validEntry at h
  dsimp only at h
  split at h
  · exact nomatch h
  · rename_i state known
    split at h
    · rename_i fits
      obtain ⟨low, high, unset⟩ := fits
      refine ⟨low, high, ?_, ?_⟩
      · rintro rfl
        exact nomatch known
      · rintro rfl
        exact unset (Option.some.inj known).symm
    · exact nomatch h

theorem profileChannelOf_none {n : Nat} (h : n ∉ [0, 1, 2, 4]) : profileChannelOf n = none :=
  Option.eq_none_iff_forall_ne_some.mpr fun _ found => h (profileChannelOf_mem found)

theorem rowOf_write_slot {region k part : Byte} {more : List Byte} (hcode : f.code = 0x03#8) (h0 : argByte f 0 = 8)
    (hargs : f.args = region :: k :: part :: more) :
    rowOf f = if argByte f 2 = 0x80 then .writeSlotHeader else .writeSlotImage := by
  have eight : region.toNat = 8 := by
    rw [argByte, hargs] at h0
    exact h0
  have header : part = 0x80#8 ↔ argByte f 2 = 0x80 := by
    rw [argByte, hargs]
    exact BitVec.toNat_inj.symm
  simp [rowOf_write hcode, hargs, writeRow, eight, slotRow, header]

/-! ### The owners of the two writes (R129, R130) -/

theorem slot_of_getElem? {p : ProfileStore} {k : Nat} {x : Option SaveSlot} (h : p.slots[k]? = some x) :
    p.slot k = x := by
  rw [ProfileStore.slot, List.getD_eq_getElem?_getD, h, Option.getD_some]

theorem writeSlotHeader_bad {a : Nat × Nat × Nat} (h : 3 < a.1 ∨ a.2.2 < 8 ∨ 480 < a.2.2) :
    writeSlotHeader a s = refuse .badArgument s := by
  refine if_pos ?_
  simp only [between, Bool.or_eq_true, decide_eq_true_eq, Bool.not_eq_true', Bool.and_eq_false_iff,
    decide_eq_false_iff_not, Nat.not_le]
  exact h

theorem writeSlotHeader_taken {k tag n : Nat} (hk : k ≤ 3) (low : 8 ≤ n) (high : n ≤ 480) :
    writeSlotHeader (k, tag, n) s =
      accept { s with profile := s.profile.setSlot k ⟨tag, n, ⟨none, none, none, none⟩⟩ } := by
  refine if_neg ?_
  simp only [(between_iff 8 480 n).mpr ⟨low, high⟩, Bool.not_true, Bool.or_false, decide_eq_true_eq]
  omega

section
variable {a : ImageArgs}

theorem writeSlotImage_noChannel (h : profileChannelOf a.channel = none) :
    writeSlotImage a s = refuse .badArgument s := by
  simp only [writeSlotImage, h]

theorem writeSlotImage_noSlot (h : 3 < a.slot) : writeSlotImage a s = refuse .badArgument s := by
  unfold writeSlotImage
  split
  · rfl
  · exact if_pos h

theorem writeSlotImage_empty {c : ProfileChannel} (hc : profileChannelOf a.channel = some c) (hk : a.slot ≤ 3)
    (hx : s.profile.slot a.slot = none) : writeSlotImage a s = refuse .slotEmpty s := by
  simp [writeSlotImage, hc, Nat.not_lt.mpr hk, hx]

theorem writeSlotImage_taken {c : ProfileChannel} (hc : profileChannelOf a.channel = some c) (hk : a.slot ≤ 3)
    {x : SaveSlot} (hx : s.profile.slot a.slot = some x) (count : a.entries.length = x.sliceCount)
    {es : List ImageEntry} (hes : a.entries.mapM validEntry = some es) : writeSlotImage a s =
      accept { s with profile := s.profile.setSlot a.slot { x with images := x.images.set c (some es) } } := by
  simp [writeSlotImage, hc, Nat.not_lt.mpr hk, hx, count, hes]

/-- To a filled slot, a count that is not the slot's or an entry that fails R130 is BAD_ARGUMENT, whatever the channel
and the number of the slot. -/
theorem writeSlotImage_bad {x : SaveSlot} (hx : s.profile.slot a.slot = some x)
    (bad : a.entries.length ≠ x.sliceCount ∨ ∃ e ∈ a.entries, ∀ i, validEntry e ≠ some i) :
    writeSlotImage a s = refuse .badArgument s := by
  unfold writeSlotImage
  split
  · rfl
  · rw [hx]
    dsimp only
    split
    · rfl
    · split
      · rfl
      · rename_i count
        obtain other | ⟨e, he, fails⟩ := bad
        · exact absurd other count
        · have none : a.entries.mapM validEntry = none := Option.eq_none_iff_forall_ne_some.mpr fun es hes => by
            obtain ⟨i, hi⟩ := mapM_some_passes hes e he
            exact fails i hi
          rw [none]

end

/-! ### The two rows -/

section
variable (hand : AtHand f rest s) (quiet : s.conditions.summary = false)
include hand quiet

theorem writeSlotHeader_served {a : Nat × Nat × Nat} (hrow : rowOf f = .writeSlotHeader)
    (ha : slotHeaderArgs f.args.tail = some a) :
    exec .writeTableSlotHeader s = .next (respond f (writeSlotHeader a (s.taken f rest))) :=
  congrArg Host.Outcome.next (serve_owner (parse := afterRegion slotHeaderArgs) hand hrow ha (.inr quiet))

theorem writeSlotImage_served {a : ImageArgs} (hrow : rowOf f = .writeSlotImage)
    (ha : slotImageArgs f.args.tail = some a) :
    exec .writeTableSlotImage s = .next (respond f (writeSlotImage a (s.taken f rest))) :=
  congrArg Host.Outcome.next (serve_owner (parse := afterRegion slotImageArgs) hand hrow ha (.inr quiet))

variable (hcode : f.code = 0x03#8)
include hcode

/-- A header write fills its slot without images (R129). -/
theorem writeTableSlotHeader_taken {k tag n : Nat} (hk : k ≤ 3) (htag : tag ≤ 65535) (low : 8 ≤ n) (high : n ≤ 480)
    (hargs : f.args = [8#8, byte k, 0x80#8] ++ be16 tag ++ be16 n) :
    exec .writeTableSlotHeader s = .next (State.answered { s with profile := { s.profile with
      slots := s.profile.slots.set k (some ⟨tag, n, ⟨none, none, none, none⟩⟩) } } f rest .ok []) := by
  have parsed : slotHeaderArgs f.args.tail = some (k, tag, n) := by
    rw [hargs]
    show some (_, u16 _ _, u16 _ _) = _
    rw [toNat_byte_of_le (by omega), u16_be16 _ htag, u16_be16 _ (by omega)]
  rw [writeSlotHeader_served hand quiet (by rw [rowOf_write hcode, hargs]; rfl) parsed,
    writeSlotHeader_taken hk low high]
  rfl

/-- A header write to no slot, or of a count outside R129. -/
theorem writeTableSlotHeader_bad (h0 : argByte f 0 = 8) (length : f.args.length = 7) (h2 : argByte f 2 = 0x80)
    (bad : 3 < argByte f 1 ∨ argWord f 5 < 8 ∨ 480 < argWord f 5) :
    exec .writeTableSlotHeader s = .next (s.answered f rest .badArgument []) := by
  match hargs : f.args, length with
  | [region, k, part, t1, t0, n1, n0], _ =>
    have parsed : slotHeaderArgs f.args.tail = some (argByte f 1, u16 t1 t0, argWord f 5) := by
      rw [argWord, argByte, argByte, argByte, hargs]
      show some (_, _, u16 _ _) = _
      rw [u16_eq_add n1 n0]
      rfl
    rw [writeSlotHeader_served hand quiet (by rw [rowOf_write_slot hcode h0 hargs, if_pos h2]) parsed,
      writeSlotHeader_bad bad, respond_refuse]

theorem writeTableSlotImage_served {k : Nat} (hk : k ≤ 3) (c : ProfileChannel) {im : List ImageEntry}
    (him : im.length ≤ 480) (hargs : f.args = [8#8, byte k, byte c.code] ++ imageBytes im) :
    exec .writeTableSlotImage s =
      .next (respond f (writeSlotImage ⟨k, c.code, im.map ImageEntry.args⟩ (s.taken f rest))) := by
  refine writeSlotImage_served hand quiet ?_ ?_
  · rw [rowOf_write hcode, hargs]
    cases c <;> rfl
  · rw [hargs]
    exact slotImageArgs_imageBytes (by omega) c (by omega)

/-- An image write sets the one image of a filled slot (R130). -/
theorem writeTableSlotImage_taken {k : Nat} (hk : k ≤ 3) {x : SaveSlot} (c : ProfileChannel) {im : List ImageEntry}
    (hx : s.profile.slots[k]? = some (some x)) (count : im.length = x.sliceCount) (slices : x.sliceCount ≤ 480)
    (him : ∀ e ∈ im, -1048560 ≤ e.f ∧ e.f ≤ 1048560 ∧ (e.state = .unset → e.f = 0))
    (hargs : f.args = [8#8, byte k, byte c.code] ++ imageBytes im) :
    exec .writeTableSlotImage s = .next (State.answered { s with profile := { s.profile with
      slots := s.profile.slots.set k (some { x with images := x.images.set c (some im) }) } } f rest .ok []) := by
  rw [writeTableSlotImage_served hand quiet hcode hk c (by omega) hargs,
    writeSlotImage_taken (s := s.taken f rest) (a := ⟨k, c.code, im.map ImageEntry.args⟩)
      (profileChannelOf_channelCode c) hk (slot_of_getElem? hx) ((List.length_map _).trans count)
      (mapM_map_eq_some fun e he => have ⟨low, high, unset⟩ := him e he; validEntry_args low high unset)]
  rfl

theorem writeTableSlotImage_empty {k : Nat} (hk : k ≤ 3) (c : ProfileChannel) {im : List ImageEntry}
    (hx : s.profile.slots[k]? = some none) (him : im.length ≤ 480)
    (hargs : f.args = [8#8, byte k, byte c.code] ++ imageBytes im) :
    exec .writeTableSlotImage s = .next (s.answered f rest .slotEmpty []) := by
  rw [writeTableSlotImage_served hand quiet hcode hk c him hargs,
    writeSlotImage_empty (s := s.taken f rest) (a := ⟨k, c.code, im.map ImageEntry.args⟩)
      (profileChannelOf_channelCode c) hk (slot_of_getElem? hx), respond_refuse]

/-- An image write to no channel or no slot, and to a filled slot one of another count or with an entry outside R130. -/
theorem writeTableSlotImage_bad (h0 : argByte f 0 = 8) (h2 : argByte f 2 ≠ 0x80)
    (formed : CommandRow.writeSlotImage.wellFormedArgs f.args = true) :
    (argByte f 2 ∉ [0, 1, 2, 4] ∨ 3 < argByte f 1 →
      exec .writeTableSlotImage s = .next (s.answered f rest .badArgument [])) ∧
    (∀ x, s.profile.slots[argByte f 1]? = some (some x) →
      (argWord f 3 ≠ x.sliceCount ∨ ∃ i, i < argWord f 3 ∧
        let value := signed 24 (256 * argWord f (4 * i + 5) + argByte f (4 * i + 7))
        let state := argByte f (4 * i + 8) % 4
        value < -1048560 ∨ 1048560 < value ∨ state = 3 ∨ (state = 0 ∧ value ≠ 0)) →
      exec .writeTableSlotImage s = .next (s.answered f rest .badArgument [])) := by
  obtain ⟨a, parsed⟩ := Option.isSome_iff_exists.mp formed
  have hrow : rowOf f = .writeSlotImage := by
    match hargs : f.args with
    | region :: k :: part :: more => rw [rowOf_write_slot hcode h0 hargs, if_neg h2]
    | [] | [_] | [_, _] =>
      rw [hargs] at parsed
      exact nomatch parsed
  obtain ⟨slot, channel, count, entries⟩ := slotImageArgs_fields parsed
  simp only [argByte_succ, argWord_succ, ← slot, ← channel, ← count]
  rw [writeSlotImage_served hand quiet hrow parsed]
  refine ⟨fun bad => ?_, fun x hx bad => ?_⟩
  · obtain none | beyond := bad
    · rw [writeSlotImage_noChannel (profileChannelOf_none none), respond_refuse]
    · rw [writeSlotImage_noSlot beyond, respond_refuse]
  · rw [writeSlotImage_bad (s := s.taken f rest) (slot_of_getElem? hx) ?_, respond_refuse]
    refine bad.imp_right fun ⟨i, hi, out⟩ => ⟨a.entries[i], List.getElem_mem hi, fun e valid => ?_⟩
    obtain ⟨low, high, state, unset⟩ := validEntry_ranges valid
    rw [entries i hi] at low high state unset
    obtain out | out | out | ⟨out, value⟩ := out
    · exact absurd low (Int.not_le.mpr out)
    · exact absurd high (Int.not_le.mpr out)
    · exact state out
    · exact value (unset out)

end

end Sys2Proof.Machine

/-! ## SAVE_PROFILE, RESTORE_PROFILE and CLEAR_PROFILE (O56) -/

namespace Sys2Proof.Machine

variable {s : State} {f : CommandFrame} {rest : List CommandFrame}

/-! ### The owners (R126 to R128) -/

section
variable (busy : s.closeOut.engine ≠ .idle)
include busy

theorem saveProfile_busy (a : Nat × Nat) : saveProfile a s = refuse .busy s :=
  if_pos (by simp [engineIdle, busy])

theorem restoreProfile_busy (k : Nat) : restoreProfile k s = refuse .busy s :=
  if_pos (by simp [engineIdle, busy])

theorem clearProfile_busy : clearProfile () s = refuse .busy s := if_pos (by simp [engineIdle, busy])

end

section
variable (idle : s.closeOut.engine = .idle) {k tag : Nat} {id : MapIdentity}
include idle

theorem saveProfile_noSlot (hk : 3 < k) : saveProfile (k, tag) s = refuse .badArgument s := by
  simp [saveProfile, engineIdle, idle, hk]

theorem saveProfile_noMap (hk : k ≤ 3) (hm : s.profile.map = none) :
    saveProfile (k, tag) s = refuse .refusedState s := by
  simp [saveProfile, engineIdle, idle, Nat.not_lt.mpr hk, hm]

theorem saveProfile_taken (hk : k ≤ 3) (hm : s.profile.map = some id) : saveProfile (k, tag) s =
    accept { s with profile := s.profile.setSlot k (savedSlot tag id s.profile.records) } := by
  simp [saveProfile, engineIdle, idle, Nat.not_lt.mpr hk, hm]

theorem restoreProfile_noSlot (hk : 3 < k) : restoreProfile k s = refuse .badArgument s := by
  simp [restoreProfile, engineIdle, idle, hk]

theorem restoreProfile_noMap (hk : k ≤ 3) (hm : s.profile.map = none) :
    restoreProfile k s = refuse .refusedState s := by
  simp [restoreProfile, engineIdle, idle, Nat.not_lt.mpr hk, hm]

theorem restoreProfile_empty (hk : k ≤ 3) (hm : s.profile.map = some id) (hx : s.profile.slot k = none) :
    restoreProfile k s = refuse .slotEmpty s := by
  simp [restoreProfile, engineIdle, idle, Nat.not_lt.mpr hk, hm, hx]

theorem restoreProfile_mismatch (hk : k ≤ 3) (hm : s.profile.map = some id) {x : SaveSlot}
    (hx : s.profile.slot k = some x) (other : x.sliceCount ≠ id.sliceCount) :
    restoreProfile k s = refuse .mapMismatch s := by
  simp [restoreProfile, engineIdle, idle, Nat.not_lt.mpr hk, hm, hx, other]

/-- A RESTORE_PROFILE taken does what the action RESTORE does on the profile map as it stands (R127). -/
theorem restoreProfile_taken (hk : k ≤ 3) (hm : s.profile.map = some id) {x : SaveSlot}
    (hx : s.profile.slot k = some x) (alike : x.sliceCount = id.sliceCount) :
    restoreProfile k s = accept { s with profile := s.profile.applyAction ⟨.restore k, id⟩ } := by
  rw [applyAction_restore hx alike]
  simp [restoreProfile, engineIdle, idle, Nat.not_lt.mpr hk, hm, hx, alike]

theorem clearProfile_noMap (hm : s.profile.map = none) : clearProfile () s = accept s := by
  simp [clearProfile, engineIdle, idle, hm]

theorem clearProfile_taken (hm : s.profile.map = some id) :
    clearProfile () s = accept { s with profile := s.profile.applyAction ⟨.clear, id⟩ } := by
  rw [applyAction_clear]
  simp [clearProfile, engineIdle, idle, hm]

end

/-! ### The three commands -/

section
variable (hand : AtHand f rest s) (quiet : s.conditions.summary = false)
include hand quiet

theorem saveProfile_served (hcode : f.code = 0x11#8) {a : Nat × Nat} (ha : slotTag f.args = some a) :
    exec .saveProfile s = .next (respond f (saveProfile a (s.taken f rest))) :=
  congrArg Host.Outcome.next (serve_owner hand (by simp [rowOf, hcode]) ha (.inr quiet))

theorem restoreProfile_served (hcode : f.code = 0x12#8) {k : Nat} (hk : k ≤ 255) (hargs : f.args = [byte k]) :
    exec .restoreProfile s = .next (respond f (restoreProfile k (s.taken f rest))) := by
  have parsed : oneByte f.args = some k := by
    rw [hargs]
    exact congrArg some (toNat_byte_of_le hk)
  exact congrArg Host.Outcome.next (serve_owner hand (by simp [rowOf, hcode]) parsed (.inr quiet))

theorem clearProfile_served (hcode : f.code = 0x13#8) (hargs : f.args = []) :
    exec .clearProfile s = .next (respond f (clearProfile () (s.taken f rest))) :=
  congrArg Host.Outcome.next (serve_noArgs _ hand (by simp [rowOf, hcode]) hargs (.inr quiet))

end

/-- Settles O56: the slot writes taken and refused, slots that there are not, then the three commands. -/
theorem slotWritesAndProfileCommands : Obligations.SlotWritesAndProfileCommands := by
  unfold Obligations.SlotWritesAndProfileCommands
  intro f rest s hand quiet
  refine ⟨fun hcode k hk => ⟨fun tag n htag low high hargs => ?_, fun x c im hx count slices him hargs => ?_,
      fun c im hx him hargs => ?_⟩, fun hcode h0 => ⟨?_, ?_⟩, fun k beyond hk idle => ⟨?_, ?_⟩,
    fun hcode k tag hk htag hargs => ?_, fun hcode k hk hargs => ?_, fun hcode hargs => ?_⟩
  · exact writeTableSlotHeader_taken hand quiet hcode hk htag low high hargs
  · exact writeTableSlotImage_taken hand quiet hcode hk c hx count slices him hargs
  · exact writeTableSlotImage_empty hand quiet hcode hk c hx him hargs
  · exact writeTableSlotHeader_bad hand quiet hcode h0
  · exact writeTableSlotImage_bad hand quiet hcode h0
  · intro tag hcode htag hargs
    match tag, htag with
    | [t1, t0], _ =>
      have parsed : slotTag f.args = some (k, u16 t1 t0) := by
        rw [hargs]
        exact congrArg (fun n => some (n, u16 t1 t0)) (toNat_byte_of_le hk)
      rw [saveProfile_served hand quiet hcode parsed, saveProfile_noSlot (s := s.taken f rest) idle beyond,
        respond_refuse]
  · intro hcode hargs
    rw [restoreProfile_served hand quiet hcode hk hargs, restoreProfile_noSlot (s := s.taken f rest) idle beyond,
      respond_refuse]
  · have parsed : slotTag f.args = some (k, tag) := by
      rw [hargs]
      show some (_, u16 _ _) = _
      rw [toNat_byte_of_le (by omega), u16_be16 _ htag]
    rw [saveProfile_served hand quiet hcode parsed]
    refine ⟨fun busy => ?_, fun idle hm => ?_, fun id idle hm => ?_⟩
    · rw [saveProfile_busy (s := s.taken f rest) busy, respond_refuse]
    · rw [saveProfile_noMap (s := s.taken f rest) idle hk hm, respond_refuse]
    · rw [saveProfile_taken (s := s.taken f rest) idle hk hm]
      rfl
  · rw [restoreProfile_served hand quiet hcode (by omega) hargs]
    refine ⟨fun busy => ?_, fun idle hm => ?_, fun id idle hm => ⟨fun hx => ?_, fun x hx other => ?_,
      fun x hx alike => ?_⟩⟩
    · rw [restoreProfile_busy (s := s.taken f rest) busy, respond_refuse]
    · rw [restoreProfile_noMap (s := s.taken f rest) idle hk hm, respond_refuse]
    · rw [restoreProfile_empty (s := s.taken f rest) idle hk hm (slot_of_getElem? hx), respond_refuse]
    · rw [restoreProfile_mismatch (s := s.taken f rest) idle hk hm (slot_of_getElem? hx) other, respond_refuse]
    · rw [restoreProfile_taken (s := s.taken f rest) idle hk hm (slot_of_getElem? hx) alike]
      rfl
  · rw [clearProfile_served hand quiet hcode hargs]
    refine ⟨fun busy => ?_, fun idle hm => ?_, fun id idle hm => ?_⟩
    · rw [clearProfile_busy (s := s.taken f rest) busy, respond_refuse]
    · rw [clearProfile_noMap (s := s.taken f rest) idle hm]
      rfl
    · rw [clearProfile_taken (s := s.taken f rest) idle hm]
      rfl

end Sys2Proof.Machine

/-! ## READ_STATUS: the status record by its offsets (O52) -/

namespace Sys2Proof.Machine

variable {s : State}

/-! ### Bytes -/

theorem packBits_three (a b c : Bool) : packBits [a, b, c] = bit a + 2 * bit b + 4 * bit c := by
  simp only [packBits]
  omega

theorem packBits_four (a b c d : Bool) : packBits [a, b, c, d] = bit a + 2 * bit b + 4 * bit c + 8 * bit d := by
  simp only [packBits]
  omega

/-- A list found again in a concatenation behind the lists before it. -/
theorem take_drop_flatten {α : Type} : ∀ {l : List (List α)} {k : Nat} {a : List α}, l[k]? = some a →
    (l.flatten.drop ((l.map List.length).take k).sum).take a.length = a
  | b :: l, 0, a, h => by
    obtain rfl := Option.some.inj h
    simp
  | b :: l, k + 1, a, h => by
    have behind := take_drop_flatten (l := l) (k := k) (a := a) (by simpa using h)
    rwa [List.flatten_cons, List.map_cons, List.take_succ_cons, List.sum_cons, List.drop_length_add_append]

/-! ### The fields of the record (table 11-12) -/

/-- The status record in its parts, each at an offset of its own. -/
def statusFields (s : State) : List (List Byte) := [
  [byte s.frame.carriage.kind.code, byte s.frame.carriage.subCode,
    byte (optDirectionCode s.frame.carriage.direction), bitByte s.frame.scanOn],
  opt16 (s.frame.limits.map Span.front) ++ opt16 (s.frame.limits.map Span.back),
  opt16 s.frame.lastPosition, driveBytes s.frame.lastDrive,
  [byte s.watch.state.code, byte s.tables.sheet.mode.code, byte (sourceCode s.watch.source)],
  setBytes s.conditions.flags ++ setBytes s.conditions.unmasked, [bitByte s.conditions.summary],
  s.conditions.counters.list.flatMap be16,
  byte s.contexts.queue.length :: presence16 (s.contexts.inEffect.map Context.tag),
  generationBytes s.tables.curve ++ generationBytes s.tables.bias ++ generationBytes s.tables.stdf,
  [bitByte s.tables.locked, byte (packMeasured s.conditioner.fitted),
    byte (packBits [s.tables.enables.bw, s.tables.enables.mo, s.tables.enables.ca])],
  opt16 (s.binning.lastGood.map Span.front) ++ opt16 (s.binning.lastGood.map Span.back),
  byte s.closeOut.engine.code :: be16 s.closeOut.scanNumber, identityBytes s.profile.map,
  [byte s.profile.trend.length, bitByte s.standardize.request, byte s.standardize.counter, byte s.mill.decimation],
  be32 s.clock]

theorem statusRecord_eq (s : State) : statusRecord s = (statusFields s).flatten := by
  unfold statusRecord statusFields
  simp only [List.flatten_cons, List.flatten_nil, List.append_nil, ← List.append_assoc]

theorem statusFields_lengths (s : State) :
    (statusFields s).map List.length = [4, 4, 2, 4, 3, 6, 1, 16, 4, 12, 3, 4, 3, 5, 4, 4] := by
  have drive : (driveBytes s.frame.lastDrive).length = 4 := by cases s.frame.lastDrive <;> rfl
  have map : (identityBytes s.profile.map).length = 5 := by cases s.profile.map <;> rfl
  simp only [statusFields, List.map_cons, drive, map]
  rfl

theorem statusRecord_length (s : State) : (statusRecord s).length = 79 := by
  rw [statusRecord_eq, List.length_flatten, statusFields_lengths]
  rfl

/-- The field of a number stands at the sum of the lengths before it. -/
theorem statusRecord_field {k : Nat} {field : List Byte} (h : (statusFields s)[k]? = some field) {offset : Nat}
    (before : ([4, 4, 2, 4, 3, 6, 1, 16, 4, 12, 3, 4, 3, 5, 4, 4].take k).sum = offset) :
    ((statusRecord s).drop offset).take field.length = field := by
  rw [← before, ← statusFields_lengths s, statusRecord_eq]
  exact take_drop_flatten h

end Sys2Proof.Machine

/-! ## READ_TABLE, READ_FIXED, READ_PROFILE and READ_TREND (O52) -/

namespace Sys2Proof.Machine

variable {s : State} {f : CommandFrame} {rest : List CommandFrame}

/-! ### READ_TABLE addresses (table 11-9) -/

section
variable {k n : Nat} (hk : k ≤ 255)
include hk

theorem readArgs_curve : readArgs [0#8, byte k] = some (.curve k) :=
  congrArg (fun i => some (ReadArgs.curve i)) (toNat_byte_of_le hk)

theorem readArgs_slot (part : Byte) : readArgs [8#8, byte k, part] = some (.slot k part.toNat) :=
  congrArg (fun i => some (ReadArgs.slot i part.toNat)) (toNat_byte_of_le hk)

variable (hn : n ≤ 255)
include hn

theorem readArgs_bias : readArgs [1#8, byte k, byte n] = some (.bias k n) := by
  show some (ReadArgs.bias _ _) = _
  rw [toNat_byte_of_le hk, toNat_byte_of_le hn]

theorem readArgs_monitor : readArgs [4#8, byte k, byte n] = some (.monitor k n) := by
  show some (ReadArgs.monitor _ _) = _
  rw [toNat_byte_of_le hk, toNat_byte_of_le hn]

end

theorem readArgs_unknownRegion {region : Byte} (more : List Byte) (h : 9 ≤ region.toNat) :
    readArgs (region :: more) = some .unknownRegion := by
  obtain ⟨n, hn⟩ : ∃ n, region.toNat = n + 9 := ⟨region.toNat - 9, by omega⟩
  unfold readArgs
  dsimp only
  rw [hn]
  exact if_neg (by omega)

/-! ### READ_TABLE results (R131, R153, R182) -/

theorem at?_eq_getElem? {α : Type} (p : PerMeasured α) (k : Nat) :
    PerMeasured.at? p k = [p.bw, p.mo, p.ca, p.tr][k]? := by
  match k with
  | 0 | 1 | 2 | 3 => rfl
  | k + 4 => rfl

theorem tableResult_curve {k : Nat} {c : Option Curve} (h : PerMeasured.at? s.tables.curve.staged k = some c) :
    tableResult (.curve k) s = some (byte k :: loadedBytes curveBytes c) := by
  simp [tableResult, h]

section
variable {first count : Nat}

/-- A run of entries that R153 and R182 admit. -/
theorem validRun_of_le (h1 : 1 ≤ count) (h8 : first + count ≤ 8) : validRun 8 first count = true := by
  have within : count ≤ 8 := by omega
  simp [validRun, between, h1, h8, within]

theorem validRun_of_out (h : count = 0 ∨ 8 < first + count) : validRun 8 first count = false := by
  simp only [validRun, between, Bool.and_eq_false_iff, decide_eq_false_iff_not]
  omega

theorem tableResult_bias (h1 : 1 ≤ count) (h8 : first + count ≤ 8) : tableResult (.bias first count) s =
    some ([byte first, byte count] ++ ((s.tables.bias.staged.drop first).take count).flatMap biasBytes) :=
  if_pos (validRun_of_le h1 h8)

theorem tableResult_bias_out (h : count = 0 ∨ 8 < first + count) : tableResult (.bias first count) s = none :=
  if_neg (Bool.eq_false_iff.mp (validRun_of_out h))

theorem tableResult_monitor (h1 : 1 ≤ count) (h8 : first + count ≤ 8) : tableResult (.monitor first count) s =
    some ([byte first, byte count] ++ ((s.monitors.drop first).take count).flatMap monitorBytes) :=
  if_pos (validRun_of_le h1 h8)

theorem tableResult_monitor_out (h : count = 0 ∨ 8 < first + count) : tableResult (.monitor first count) s = none :=
  if_neg (Bool.eq_false_iff.mp (validRun_of_out h))

end

theorem mapLetterOf_byte (l : MapLetter) : mapLetterOf (byte l.code).toNat = some l := by cases l <;> rfl

theorem mapLetter_of_lt {b : Byte} (h : b.toNat < 2) : ∃ l : MapLetter, b = byte l.code := by
  obtain zero | one : b.toNat = 0 ∨ b.toNat = 1 := by omega
  · exact ⟨.a, BitVec.eq_of_toNat_eq zero⟩
  · exact ⟨.b, BitVec.eq_of_toNat_eq one⟩

theorem tableResult_map {n : Nat} {l : MapLetter} (h : mapLetterOf n = some l) :
    tableResult (.map n) s = some (byte n :: loadedBytes mapBytes (s.tables.map l)) := by
  simp [tableResult, h]

theorem tableResult_noMap {n : Nat} (h : 2 ≤ n) : tableResult (.map n) s = none := by
  simp [tableResult, mapLetterOf_of_le h]

section
variable {k : Nat}

theorem tableResult_noSlot (part : Nat) (hk : 3 < k) : tableResult (.slot k part) s = none := if_pos hk

theorem tableResult_slotHeader (hk : k ≤ 3) : tableResult (.slot k 0x80) s =
    some (byte k :: loadedBytes slotHeaderBytes (s.profile.slot k)) := if_neg (Nat.not_lt.mpr hk)

theorem tableResult_slotImage (hk : k ≤ 3) (c : ProfileChannel) : tableResult (.slot k c.code) s =
    some (byte k :: byte c.code :: loadedBytes imageBytes ((s.profile.slot k).bind fun x => x.images.get c)) := by
  refine (if_neg (Nat.not_lt.mpr hk)).trans ?_
  cases c <;> rfl

theorem tableResult_noPart (k : Nat) {part : Nat} (h : part ∉ [0, 1, 2, 4, 0x80]) :
    tableResult (.slot k part) s = none := by
  have header : part ≠ 0x80 := fun e => h (by simp [e])
  have channel : profileChannelOf part = none := profileChannelOf_none fun mem => h (List.mem_append_left [0x80] mem)
  simp [tableResult, readSlot, header, channel]

end

/-! ### The owners of the other three -/

section
variable {n : Nat} {c : ProfileChannel}

theorem readFixed_noChannel (h : profileChannelOf n = none) : readFixed n s = refuse .badArgument s := by
  simp [readFixed, h]

theorem readFixed_notFitted (h : c.fittedIn s.conditioner.fitted = false) :
    readFixed c.code s = refuse .notFitted s := by
  simp [readFixed, profileChannelOf_channelCode, h]

theorem readFixed_reads (h : c.fittedIn s.conditioner.fitted = true) : readFixed c.code s =
    reads (bitByte (decide (s.frame.carriage = .fixed .dwelling)) :: opt16 s.frame.fixedPoint ++
      [byte (s.frame.windows.get c).length] ++ presence16 (windowMean (s.frame.windows.get c))) s := by
  simp only [readFixed, profileChannelOf_channelCode, h]
  rfl

theorem presence16_windowMean (w : List Nat) : presence16 (windowMean w) =
    if w = [] then [0#8, 0#8, 0#8] else 1#8 :: be16 ((2 * w.sum + w.length) / (2 * w.length)) := by
  by_cases h : w = []
  · rw [windowMean, if_pos h, if_pos h]
    rfl
  · rw [windowMean, if_neg h, if_neg h]
    rfl

theorem readProfile_noChannel (h : profileChannelOf n = none) : readProfile n s = refuse .badArgument s := by
  simp [readProfile, h]

theorem readProfile_busy (busy : s.closeOut.engine ≠ .idle) : readProfile c.code s = refuse .busy s := by
  simp [readProfile, profileChannelOf_channelCode, engineIdle, busy]

theorem readProfile_notFitted (idle : s.closeOut.engine = .idle) (h : c.fittedIn s.conditioner.fitted = false) :
    readProfile c.code s = refuse .notFitted s := by
  simp [readProfile, profileChannelOf_channelCode, engineIdle, idle, h]

theorem readProfile_reads (idle : s.closeOut.engine = .idle) (h : c.fittedIn s.conditioner.fitted = true) :
    readProfile c.code s = reads (identityBytes s.profile.map ++ be16 s.closeOut.scanNumber ++
      (s.profile.records.get c).flatMap sliceRecordBytes) s := by
  simp [readProfile, profileChannelOf_channelCode, engineIdle, idle, h]

theorem readTrend_reads (low : 1 ≤ n) (high : n ≤ 64) : readTrend n s =
    reads (byte (newestTrend n s.profile.trend).length :: (newestTrend n s.profile.trend).flatMap trendBytes) s :=
  if_pos ((between_iff 1 64 n).mpr ⟨low, high⟩)

theorem readTrend_bad (h : n = 0 ∨ 65 ≤ n) : readTrend n s = refuse .badArgument s := by
  refine if_neg ?_
  rw [between_iff]
  omega

theorem newestTrend_split (n : Nat) (ring : List TrendRecord) :
    ring = ring.take (ring.length - n) ++ newestTrend n ring ∧
    (newestTrend n ring).length = min n ring.length := by
  refine ⟨(List.take_append_drop _ _).symm, ?_⟩
  rw [newestTrend, List.length_drop]
  omega

end

/-! ### The five commands -/

section
variable (hand : AtHand f rest s)
include hand

theorem readStatus_served (hcode : f.code = 0x01#8) (hargs : f.args = []) :
    exec .readStatus s = .next (s.answered f rest .ok (statusRecord s)) :=
  congrArg Host.Outcome.next (serve_noArgs _ hand (by simp [rowOf, hcode]) hargs (.inl rfl))

theorem readTable_served (hcode : f.code = 0x02#8) {a : ReadArgs} (ha : readArgs f.args = some a) :
    exec .readTable s = .next (respond f (readTable a (s.taken f rest))) :=
  congrArg Host.Outcome.next (serve_owner hand (by simp [rowOf, hcode]) ha (.inl rfl))

theorem readTable_ok (hcode : f.code = 0x02#8) {a : ReadArgs} (ha : readArgs f.args = some a) {r : List Byte}
    (hr : tableResult a s = some r) : exec .readTable s = .next (s.answered f rest .ok r) := by
  have result : tableResult a (s.taken f rest) = some r := hr
  rw [readTable_served hand hcode ha, readTable, result]
  rfl

theorem readTable_refused (hcode : f.code = 0x02#8) {a : ReadArgs} (ha : readArgs f.args = some a)
    (hr : tableResult a s = none) : exec .readTable s = .next (s.answered f rest .badArgument []) := by
  have result : tableResult a (s.taken f rest) = none := hr
  rw [readTable_served hand hcode ha, readTable, result]
  rfl

theorem readFixed_served (hcode : f.code = 0x0D#8) {b : Byte} (hargs : f.args = [b]) :
    exec .readFixed s = .next (respond f (readFixed b.toNat (s.taken f rest))) :=
  congrArg Host.Outcome.next (serve_owner hand (by simp [rowOf, hcode]) (by rw [hargs]; rfl) (.inl rfl))

theorem readProfile_served (hcode : f.code = 0x0E#8) {b : Byte} (hargs : f.args = [b]) :
    exec .readProfile s = .next (respond f (readProfile b.toNat (s.taken f rest))) :=
  congrArg Host.Outcome.next (serve_owner hand (by simp [rowOf, hcode]) (by rw [hargs]; rfl) (.inl rfl))

theorem readTrend_served (hcode : f.code = 0x0F#8) {b : Byte} (hargs : f.args = [b]) :
    exec .readTrend s = .next (respond f (readTrend b.toNat (s.taken f rest))) :=
  congrArg Host.Outcome.next (serve_owner hand (by simp [rowOf, hcode]) (by rw [hargs]; rfl) (.inl rfl))

end

/-- Settles O52: the status record field by field, READ_TABLE region by region, then the other three. -/
theorem readingCommandsAnswerWithTheirResult : Obligations.ReadingCommandsAnswerWithTheirResult := by
  unfold Obligations.ReadingCommandsAnswerWithTheirResult
  intro f rest s hand
  refine ⟨fun hcode hargs => ⟨_, readStatus_served hand hcode hargs, statusRecord_length s, ?_⟩, fun hcode => ?_,
    fun hcode c hargs => ?_, fun hcode c hargs => ?_, fun hcode b hargs => ⟨fun low high => ?_, fun out => ?_⟩,
    fun hcode b hargs none => ?_⟩
  · intro field optional flag
    have bytes (o : Option Nat) : opt16 o = optional o := by cases o <;> rfl
    refine ⟨statusRecord_field (k := 0) (congrArg some ?_) rfl, statusRecord_field (k := 1) (congrArg some ?_) rfl,
      statusRecord_field (k := 2) (congrArg some ?_) rfl, statusRecord_field (k := 3) (congrArg some ?_) rfl,
      statusRecord_field (k := 4) (congrArg some ?_) rfl, statusRecord_field (k := 5) rfl rfl,
      statusRecord_field (k := 6) rfl rfl, statusRecord_field (k := 7) rfl rfl,
      statusRecord_field (k := 8) (congrArg some ?_) rfl, statusRecord_field (k := 9) rfl rfl,
      statusRecord_field (k := 10) (congrArg some ?_) rfl, statusRecord_field (k := 11) (congrArg some ?_) rfl,
      statusRecord_field (k := 12) (congrArg some ?_) rfl, statusRecord_field (k := 13) (congrArg some ?_) rfl,
      statusRecord_field (k := 14) rfl rfl, statusRecord_field (k := 15) rfl rfl⟩
    · cases s.frame.carriage with
      | traverse sub dir => cases sub <;> cases dir <;> rfl
      | fixed sub | probing sub => cases sub <;> rfl
      | unreferenced | parking | parked | standardizing | halted => rfl
    · rw [bytes, bytes]
    · exact bytes _
    · cases s.frame.lastDrive with
      | none => rfl
      | some d =>
        rw [driveBytes, packBits_three]
        rfl
    · refine List.cons_eq_cons.mpr ⟨?_, List.cons_eq_cons.mpr ⟨?_, List.cons_eq_cons.mpr ⟨?_, rfl⟩⟩⟩
      · cases s.watch.state <;> rfl
      · cases s.tables.sheet.mode <;> rfl
      · obtain _ | _ | _ := s.watch.source <;> rfl
    · cases s.contexts.inEffect <;> rfl
    · rw [packMeasured, packBits_four, packBits_three]
      rfl
    · rw [bytes, bytes]
    · cases s.closeOut.engine <;> rfl
    · cases s.profile.map with
      | none => rfl
      | some m => cases hm : m.letter <;> simp only [identityBytes, hm] <;> rfl
  · intro ok refused
    refine ⟨fun k hk hargs => ⟨fun c hc => ?_, fun beyond => ?_⟩,
      fun k n hk hn hargs => ⟨fun h1 h8 => ?_, fun out => ?_⟩, fun hargs => ?_,
      fun l hargs => ⟨fun hl => ?_, fun hl => ?_⟩,
      fun k n hk hn hargs => ⟨fun h1 h8 => ?_, fun out => ?_⟩, fun hargs => ?_, fun hargs => ?_, fun hargs => ?_,
      fun k hk => ⟨fun hargs => ⟨fun x hx h3 => ?_, fun h3 => ?_⟩,
        fun c hargs => ⟨fun x hx h3 => ?_, fun h3 => ?_⟩, fun part hargs none => ?_⟩,
      fun region more beyond hargs => ?_⟩
    · rw [← at?_eq_getElem?] at hc
      refine (readTable_ok hand hcode (by rw [hargs, readArgs_curve hk]) (tableResult_curve hc)).trans ?_
      cases c <;> rfl
    · refine readTable_refused hand hcode (by rw [hargs, readArgs_curve hk]) ?_
      rw [tableResult, at?_eq_getElem?, List.getElem?_eq_none beyond, Option.map_none]
    · exact readTable_ok hand hcode (by rw [hargs, readArgs_bias hk hn]) (tableResult_bias h1 h8)
    · exact readTable_refused hand hcode (by rw [hargs, readArgs_bias hk hn]) (tableResult_bias_out out)
    · exact readTable_ok hand hcode (a := .stdf) (by rw [hargs]; rfl) rfl
    · obtain ⟨letter, rfl⟩ := mapLetter_of_lt hl
      refine (readTable_ok hand hcode (by rw [hargs]; rfl) (tableResult_map (mapLetterOf_byte letter))).trans ?_
      have stored : (if byte letter.code = 0#8 then s.tables.mapA else s.tables.mapB) = s.tables.map letter := by
        cases letter <;> rfl
      rw [byte_of_toNat, stored]
      cases s.tables.map letter <;> rfl
    · exact readTable_refused hand hcode (a := .map l.toNat) (by rw [hargs]; rfl) (tableResult_noMap hl)
    · exact readTable_ok hand hcode (by rw [hargs, readArgs_monitor hk hn]) (tableResult_monitor h1 h8)
    · exact readTable_refused hand hcode (by rw [hargs, readArgs_monitor hk hn]) (tableResult_monitor_out out)
    · exact readTable_ok hand hcode (a := .sheet) (by rw [hargs]; rfl) rfl
    · exact readTable_ok hand hcode (a := .frame) (by rw [hargs]; rfl) rfl
    · exact readTable_ok hand hcode (a := .channel) (by rw [hargs]; rfl) rfl
    · refine (readTable_ok hand hcode (by rw [hargs, readArgs_slot hk]; rfl) (tableResult_slotHeader h3)).trans ?_
      rw [slot_of_getElem? hx]
      cases x <;> rfl
    · exact readTable_refused hand hcode (by rw [hargs, readArgs_slot hk]) (tableResult_noSlot _ h3)
    · refine (readTable_ok hand hcode (by rw [hargs, readArgs_slot hk, toNat_channelCode])
        (tableResult_slotImage h3 c)).trans ?_
      rw [slot_of_getElem? hx]
      cases x.bind fun v => v.images.get c <;> rfl
    · exact readTable_refused hand hcode (by rw [hargs, readArgs_slot hk]) (tableResult_noSlot _ h3)
    · exact readTable_refused hand hcode (by rw [hargs, readArgs_slot hk]) (tableResult_noPart k none)
    · exact readTable_refused hand hcode (by rw [hargs, readArgs_unknownRegion more beyond]) rfl
  · have served := readFixed_served hand hcode hargs
    rw [toNat_channelCode] at served
    rw [served]
    refine ⟨fun absent => ?_, fun fitted => ?_⟩
    · rw [readFixed_notFitted (s := s.taken f rest) absent, respond_refuse]
    · rw [readFixed_reads (s := s.taken f rest) fitted, presence16_windowMean, respond_reads]
      rfl
  · have served := readProfile_served hand hcode hargs
    rw [toNat_channelCode] at served
    rw [served]
    refine ⟨fun busy => ?_, fun idle absent => ?_, fun idle fitted => ?_⟩
    · rw [readProfile_busy (s := s.taken f rest) busy, respond_refuse]
    · rw [readProfile_notFitted (s := s.taken f rest) idle absent, respond_refuse]
    · rw [readProfile_reads (s := s.taken f rest) idle fitted, respond_reads]
      rfl
  · obtain ⟨split, length⟩ := newestTrend_split b.toNat s.profile.trend
    refine ⟨_, _, split, length, ?_⟩
    rw [readTrend_served hand hcode hargs, readTrend_reads (s := s.taken f rest) low high, respond_reads]
    rfl
  · rw [readTrend_served hand hcode hargs, readTrend_bad (s := s.taken f rest) out, respond_refuse]
  · have channel := profileChannelOf_none none
    obtain fixed | profile := hcode
    · rw [if_pos fixed, readFixed_served hand fixed hargs, readFixed_noChannel (s := s.taken f rest) channel,
        respond_refuse]
    · rw [if_neg (by rw [profile]; decide), readProfile_served hand profile hargs,
        readProfile_noChannel (s := s.taken f rest) channel, respond_refuse]

end Sys2Proof.Machine

/-! ## The reset state (O5) -/

namespace Sys2Proof.Machine

theorem scanGoverned_reset : ScanGoverned State.reset := by decide

theorem watchQuiet_reset : WatchQuiet State.reset := by decide

theorem slicesAgree_reset : SlicesAgree State.reset := by decide

/-- Settles O5: the part is at rest after reset; the handler is READY with nothing in hand. -/
theorem resetMeetsTheInvariants : Obligations.ResetMeetsTheInvariants := by
  unfold Obligations.ResetMeetsTheInvariants
  exact ⟨coupled_reset, scanGoverned_reset, watchQuiet_reset, withinCapacity_reset, trivial, tablesValid_reset,
    slicesAgree_reset⟩

end Sys2Proof.Machine

/-! ## The limits of a traverse (O43) -/

namespace Sys2Proof.Machine

variable {width g : Nat} {c : Context} {e : Span} {lastGood : Option Span}

/-- The limits that follow the sheet: the last good edges widened by the margin, cut to the context's (R100). A front
edge nearer to 0 than the margin is widened to 0, below which no context lies. -/
def trackedSpan (c : Context) (g : Nat) (e : Span) : Span := ⟨max c.front (e.front - g), min c.back (e.back + g)⟩

/-- Without tracking, or before the first good edges, the limits are the context's. -/
theorem limitsOf_untracked (h : c.tracking = none ∨ lastGood = none) :
    limitsOf width c lastGood = ⟨c.front, c.back⟩ := by
  unfold limitsOf
  split
  · simp_all
  · rfl

theorem limitsOf_tracked (hg : c.tracking = some g) : limitsOf width c (some e) =
    if (trackedSpan c g e).back < (trackedSpan c g e).front + width then ⟨c.front, c.back⟩ else trackedSpan c g e := by
  simp [limitsOf, hg, trackedSpan]

/-- The limits are the context's or the tracked ones, whatever the width. -/
theorem limitsOf_cases (width : Nat) (c : Context) (lastGood : Option Span) :
    limitsOf width c lastGood = ⟨c.front, c.back⟩ ∨ ∃ g e, limitsOf width c lastGood = trackedSpan c g e := by
  cases hg : c.tracking with
  | none => exact .inl (limitsOf_untracked (.inl hg))
  | some g =>
    cases lastGood with
    | none => exact .inl (limitsOf_untracked (.inr rfl))
    | some e =>
      rw [limitsOf_tracked hg]
      split
      · exact .inl rfl
      · exact .inr ⟨g, e, rfl⟩

theorem trackedSpan_front (c : Context) (g : Nat) (e : Span) :
    ((trackedSpan c g e).front : Int) = max (c.front : Int) ((e.front : Int) - g) := by
  simp only [trackedSpan]
  omega

theorem trackedSpan_back (c : Context) (g : Nat) (e : Span) :
    ((trackedSpan c g e).back : Int) = min (c.back : Int) ((e.back : Int) + g) := by
  simp only [trackedSpan]
  omega

/-- Settles O43: by tracking and last good edges, and by the width of the tracked limits. -/
theorem limitsTrackTheEdges : Obligations.LimitsTrackTheEdges := by
  unfold Obligations.LimitsTrackTheEdges
  intro width c lastGood
  refine ⟨limitsOf_untracked, fun g e hg he => ?_, ?_⟩
  · subst he
    rw [limitsOf_tracked hg, ← trackedSpan_front, ← trackedSpan_back]
    refine ⟨fun narrow => if_pos (by omega), fun wide => ?_⟩
    rw [if_neg (by omega)]
    exact ⟨rfl, rfl⟩
  · obtain own | ⟨g, e, tracked⟩ := limitsOf_cases width c lastGood
    · rw [own]
      exact ⟨le_rfl, le_rfl⟩
    · rw [tracked]
      exact ⟨le_max_left _ _, min_le_left _ _⟩

end Sys2Proof.Machine

/-! ## The break watch: samples and sheet notices (O50) -/

namespace Sys2Proof.Machine

variable {s t u : State} {x : Sample} {source : BreakSource}

/-! ### A break declared (R137) -/

/-- Runs that are 0 are left as they are. -/
theorem quietRuns_of_noRuns (h : NoRuns s) : quietRuns s = s := setCarriage_of_noRuns s.frame.carriage h

/-- The break watch that has declared a break. -/
def BreakWatch.declared (w : BreakWatch) (source : BreakSource) : BreakWatch :=
  { w with state := .broken, source := some source, breakRun := 0, heldRun := none, sheetRun := 0, holdOff := none }

/-- The alarm of a break, which the break watch raises in BREAK already. -/
def State.breakAlarm (s : State) : AlarmFrame := { alarmNow .sheetBreak s with breakState := .broken }

/-- The state that has declared a break, before the park request or the break mark. -/
def State.declared (s : State) (source : BreakSource) : State :=
  { s with
    watch := s.watch.declared source
    conditions := { s.conditions with raised := s.conditions.raised ++ [⟨s.breakAlarm, []⟩] } }

theorem declareBreak_eq (source : BreakSource) (s : State) : declareBreak source s =
    if parkMode s then parkRequest (s.declared source) else markTraverse (s.declared source) := by
  unfold declareBreak
  rw [quietRuns_of_noRuns ⟨rfl, rfl, rfl⟩]
  rfl

theorem declareBreak_report (report : s.tables.sheet.mode = .report) :
    declareBreak source s = markTraverse (s.declared source) := by
  rw [declareBreak_eq, if_neg (by simpa [parkMode_iff] using report)]

theorem declareBreak_parks (parks : s.tables.sheet.mode ≠ .report) :
    declareBreak source s = parkRequest (s.declared source) := by
  rw [declareBreak_eq, if_pos ((parkMode_iff s).mpr parks)]

/-- The run counts that stood do not outlast the declaration. -/
theorem declareBreak_setBreakRun (n : Nat) (s : State) :
    declareBreak source (setBreakRun n s) = declareBreak source s := by
  rw [declareBreak_eq, declareBreak_eq]
  rfl

/-- BREAK is raised once, and the park request raises nothing besides. -/
theorem declareBreak_raised (source : BreakSource) (s : State) :
    (declareBreak source s).conditions.raised = s.conditions.raised ++ [⟨s.breakAlarm, []⟩] := by
  rw [declareBreak_eq]
  split
  · exact parkRequest_raised _
  · rfl

/-! ### The park request of a break, by carriage state (R109) -/

/-- The states that a park request calls the carriage home from. -/
def Carriage.IsAbroad (c : Carriage) : Prop :=
  (∃ sub d, c = .traverse sub d) ∨ (∃ sub, c = .fixed sub) ∨ ∃ sub, c = .probing sub

/-- A carriage whose samples the detector counts is abroad. -/
theorem isAbroad_of_watched (h : watched s) : s.frame.carriage.IsAbroad := by
  obtain ⟨d, h⟩ | h | h := h
  · exact .inl ⟨_, d, h⟩
  · exact .inr (.inl ⟨_, h⟩)
  · exact .inr (.inr ⟨_, h⟩)

theorem parkRequest_traverse {sub : TraverseSub} {d : Direction} (h : s.frame.carriage = .traverse sub d) :
    parkRequest s = (abandonTraverse .brk (setScanOn false s)).moving .parking s.tables.frame.park 200 := by
  simp [parkRequest, h, goPark_eq, setScanOn]

theorem parkRequest_fixed {sub : DwellSub} (h : s.frame.carriage = .fixed sub) :
    parkRequest s = (setScanOn false s).moving .parking s.tables.frame.park 200 := by
  simp [parkRequest, h, goPark_eq, setScanOn]

/-- From abroad the carriage is sent home; what the request abandons on the way stands in binning, mill and counters. -/
theorem parkRequest_abroad (h : s.frame.carriage.IsAbroad) : ∃ binning mill counters,
    parkRequest s = State.moving { setScanOn false s with
      binning := binning, mill := mill, conditions := { s.conditions with counters := counters } }
      .parking s.tables.frame.park 200 ∧
    ((∃ sub d, s.frame.carriage = .traverse sub d) → binning.openTraverse = none) := by
  obtain ⟨sub, d, h⟩ | ⟨sub, h⟩ | ⟨sub, h⟩ := h
  · rw [parkRequest_traverse h, abandonTraverse_eq]
    exact ⟨_, _, _, rfl, fun _ => rfl⟩
  · rw [parkRequest_fixed h]
    refine ⟨s.binning, s.mill, s.conditions.counters, rfl, fun ⟨_, _, traverse⟩ => ?_⟩
    cases h.symm.trans traverse
  · rw [parkRequest_probing h]
    refine ⟨s.binning, s.mill, s.conditions.counters, rfl, fun ⟨_, _, traverse⟩ => ?_⟩
    cases h.symm.trans traverse

/-- With no traverse to abandon, that is all the request does. -/
theorem parkRequest_abroad_closed (h : s.frame.carriage.IsAbroad)
    (closed : s.binning.openTraverse = none ∨ ¬ ∃ sub d, s.frame.carriage = .traverse sub d) :
    parkRequest s = (setScanOn false s).moving .parking s.tables.frame.park 200 := by
  obtain ⟨sub, d, h⟩ | ⟨sub, h⟩ | ⟨sub, h⟩ := h
  · obtain none | still := closed
    · rw [parkRequest_traverse h, abandonTraverse_none .brk (setScanOn false s) none]
    · exact absurd ⟨sub, d, h⟩ still
  · exact parkRequest_fixed h
  · exact parkRequest_probing h

/-- In PARKED the request is an arrival at once, which leads from BREAK to SHEET_OFF (R109, R141). -/
theorem parkRequest_declared_parked (parks : s.tables.sheet.mode ≠ .report) (parked : s.frame.carriage = .parked) :
    parkRequest (s.declared source) = { setScanOn false (s.declared source) with
      watch := { s.watch.declared source with
        state := .sheetOff, probe := some ⟨1000 * s.tables.sheet.probeInterval, 0⟩ } } := by
  have mode : parkMode (setScanOn false (s.declared source)) = true := (parkMode_iff _).mpr parks
  have broken : (setScanOn false (s.declared source)).watch.state = .broken := rfl
  rw [parkRequest_parked (s := s.declared source) parked, watchArrival, broken]
  dsimp only
  rw [if_pos mode]
  exact quietRuns_of_noRuns ⟨rfl, rfl, rfl⟩

/-! ### What a declaration leaves -/

/-- But for PARKED, where it leads on at once, a declaration leaves the break watch in BREAK. -/
theorem declareBreak_watch (h : s.frame.carriage ≠ .parked ∨ s.tables.sheet.mode = .report) :
    (declareBreak source s).watch = s.watch.declared source := by
  by_cases report : s.tables.sheet.mode = .report
  · rw [declareBreak_report report]
    rfl
  · rw [declareBreak_parks report]
    have abroad (h : s.frame.carriage.IsAbroad) :
        (parkRequest (s.declared source)).watch = s.watch.declared source := by
      obtain ⟨_, _, _, e, -⟩ := parkRequest_abroad (s := s.declared source) h
      rw [e]
      rfl
    cases hc : s.frame.carriage with
    | unreferenced => rw [parkRequest_absent (s := s.declared source) (.inl hc)]; rfl
    | halted => rw [parkRequest_absent (s := s.declared source) (.inr hc)]; rfl
    | parking => rw [parkRequest_onTheWay (s := s.declared source) (.inl hc)]; rfl
    | standardizing => rw [parkRequest_onTheWay (s := s.declared source) (.inr hc)]; rfl
    | parked => exact absurd hc (h.resolve_right report)
    | traverse sub d => exact abroad (.inl ⟨sub, d, hc⟩)
    | fixed sub => exact abroad (.inr (.inl ⟨sub, hc⟩))
    | probing sub => exact abroad (.inr (.inr ⟨sub, hc⟩))

theorem declareBreak_abroad (parks : s.tables.sheet.mode ≠ .report) (h : s.frame.carriage.IsAbroad) :
    (declareBreak source s).frame.carriage = .parking ∧ (declareBreak source s).frame.scanOn = false ∧
    (declareBreak source s).port = s.port.handDrive (.move s.tables.frame.park 200) ∧
    ((∃ sub d, s.frame.carriage = .traverse sub d) → (declareBreak source s).binning.openTraverse = none) := by
  obtain ⟨_, _, _, e, dropped⟩ := parkRequest_abroad (s := s.declared source) h
  rw [declareBreak_parks parks, e]
  exact ⟨rfl, rfl, rfl, dropped⟩

/-! ### Which samples the break watch counts (R134, R135, R143, R146) -/

theorem detectorActive_iff_armed (s : State) : detectorActive s = true ↔
    (s.watch.state = .sheetOn ∨ s.watch.state = .threading) ∧ watched s := by
  simp [detectorActive, watched, isScanning_iff, or_assoc]

theorem runHeld_iff (s : State) : runHeld s = true ↔ s.watch.state = .sheetOn ∧ s.watch.heldRun ≠ none := by
  simp [runHeld, Option.isSome_iff_ne_none]

theorem sheetCounting_iff (s : State) : sheetCounting s = true ↔
    (s.watch.state = .sheetOff ∧ s.frame.carriage = .probing .dwelling) ∨
    (s.watch.state = .broken ∧ s.tables.sheet.mode = .report ∧
      ((∃ d, s.frame.carriage = .traverse .scanning d) ∨ s.frame.carriage = .fixed .dwelling)) := by
  simp [sheetCounting, isScanning_iff, and_assoc]

theorem passedOver_iff (x : Sample) (s : State) : passedOver x s = true ↔
    x.frame.reference = true ∨ ((∃ d, s.frame.carriage = .traverse .scanning d) ∧
      ∃ o, s.binning.openTraverse = some o ∧ (x.frame.position < (sheetRegion s.binning.lastGood o).front ∨
        (sheetRegion s.binning.lastGood o).back < x.frame.position)) := by
  rw [← isScanning_iff]
  cases ho : s.binning.openTraverse with
  | none => simp [passedOver, ho]
  | some o => simp [passedOver, ho]

/-- No sheet is looked for where a break can be declared. -/
theorem not_counting_of_sheetCounting (h : sheetCounting s = true) : (detectorActive s || runHeld s) = false := by
  obtain ⟨state, -⟩ | ⟨state, -⟩ := (sheetCounting_iff s).mp h <;> simp [detectorActive, runHeld, state]

/-- A gap clears the runs, and the sample is then taken as any other (R4). -/
theorem watchTakes_gap (gap : x.afterGap = true) : watchTakes x s = watchTakes { x with afterGap := false }
    { s with watch := { s.watch with
      breakRun := 0, heldRun := s.watch.heldRun.map (fun _ => 0), sheetRun := 0 } } := by
  unfold watchTakes gapResetRuns
  rw [if_pos gap, if_neg Bool.false_ne_true]
  rfl

theorem watchTakes_whole (whole : x.afterGap = false) : watchTakes x s =
    if passedOver x s then s else if detectorActive s || runHeld s then detect x.tr s
    else if sheetCounting s then lookForSheet x.tr s else s := by
  have same : gapResetRuns x s = s := if_neg (by simp [whole])
  unfold watchTakes
  rw [same]

theorem watchTakes_passed (whole : x.afterGap = false) (h : passedOver x s = true) : watchTakes x s = s := by
  rw [watchTakes_whole whole, if_pos h]

theorem watchTakes_detects (whole : x.afterGap = false) (seen : ¬ passedOver x s = true)
    (h : detectorActive s = true ∨ runHeld s = true) : watchTakes x s = detect x.tr s := by
  rw [watchTakes_whole whole, if_neg seen, if_pos (by simpa using h)]

theorem watchTakes_looks (whole : x.afterGap = false) (seen : ¬ passedOver x s = true) (h : sheetCounting s = true) :
    watchTakes x s = lookForSheet x.tr s := by
  rw [watchTakes_whole whole, if_neg seen, not_counting_of_sheetCounting h, if_neg Bool.false_ne_true, if_pos h]

/-- Where nothing is counted a sample changes nothing. -/
theorem watchTakes_rests (whole : x.afterGap = false) (active : ¬ detectorActive s = true) (held : ¬ runHeld s = true)
    (looking : ¬ sheetCounting s = true) : watchTakes x s = s := by
  simp [watchTakes_whole whole, active, held, looking]

/-- A sample whose TR has no value changes nothing. -/
theorem watchTakes_unusable (whole : x.afterGap = false) (h : x.tr.usable = none) : watchTakes x s = s := by
  have detects : detect x.tr s = s := by simp [detect, h]
  have looks : lookForSheet x.tr s = s := by simp [lookForSheet, h]
  rw [watchTakes_whole whole, detects, looks, ite_self, ite_self, ite_self]

/-! ### One TR value (R135, R143) -/

section
variable {tr : Conditioned} {v : Nat}

theorem detect_sheet (hv : tr.usable = some v) (sheet : v < s.tables.sheet.trBreak) :
    detect tr s = setBreakRun 0 s := by
  simp [detect, hv, Nat.not_le.mpr sheet]

/-- The standing run and one more make N_BREAK if the run counted does, or the run held (log 36). -/
theorem standingRun_reaches_iff (w : BreakWatch) (n : Nat) :
    n ≤ standingRun w + 1 ↔ n ≤ w.breakRun + 1 ∨ ∃ k, w.heldRun = some k ∧ n ≤ k + 1 := by
  cases held : w.heldRun with
  | none => simp [standingRun, held]
  | some k =>
    simp only [standingRun, held, Option.getD_some, Option.some.injEq, exists_eq_left']
    omega

theorem detect_counts (hv : tr.usable = some v) (broken : s.tables.sheet.trBreak ≤ v)
    (short : ¬ s.tables.sheet.nBreak ≤ standingRun s.watch + 1) :
    detect tr s = setBreakRun (if detectorActive s then s.watch.breakRun + 1 else 0) s := by
  simp only [detect, hv, if_pos broken, if_neg short]

theorem detect_declares (hv : tr.usable = some v) (broken : s.tables.sheet.trBreak ≤ v)
    (full : s.tables.sheet.nBreak ≤ standingRun s.watch + 1) : detect tr s = declareBreak .gauge s := by
  simp only [detect, hv, if_pos broken, if_pos full, declareBreak_setBreakRun]

theorem lookForSheet_broken (hv : tr.usable = some v) (broken : s.tables.sheet.trBreak ≤ v) :
    lookForSheet tr s = setSheetRun 0 s := by
  simp [lookForSheet, hv, Nat.not_lt.mpr broken]

theorem lookForSheet_counts (hv : tr.usable = some v) (sheet : v < s.tables.sheet.trBreak)
    (short : s.watch.sheetRun + 1 < s.tables.sheet.nBreak) :
    lookForSheet tr s = setSheetRun (s.watch.sheetRun + 1) s := by
  simp only [lookForSheet, hv, if_pos sheet, if_neg (Nat.not_le.mpr short)]

theorem lookForSheet_sees (hv : tr.usable = some v) (sheet : v < s.tables.sheet.trBreak)
    (full : s.tables.sheet.nBreak ≤ s.watch.sheetRun + 1) : lookForSheet tr s = enterThreading s := by
  simp only [lookForSheet, hv, if_pos sheet, if_pos full]

end

/-! ### BREAK taken by the condition unit (R166) -/

/-- BREAK's own block is the break watch, so its alarm has the break state as at the raise (R166). -/
theorem seen_sheetBreak (pick : Nat → Nat) (s : State) {r : Raising} (h : r.condition = .sheetBreak) :
    r.seen pick s = { r.alarm with
      carriage := (r.moment s (pick 0)).carriage, position := (r.moment s (pick 0)).position } := by
  simp only [Raising.seen, h]

/-- The one raising of a step that declares a break: its alarm shows BREAK, and the carriage as at the raise or as at
the end of the step (log 7). -/
theorem settle_breakRaised {a : AlarmFrame} {c : ConditionUnit} (condition : a.condition = .sheetBreak)
    (raised : u.conditions = { c with raised := c.raised ++ [⟨a, []⟩] }) (quiet : c.raised = [])
    (position : u.frame.lastPosition = a.position) :
    ∃ b, (b = a ∨ b = { a with carriage := u.frame.carriage.kind }) ∧
      settle u = { u with conditions := c.take b, choices := u.choices + 1 } := by
  have one : u.conditions.raised = [⟨a, []⟩] := by simp [raised, quiet]
  have same : { u.conditions with raised := [] } = c := by rw [raised, ← quiet]
  obtain ⟨l, pick, perm, e⟩ := settle_takes u
  rw [one] at perm
  rw [List.perm_singleton.mp perm, same] at e
  have counted : (settle u).choices = u.choices + 1 := by simp [settle, settleWith, one]
  refine ⟨Raising.seen (pick (Raising.condition ⟨a, []⟩)) u ⟨a, []⟩, ?_, by rw [settle_eq, e, counted]; rfl⟩
  have shows (v : View) (h : v ∈ Raising.moments u ⟨a, []⟩) :
      v.position = a.position ∧ (v.carriage = a.carriage ∨ v.carriage = u.frame.carriage.kind) := by
    obtain rfl | rfl : v = ⟨a.carriage, a.position, a.breakState⟩ ∨ v = viewNow u := by simpa [Raising.moments] using h
    · exact ⟨rfl, .inl rfl⟩
    · exact ⟨position, .inr rfl⟩
  obtain ⟨seenAt, carriage⟩ := shows _ (moment_mem u (pick (Raising.condition ⟨a, []⟩) 0) ⟨a, []⟩)
  rw [seen_sheetBreak _ u (r := ⟨a, []⟩) condition, seenAt]
  exact carriage.imp (fun h => by rw [h]) (fun h => by rw [h])

/-- Where the carriage stays, the alarm is the one raised. -/
theorem settle_breakRaised_still {a : AlarmFrame} {c : ConditionUnit} (condition : a.condition = .sheetBreak)
    (raised : u.conditions = { c with raised := c.raised ++ [⟨a, []⟩] }) (quiet : c.raised = [])
    (position : u.frame.lastPosition = a.position) (carriage : u.frame.carriage.kind = a.carriage) :
    settle u = { u with conditions := c.take a, choices := u.choices + 1 } := by
  obtain ⟨b, own, e⟩ := settle_breakRaised condition raised quiet position
  rw [carriage] at own
  rw [e, own.elim id id]

/-! ### The mill computer's notices (R136) -/

theorem breakNotice_armed (h : s.watch.state = .sheetOn ∨ s.watch.state = .threading) :
    breakNotice s = declareBreak .mill s := by
  rcases h with h | h <;> simp [breakNotice, h]

theorem breakNotice_broken (h : s.watch.state = .broken ∨ s.watch.state = .sheetOff) : breakNotice s = s := by
  rcases h with h | h <;> simp [breakNotice, h]

theorem restoredNotice_broken (h : s.watch.state = .broken ∨ s.watch.state = .sheetOff) :
    restoredNotice s = enterThreading s := by
  rcases h with h | h <;> simp [restoredNotice, h]

theorem restoredNotice_armed (h : s.watch.state = .sheetOn ∨ s.watch.state = .threading) : restoredNotice s = s := by
  rcases h with h | h <;> simp [restoredNotice, h]

theorem sheetNotice_unknown {n : Nat} (h : 2 ≤ n) : sheetNotice n s = refuse .badArgument s := by
  match n, h with
  | n + 2, _ => rfl

section
variable {f : CommandFrame} {rest : List CommandFrame}

theorem sheetNotice_served (hand : AtHand f rest s) (hcode : f.code = 0x14#8) {b : Byte} (hargs : f.args = [b]) :
    exec .sheetNotice s = .next (settle (respond f (sheetNotice b.toNat (s.taken f rest)))) :=
  congrArg (fun u => Host.Outcome.next (settle u))
    (serve_owner hand (by simp [rowOf, hcode]) (by rw [hargs]; rfl) (.inl rfl))

/-- A BREAK notice that declares a break, before the condition unit takes the raising. -/
theorem sheetNotice_declares (hand : AtHand f rest s) (hcode : f.code = 0x14#8) (hargs : f.args = [0#8])
    (armed : s.watch.state = .sheetOn ∨ s.watch.state = .threading) :
    exec .sheetNotice s = .next (settle (respond f (accept (declareBreak .mill (s.taken f rest))))) := by
  rw [sheetNotice_served hand hcode hargs, ← breakNotice_armed (s := s.taken f rest) armed]
  rfl

/-- A BREAK notice that leaves the carriage where it is: the condition unit takes the alarm as it was raised. -/
theorem sheetNotice_stays (hand : AtHand f rest s) (hcode : f.code = 0x14#8) (hargs : f.args = [0#8])
    (quiet : s.conditions.raised = []) (armed : s.watch.state = .sheetOn ∨ s.watch.state = .threading)
    (e : declareBreak .mill (s.taken f rest) = t)
    (conditions : t.conditions = { s.conditions with raised := s.conditions.raised ++ [⟨s.breakAlarm, []⟩] })
    (position : t.frame.lastPosition = s.frame.lastPosition)
    (carriage : t.frame.carriage.kind = s.frame.carriage.kind) :
    exec .sheetNotice s = .next { respond f (accept t) with
      conditions := s.conditions.take s.breakAlarm, choices := t.choices + 1 } := by
  rw [sheetNotice_declares hand hcode hargs armed, e]
  exact congrArg Host.Outcome.next
    (settle_breakRaised_still (u := respond f (accept t)) rfl conditions quiet position carriage)

/-- A notice that raises nothing is answered as its rule says. -/
theorem sheetNotice_answers (hand : AtHand f rest s) (hcode : f.code = 0x14#8) {b : Byte} (hargs : f.args = [b])
    {st : Status} (quiet : t.conditions.raised = [])
    (e : sheetNotice b.toNat (s.taken f rest) = ⟨st, [], t.taken f rest⟩) :
    exec .sheetNotice s = .next (t.answered f rest st []) := by
  rw [sheetNotice_served hand hcode hargs, e]
  exact congrArg Host.Outcome.next (settle_nil (t.answered f rest st []) quiet)

/-- A BREAK notice that calls the carriage home, with `t` the state that its traverse was abandoned in, if
one was open. -/
theorem sheetNotice_calls_home (hand : AtHand f rest s) (hcode : f.code = 0x14#8) (hargs : f.args = [0#8])
    (armed : s.watch.state = .sheetOn ∨ s.watch.state = .threading) (parks : s.tables.sheet.mode ≠ .report)
    (home : parkRequest ((s.taken f rest).declared .mill) =
      (setScanOn false ((t.taken f rest).declared .mill)).moving .parking s.tables.frame.park 200)
    (quiet : t.conditions.raised = []) :
    ∃ a, (a = t.breakAlarm ∨ a = { t.breakAlarm with carriage := .parking }) ∧
      exec .sheetNotice s = .next (State.answered
        { State.moving { setScanOn false t with watch := t.watch.declared .mill, choices := t.choices + 1 }
            .parking s.tables.frame.park 200 with
          conditions := t.conditions.take a } f rest .ok []) := by
  rw [sheetNotice_declares hand hcode hargs armed, declareBreak_parks (s := s.taken f rest) parks, home]
  obtain ⟨a, own, e⟩ := settle_breakRaised (a := t.breakAlarm) (c := t.conditions)
    (u := respond f (accept
      ((setScanOn false ((t.taken f rest).declared .mill)).moving .parking s.tables.frame.park 200)))
    rfl rfl quiet rfl
  exact ⟨a, own, congrArg Host.Outcome.next e⟩

/-- The park request of a notice in an open traverse, which it abandons. -/
theorem parkRequest_declared_open {sub : TraverseSub} {d : Direction} (traverse : s.frame.carriage = .traverse sub d)
    {o : OpenTraverse} (ho : s.binning.openTraverse = some o) : parkRequest ((s.taken f rest).declared source) =
      (setScanOn false (((abandonTraverse .brk s).taken f rest).declared source)).moving .parking
        s.tables.frame.park 200 := by
  rw [parkRequest_traverse (s := (s.taken f rest).declared source) traverse,
    abandonTraverse_open (s := setScanOn false ((s.taken f rest).declared source)) .brk ho,
    abandonTraverse_open .brk ho]
  rfl

end

/-- Settles O50: a sample by what the break watch counts, and a notice by break state, break mode and carriage state. -/
theorem breaksAreDeclaredAndTheSheetIsSeen : Obligations.BreaksAreDeclaredAndTheSheetIsSeen := by
  unfold Obligations.BreaksAreDeclaredAndTheSheetIsSeen
  refine ⟨fun x s => ?_, fun f rest s hand quiet hcode => ?_⟩
  · intro scanning active looking passed held t
    have active_iff : detectorActive s = true ↔ active := detectorActive_iff_armed s
    have held_iff : runHeld s = true ↔ held := runHeld_iff s
    have looking_iff : sheetCounting s = true ↔ looking := sheetCounting_iff s
    have passed_iff : passedOver x s = true ↔ passed := passedOver_iff x s
    refine ⟨watchTakes_gap, fun whole still => ?_, fun whole counted seen => ?_, fun whole look seen => ?_⟩
    · obtain pass | ⟨off, unheld, blind⟩ | unusable := still
      · exact watchTakes_passed whole (passed_iff.mpr pass)
      · exact watchTakes_rests whole (by rwa [active_iff]) (by rwa [held_iff]) (by rwa [looking_iff])
      · exact watchTakes_unusable whole unusable
    · have taken : t = detect x.tr s := watchTakes_detects whole (by rwa [passed_iff]) (by rwa [active_iff, held_iff])
      rw [taken]
      refine ⟨fun v hv sheet => detect_sheet hv sheet, fun v hv broken short unheld => ?_, fun v hv broken full => ?_⟩
      · have below : ¬ s.tables.sheet.nBreak ≤ standingRun s.watch + 1 := by
          rw [standingRun_reaches_iff]
          rintro (full | ⟨k, hk, full⟩)
          · omega
          · exact absurd full (Nat.not_le.mpr (unheld k hk))
        rw [detect_counts hv broken below]
        refine ⟨fun on => ?_, fun off => ?_⟩
        · rw [if_pos (active_iff.mpr on)]
          rfl
        · rw [if_neg (by rwa [active_iff])]
          rfl
      · rw [detect_declares hv broken ((standingRun_reaches_iff _ _).mpr full)]
        refine ⟨fun away => declareBreak_watch ?_, fun off parked parks => ?_, declareBreak_raised _ _,
          fun report => ?_, fun parks on => ?_, fun parks parking => ?_⟩
        · obtain on | away | report := away
          · exact .inl fun parked => not_watched_of_parked parked on.2
          · exact .inl away
          · exact .inr report
        · rw [declareBreak_parks parks, parkRequest_declared_parked parks parked]
          rfl
        · rw [declareBreak_report report]
          exact ⟨rfl, rfl, rfl⟩
        · obtain ⟨carriage, scanOn, port, dropped⟩ :=
            declareBreak_abroad (source := .gauge) parks (isAbroad_of_watched on.2)
          exact ⟨carriage, scanOn, port, fun ⟨d, h⟩ => dropped ⟨_, d, h⟩⟩
        · rw [declareBreak_parks parks, parkRequest_onTheWay (s := s.declared .gauge) (.inl parking)]
          exact ⟨rfl, rfl⟩
    · have taken : t = lookForSheet x.tr s := watchTakes_looks whole (by rwa [passed_iff]) (looking_iff.mpr look)
      rw [taken]
      exact ⟨fun v hv broken => lookForSheet_broken hv broken,
        fun v hv sheet short => lookForSheet_counts hv sheet short,
        fun v hv sheet full => lookForSheet_sees hv sheet full⟩
  · refine ⟨fun hargs armed => ?_, fun hargs down => ?_, fun idle => ?_, fun b hargs beyond => ?_⟩
    · intro alarm broken declared stopped
      refine ⟨fun report => ?_, fun parks => ⟨fun absent => ?_, fun onTheWay => ?_, fun parked => ?_, fun abroad => ?_⟩⟩
      · exact (sheetNotice_stays hand hcode hargs quiet armed (declareBreak_report (s := s.taken f rest) report)
          rfl rfl rfl).trans rfl
      · have e := (declareBreak_parks (source := .mill) (s := s.taken f rest) parks).trans
          (parkRequest_absent (s := (s.taken f rest).declared .mill) absent)
        exact (sheetNotice_stays hand hcode hargs quiet armed e rfl rfl rfl).trans rfl
      · have e := (declareBreak_parks (source := .mill) (s := s.taken f rest) parks).trans
          (parkRequest_onTheWay (s := (s.taken f rest).declared .mill) onTheWay)
        exact (sheetNotice_stays hand hcode hargs quiet armed e rfl rfl rfl).trans rfl
      · have e := (declareBreak_parks (source := .mill) (s := s.taken f rest) parks).trans
          (parkRequest_declared_parked (s := s.taken f rest) parks parked)
        exact (sheetNotice_stays hand hcode hargs quiet armed e rfl rfl rfl).trans rfl
      · by_cases closed : s.binning.openTraverse = none ∨ ¬ ∃ sub d, s.frame.carriage = .traverse sub d
        · obtain ⟨a, own, e⟩ := sheetNotice_calls_home hand hcode hargs armed parks (t := s)
            (parkRequest_abroad_closed (s := (s.taken f rest).declared .mill) abroad closed) quiet
          refine ⟨a, own, fun _ => e, fun o sub d ho traverse => ?_⟩
          exact absurd closed (by simp [ho, traverse])
        · obtain ⟨opened, sub, d, traverse⟩ := not_or.mp closed |>.imp_right not_not.mp
          obtain ⟨o, ho⟩ := Option.ne_none_iff_exists'.mp opened
          obtain ⟨a, own, e⟩ := sheetNotice_calls_home hand hcode hargs armed parks (t := abandonTraverse .brk s)
            (parkRequest_declared_open traverse ho) (by rw [abandonTraverse_raised, quiet])
          rw [abandonTraverse_open .brk ho] at own e
          refine ⟨a, own, fun h => absurd h closed, fun o' _ _ ho' _ => ?_⟩
          cases ho.symm.trans ho'
          exact e
    · exact (sheetNotice_answers (t := enterThreading s) hand hcode hargs quiet
        (congrArg accept (restoredNotice_broken (s := s.taken f rest) down))).trans rfl
    · obtain ⟨hargs, down⟩ | ⟨hargs, up⟩ := idle
      · exact sheetNotice_answers hand hcode hargs quiet
          (congrArg accept (breakNotice_broken (s := s.taken f rest) down))
      · exact sheetNotice_answers hand hcode hargs quiet
          (congrArg accept (restoredNotice_armed (s := s.taken f rest) up))
    · exact sheetNotice_answers hand hcode hargs quiet (sheetNotice_unknown beyond)

end Sys2Proof.Machine

/-! ## PUSH_CONTEXT and FLUSH_QUEUE (O57) -/

namespace Sys2Proof.Machine

variable {s : State} {f : CommandFrame} {rest : List CommandFrame} {c : Context} {a : ContextArgs} {t : Tables}

/-! ### A context in its bytes (table 11-10) -/

/-- The code of a profile action in a context record. -/
def ProfileAction.code : ProfileAction → Nat
  | .keep => 0
  | .clear => 1
  | .restore _ => 2

/-- The slot that a context record carries with its profile action. -/
def ProfileAction.slot : ProfileAction → Option Nat
  | .restore k => some k
  | .keep | .clear => none

/-- The fields of a context as its bytes carry them. -/
def Context.args (c : Context) : ContextArgs :=
  ⟨c.tag, c.map.code, c.front, c.back, c.speed, c.nmin, c.weight, c.staleLimit, c.quorum, c.edgeWidth, c.interval,
    bit c.tracking.isSome, c.action.code, c.tracking, c.action.slot⟩

/-- Every field of a context fits its place in a record, and those that R114 does not clamp lie in their ranges. -/
structure Context.InRange (c : Context) : Prop where
  tag : c.tag ≤ 65535
  front : c.front ≤ 65535
  back : c.back ≤ 65535
  speed : c.speed ≤ 65535
  nmin : 1 ≤ c.nmin ∧ c.nmin ≤ 15
  weight : 1 ≤ c.weight ∧ c.weight ≤ 256
  staleLimit : 1 ≤ c.staleLimit ∧ c.staleLimit ≤ 15
  quorum : 10 ≤ c.quorum ∧ c.quorum ≤ 100
  edgeWidth : c.edgeWidth ≤ 16
  interval : c.interval ≤ 255
  margin : ∀ g, c.tracking = some g → g ≤ 2000
  slot : ∀ k, c.action = .restore k → k ≤ 3

/-- The margin and the slot at the end of a record are read back. -/
theorem contextTail_bytes {tracking : Option Nat} {action : ProfileAction} (margin : ∀ g, tracking = some g → g ≤ 2000)
    (slot : ∀ k, action = .restore k → k ≤ 3) :
    contextTail (bitByte tracking.isSome) (byte action.code)
      (tracking.elim [] be16 ++ action.slot.elim [] fun k => [byte k]) = some (tracking, action.slot) := by
  have word (g : Nat) (h : tracking = some g) : u16 (byte (g / 256)) (byte g) = g :=
    u16_be16 g (by have := margin g h; omega)
  have number (k : Nat) (h : action = .restore k) : (byte k).toNat = k :=
    toNat_byte_of_le (by have := slot k h; omega)
  cases tracking with
  | none =>
    cases action with
    | keep | clear => rfl
    | restore k => exact congrArg (fun n => some (none, some n)) (number k rfl)
  | some g =>
    cases action with
    | keep | clear => exact congrArg (fun n => some (some n, none)) (word g rfl)
    | restore k => exact congrArg₂ (fun n m => some (some n, some m)) (word g rfl) (number k rfl)

/-- The bytes of a context: the fixed fields one by one, then the margin and the slot that it carries. -/
theorem Context.bytes_eq (c : Context) : c.bytes =
    byte (c.tag / 256) :: byte c.tag :: byte c.map.code :: byte (c.front / 256) :: byte c.front ::
      byte (c.back / 256) :: byte c.back :: byte (c.speed / 256) :: byte c.speed :: byte c.nmin ::
      byte (c.weight / 256) :: byte c.weight :: byte c.staleLimit :: byte c.quorum :: byte c.edgeWidth ::
      byte c.interval :: bitByte c.tracking.isSome :: byte c.action.code ::
      (c.tracking.elim [] be16 ++ c.action.slot.elim [] fun k => [byte k]) := by
  unfold Context.bytes
  cases c.tracking <;> cases c.action <;> rfl

theorem contextArgs_bytes (h : c.InRange) : contextArgs c.bytes = some c.args := by
  obtain ⟨tag, front, back, speed, ⟨-, nmin⟩, ⟨-, weight⟩, ⟨-, staleLimit⟩, ⟨-, quorum⟩, edgeWidth, interval, margin,
    slot⟩ := h
  have letter : (byte c.map.code).toNat = c.map.code := by cases c.map <;> rfl
  have tracking : (bitByte c.tracking.isSome).toNat = bit c.tracking.isSome := by cases c.tracking <;> rfl
  have action : (byte c.action.code).toNat = c.action.code := by cases c.action <;> rfl
  rw [Context.bytes_eq, contextArgs, contextTail_bytes margin slot, Option.map_some, u16_be16 _ tag, u16_be16 _ front,
    u16_be16 _ back, u16_be16 _ speed, u16_be16 _ (by omega : c.weight ≤ 65535), letter, tracking, action,
    toNat_byte_of_le (by omega : c.nmin ≤ 255), toNat_byte_of_le (by omega : c.staleLimit ≤ 255),
    toNat_byte_of_le (by omega : c.quorum ≤ 255), toNat_byte_of_le (by omega : c.edgeWidth ≤ 255),
    toNat_byte_of_le interval]
  rfl

/-- A margin stands first after the fixed fields, a slot after the margin. -/
theorem contextTail_fields {tracking action : Byte} {tail : List Byte} {m k : Option Nat}
    (h : contextTail tracking action tail = some (m, k)) :
    (tracking.toNat = 1 → m = some (wordAt tail 0)) ∧
    (action.toNat = 2 → k = some (byteAt tail (if tracking.toNat = 1 then 2 else 0))) := by
  have one : tracking.toNat = 1 ↔ tracking = 1#8 := BitVec.toNat_inj (y := 1#8)
  have two : action.toNat = 2 ↔ action = 2#8 := BitVec.toNat_inj (y := 2#8)
  simp only [one, two]
  unfold contextTail at h
  split at h
  all_goals simp only [Option.ite_none_right_eq_some, Option.some.injEq, Prod.mk.injEq, reduceCtorEq] at h
  all_goals obtain ⟨⟨tracks, restores⟩, rfl, rfl⟩ := h
  all_goals simp [tracks, restores, u16_eq_add, wordAt, byteAt]

/-- A context record by the places of the fields that R114 restricts. -/
theorem contextArgs_fields (h : contextArgs f.args = some a) :
    a.map = argByte f 2 ∧ a.front = argWord f 3 ∧ a.back = argWord f 5 ∧ a.nmin = argByte f 9 ∧
    a.weight = argWord f 10 ∧ a.staleLimit = argByte f 12 ∧ a.quorum = argByte f 13 ∧ a.edgeWidth = argByte f 14 ∧
    a.tracking = argByte f 16 ∧ a.action = argByte f 17 ∧
    (a.tracking = 1 → a.margin = some (argWord f 18)) ∧
    (a.action = 2 → a.slot = some (argByte f (if a.tracking = 1 then 20 else 18))) := by
  obtain ⟨sequence, code, args⟩ := f
  have word := u16_eq_wordAt args
  unfold contextArgs at h
  dsimp only at h
  split at h
  · simp only [Option.map_eq_some_iff, Prod.exists] at h
    obtain ⟨m, k, tail, rfl⟩ := h
    obtain ⟨margin, slot⟩ := contextTail_fields tail
    refine ⟨rfl, word 3, word 5, rfl, word 10, rfl, rfl, rfl, rfl, rfl, margin, fun two => ?_⟩
    rw [slot two]
    split <;> rfl
  · exact nomatch h

/-! ### What R114 admits -/

/-- The context with speed and limits clamped (R114 step 2). -/
def Context.clamped (c : Context) : Context :=
  { c with
    front := min c.front 32767, back := min c.back 32767
    speed := if c.speed < 50 then 50 else if 1000 < c.speed then 1000 else c.speed }

theorem clampSpeed_eq (v : Nat) : clampSpeed v = if v < 50 then 50 else if 1000 < v then 1000 else v := by
  unfold clampSpeed
  split
  · omega
  · split <;> omega

theorem validTracking_args {tracking : Option Nat} (margin : ∀ g, tracking = some g → g ≤ 2000) :
    validTracking (bit tracking.isSome) tracking = some tracking := by
  cases tracking with
  | none => rfl
  | some g => exact if_pos (margin g rfl)

theorem validAction_args {action : ProfileAction} (slot : ∀ k, action = .restore k → k ≤ 3) :
    validAction action.code action.slot = some action := by
  cases action with
  | keep | clear => rfl
  | restore k => exact if_pos (slot k rfl)

/-- A record in its ranges with a loaded map is taken, as clamped, when the clamped limits are in order. -/
theorem validContext_args (h : c.InRange) (loaded : mapLoaded t c = true) :
    validContext t c.args = if c.clamped.front < c.clamped.back then some c.clamped else none := by
  obtain ⟨-, -, -, -, nmin, weight, staleLimit, quorum, edgeWidth, interval, margin, slot⟩ := h
  have letter : mapLetterOf c.args.map = some c.map := mapLetterOf_code c.map
  have tracking : validTracking c.args.tracking c.args.margin = some c.tracking := validTracking_args margin
  have action : validAction c.args.action c.args.slot = some c.action := validAction_args slot
  have loaded : (t.map c.map).isSome = true := loaded
  unfold validContext
  rw [letter, tracking, action]
  simp only [Context.args, Context.clamped, clampSpeed_eq, loaded, (between_iff _ _ _).mpr nmin,
    (between_iff _ _ _).mpr weight, (between_iff _ _ _).mpr staleLimit, (between_iff _ _ _).mpr quorum, edgeWidth,
    interval, decide_true, Bool.and_true, Bool.true_and]
  exact if_congr decide_eq_true_iff rfl rfl

theorem validTracking_ranges {n : Nat} {margin taken : Option Nat} (h : validTracking n margin = some taken) :
    n ≤ 1 ∧ (n = 1 → ∀ g, margin = some g → g ≤ 2000) := by
  unfold validTracking at h
  split at h
  · exact ⟨by omega, by omega⟩
  · split at h
    · rename_i within
      refine ⟨le_refl 1, fun _ g hg => ?_⟩
      obtain rfl := Option.some.inj hg
      exact within
    · exact nomatch h
  · exact nomatch h

theorem validAction_ranges {n : Nat} {slot : Option Nat} {taken : ProfileAction} (h : validAction n slot = some taken) :
    n ≤ 2 ∧ (n = 2 → ∀ k, slot = some k → k ≤ 3) := by
  unfold validAction at h
  split at h
  · exact ⟨by omega, by omega⟩
  · exact ⟨by omega, by omega⟩
  · split at h
    · rename_i within
      refine ⟨le_refl 2, fun _ k hk => ?_⟩
      obtain rfl := Option.some.inj hk
      exact within
    · exact nomatch h
  · exact nomatch h

/-- What R114 asks of a record. -/
theorem validContext_ranges (h : validContext t a = some c) :
    (∃ l : MapLetter, mapLetterOf a.map = some l ∧ t.map l ≠ none) ∧ min a.front 32767 < min a.back 32767 ∧
    (1 ≤ a.nmin ∧ a.nmin ≤ 15) ∧ (1 ≤ a.weight ∧ a.weight ≤ 256) ∧ (1 ≤ a.staleLimit ∧ a.staleLimit ≤ 15) ∧
    (10 ≤ a.quorum ∧ a.quorum ≤ 100) ∧ a.edgeWidth ≤ 16 ∧
    (a.tracking ≤ 1 ∧ (a.tracking = 1 → ∀ g, a.margin = some g → g ≤ 2000)) ∧
    (a.action ≤ 2 ∧ (a.action = 2 → ∀ k, a.slot = some k → k ≤ 3)) := by
  unfold validContext at h
  split at h
  · rename_i l tracking action letter tracks acts
    dsimp only at h
    split at h
    · rename_i passes
      simp only [Bool.and_eq_true, decide_eq_true_eq, between_iff, Option.isSome_iff_ne_none] at passes
      obtain ⟨⟨⟨⟨⟨⟨⟨loaded, ordered⟩, nmin⟩, weight⟩, staleLimit⟩, quorum⟩, edgeWidth⟩, -⟩ := passes
      exact ⟨⟨l, letter, loaded⟩, ordered, nmin, weight, staleLimit, quorum, edgeWidth, validTracking_ranges tracks,
        validAction_ranges acts⟩
    · exact nomatch h
  · exact nomatch h

theorem mapLetterOf_eq_some {n : Nat} {l : MapLetter} (h : mapLetterOf n = some l) : l.code = n := by
  match n, h with
  | 0, h | 1, h => obtain rfl := Option.some.inj h; rfl

/-! ### The owners of the two commands (R114 to R116) -/

theorem pushContext_bad (h : validContext s.tables a = none) : pushContext a s = refuse .badArgument s := by
  rw [pushContext, h]

theorem pushContext_taken (h : validContext s.tables a = some c) (room : s.contexts.queue.length < 4) :
    pushContext a s = accept { s with contexts := { s.contexts with queue := s.contexts.queue ++ [c] } } := by
  rw [pushContext, h]
  exact if_neg (Nat.not_le.mpr room)

theorem pushContext_full (h : validContext s.tables a = some c) (full : 4 ≤ s.contexts.queue.length) :
    pushContext a s = refuse .queueFull (raise .queueOverflow s) := by
  rw [pushContext, h]
  exact if_pos full

theorem flushQueue_refused (contextless : s.contexts.inEffect = none) (scanning : s.frame.scanOn = true) :
    flushQueue () s = refuse .refusedState s := if_pos ⟨contextless, scanning⟩

theorem flushQueue_taken (h : s.contexts.inEffect ≠ none ∨ s.frame.scanOn = false) :
    flushQueue () s = accept { s with contexts := ⟨[], s.contexts.inEffect⟩ } := by
  refine if_neg fun ⟨contextless, scanning⟩ => ?_
  obtain context | still := h
  · exact context contextless
  · exact Bool.false_ne_true (still.symm.trans scanning)

/-! ### The two commands -/

section
variable (hand : AtHand f rest s) (quiet : s.conditions.summary = false)
include hand quiet

theorem flushQueue_served (hcode : f.code = 0x06#8) (hargs : f.args = []) :
    exec .flushQueue s = .next (respond f (flushQueue () (s.taken f rest))) :=
  congrArg Host.Outcome.next (serve_noArgs _ hand (by simp [rowOf, hcode]) hargs (.inr quiet))

variable (hcode : f.code = 0x05#8) (parsed : contextArgs f.args = some a)
include hcode parsed

theorem pushContext_served :
    exec .pushContext s = .next (settle (respond f (pushContext a (s.taken f rest)))) :=
  congrArg (fun u => Host.Outcome.next (settle u)) (serve_owner hand (by simp [rowOf, hcode]) parsed (.inr quiet))

variable (unraised : s.conditions.raised = [])
include unraised

theorem execPushContext_bad (h : validContext s.tables a = none) :
    exec .pushContext s = .next (s.answered f rest .badArgument []) := by
  rw [pushContext_served hand quiet hcode parsed, pushContext_bad (s := s.taken f rest) h, respond_refuse,
    settle_nil (s.answered f rest .badArgument []) unraised]

theorem execPushContext_taken (h : validContext s.tables a = some c) (room : s.contexts.queue.length < 4) :
    exec .pushContext s = .next (State.answered { s with
      contexts := { s.contexts with queue := s.contexts.queue ++ [c] } } f rest .ok []) := by
  rw [pushContext_served hand quiet hcode parsed, pushContext_taken (s := s.taken f rest) h room]
  exact congrArg Host.Outcome.next (settle_nil _ unraised)

/-- At a full queue the one raising of the step is the overflow, which the condition unit takes as it was made. -/
theorem execPushContext_full (h : validContext s.tables a = some c) (full : 4 ≤ s.contexts.queue.length) :
    exec .pushContext s = .next (State.answered { s with
      conditions := s.conditions.take (alarmNow .queueOverflow s), choices := s.choices + 1 }
      f rest .queueFull []) := by
  rw [pushContext_served hand quiet hcode parsed, pushContext_full (s := s.taken f rest) h full]
  exact congrArg Host.Outcome.next (settle_raise (s := s.answered f rest .queueFull []) .queueOverflow unraised)

end

/-- Settles O57: a context record in its ranges, one out of them, and the queue flushed. -/
theorem contextsArePushedAndFlushed : Obligations.ContextsArePushedAndFlushed := by
  unfold Obligations.ContextsArePushedAndFlushed
  intro f rest s hand quiet unraised
  refine ⟨fun hcode c hargs loaded tag front back speed nmin1 nmin2 weight1 weight2 stale1 stale2 quorum1 quorum2
      edgeWidth interval margin slot => ?_, fun hcode formed => ?_, fun hcode hargs => ⟨fun contextless scanning => ?_,
    fun free => ?_⟩⟩
  · have fits : c.InRange := ⟨tag, front, back, speed, ⟨nmin1, nmin2⟩, ⟨weight1, weight2⟩, ⟨stale1, stale2⟩,
      ⟨quorum1, quorum2⟩, edgeWidth, interval, margin, slot⟩
    have parsed : contextArgs f.args = some c.args := hargs ▸ contextArgs_bytes fits
    have checked := validContext_args fits loaded
    refine ⟨fun ordered room => ?_, fun ordered full => ?_, fun crossed => ?_⟩
    · exact execPushContext_taken hand quiet hcode parsed unraised (checked.trans (if_pos ordered)) room
    · exact execPushContext_full hand quiet hcode parsed unraised (checked.trans (if_pos ordered)) full
    · exact execPushContext_bad hand quiet hcode parsed unraised (checked.trans (if_neg (Nat.not_lt.mpr crossed)))
  · intro arg word bad
    obtain ⟨a, parsed⟩ := Option.isSome_iff_exists.mp formed
    obtain ⟨map, front, back, nmin, weight, staleLimit, quorum, edgeWidth, tracking, action, margin, slot⟩ :=
      contextArgs_fields parsed
    refine execPushContext_bad hand quiet hcode parsed unraised
      (Option.eq_none_iff_forall_ne_some.mpr fun c taken => ?_)
    obtain ⟨⟨l, letter, loaded⟩, ordered, nminIn, weightIn, staleIn, quorumIn, widthIn, ⟨tracks, within⟩, acts, known⟩ :=
      validContext_ranges taken
    simp only [arg, word, ← map, ← front, ← back, ← nmin, ← weight, ← staleLimit, ← quorum, ← edgeWidth, ← tracking,
      ← action] at bad
    obtain absent | bad := bad
    · exact loaded (absent l (mapLetterOf_eq_some letter))
    · have marginIn (one : a.tracking = 1) := within one _ (margin one)
      have slotIn (two : a.action = 2) := known two _ (slot two)
      omega
  · rw [flushQueue_served hand quiet hcode hargs, flushQueue_refused (s := s.taken f rest) contextless scanning,
      respond_refuse]
  · rw [flushQueue_served hand quiet hcode hargs, flushQueue_taken (s := s.taken f rest) free]
    rfl

end Sys2Proof.Machine

/-! ## The break watch quiet where it counts nothing (O8) -/

namespace Sys2Proof.Machine

variable {s t : State}

/-! ### What the invariant reads of a state -/

/-- The break watch, and of the blocks it looks at only what `WatchQuiet` reads. -/
structure Watching where
  watch : BreakWatch
  carriage : Carriage
  mode : BreakMode

def State.watching (s : State) : Watching := ⟨s.watch, s.frame.carriage, s.tables.sheet.mode⟩

theorem WatchQuiet.of_eq (h : WatchQuiet s) (e : t.watching = s.watching) : WatchQuiet t := by
  have watch : t.watch = s.watch := congrArg Watching.watch e
  have carriage : t.frame.carriage = s.frame.carriage := congrArg Watching.carriage e
  have mode : t.tables.sheet.mode = s.tables.sheet.mode := congrArg Watching.mode e
  simp only [WatchQuiet, detectorActive, sheetCounting, watch, carriage, mode] at h ⊢
  exact h

/-- An operation whose result is known and leaves what the invariant reads. -/
theorem WatchQuiet.of_state {u : State} (h : WatchQuiet s) (e : t = u) (kept : u.watching = s.watching := by rfl) :
    WatchQuiet t := h.of_eq (e ▸ kept)

/-- What the invariant says of the break watch alone, whatever the carriage does. -/
structure BreakWatch.Coherent (w : BreakWatch) : Prop where
  held : w.heldRun.isSome = true → w.state = .sheetOn ∧ w.breakRun = 0
  holdOff : w.holdOff.isSome = (w.state == .threading)
  probes : (w.probe.isSome || w.dwell.isSome) = true → w.state = .sheetOff

theorem WatchQuiet.coherent (h : WatchQuiet s) : s.watch.Coherent :=
  have ⟨_, held, _, holdOff, probes⟩ := h
  ⟨fun runs => have ⟨on, zero, _⟩ := held runs; ⟨on, zero⟩, holdOff, probes⟩

/-- Outside SHEET_OFF no probe timer runs. -/
theorem BreakWatch.Coherent.no_probes {w : BreakWatch} (h : w.Coherent) (away : w.state ≠ .sheetOff) :
    (w.probe.isSome || w.dwell.isSome) = false := Bool.eq_false_iff.mpr fun running => away (h.probes running)

/-- Outside THREADING the hold-off timer is idle. -/
theorem BreakWatch.Coherent.no_holdOff {w : BreakWatch} (h : w.Coherent) (away : w.state ≠ .threading) :
    w.holdOff.isSome = false := h.holdOff.trans (by simpa using away)

/-- Outside SHEET_ON no run is held. -/
theorem BreakWatch.Coherent.no_heldRun {w : BreakWatch} (h : w.Coherent) (away : w.state ≠ .sheetOn) :
    ¬ w.heldRun.isSome = true := fun held => away (h.held held).1

/-- A break watch that counts no run is quiet wherever the carriage is. -/
theorem WatchQuiet.of_noRuns (runs : NoRuns s) (h : s.watch.Coherent) : WatchQuiet s :=
  ⟨fun _ => runs.breakRun, fun held => absurd held (by simp [runs.heldRun]), fun _ => runs.sheetRun, h.holdOff,
    h.probes⟩

/-- The run counts brought in line with carriage and break state are quiet. -/
theorem quietRuns_watchQuiet (h : s.watch.Coherent) : WatchQuiet (quietRuns s) := by
  have active : detectorActive (quietRuns s) = detectorActive s := rfl
  have looking : sheetCounting (quietRuns s) = sheetCounting s := rfl
  rw [WatchQuiet, active, looking]
  refine ⟨fun inactive => ?_, fun held => ?_, fun resting => ?_, h.holdOff, h.probes⟩
  · simp [inactive]
  · rw [quietRuns_watch] at held ⊢
    dsimp only at held ⊢
    split at held
    · rename_i counts
      obtain ⟨state, run⟩ := h.held held
      exact ⟨state, by simp [run], .inl counts⟩
    · exact absurd held (by simp)
  · simp [resting]

/-! ### Operations that the invariant does not see -/

section
variable (s : State)

@[simp] theorem abandonTraverse_watching (r : AbandonReason) : (abandonTraverse r s).watching = s.watching := by
  simp [State.watching]

@[simp] theorem closeTraverse_watching : (closeTraverse s).watching = s.watching := by
  cases ho : s.binning.openTraverse with
  | none => simp [closeTraverse, ho]
  | some o =>
    by_cases idle : s.closeOut.engine = .idle
    · rw [closeTraverse_idle s o ho idle]
      simp [State.watching]
    · rw [closeTraverse_busy s o ho idle, placeNotice_eq]
      rfl

@[simp] theorem abandonCollection_watching : (abandonCollection s).watching = s.watching := by simp [State.watching]

@[simp] theorem abortCollection_watching : (abortCollection s).watching = s.watching := by
  unfold abortCollection
  split
  · rfl
  · exact abandonCollection_watching s

@[simp] theorem raiseIf_watching (b : Bool) (c : Condition) : (raiseIf b c s).watching = s.watching := by
  simp [State.watching]

@[simp] theorem settle_watching : (settle s).watching = s.watching := by simp [State.watching]

@[simp] theorem takeAction_watching (a : PendingAction) : (takeAction a s).watching = s.watching := by
  simp [State.watching]

@[simp] theorem applyPending_watching : (applyPending s).watching = s.watching := by simp [State.watching]

@[simp] theorem notePosition_watching (p : Nat) : (notePosition p s).watching = s.watching := by simp [State.watching]

@[simp] theorem feedWindows_watching (x : Sample) : (feedWindows x s).watching = s.watching := by
  rw [feedWindows_eq]
  rfl

@[simp] theorem streamTakes_watching (x : Sample) : (streamTakes x s).watching = s.watching := by
  rw [streamTakes_eq]
  rfl

@[simp] theorem beforeConsumers_watching (f : SampleFrame) : (beforeConsumers f s).watching = s.watching := by
  rw [beforeConsumers, conditionerTakes_eq]
  simp [State.watching, delivered]

@[simp] theorem arbitrate_watching : (arbitrate s).watching = s.watching := by
  unfold arbitrate
  split <;> rfl

end

/-! ### Changes of carriage -/

theorem setCarriage_watchQuiet (c : Carriage) (h : s.watch.Coherent) : WatchQuiet (setCarriage c s) :=
  quietRuns_watchQuiet h

theorem goPark_watchQuiet (h : s.watch.Coherent) : WatchQuiet (goPark s) := setCarriage_watchQuiet _ h

theorem beginApproach_watchQuiet (h : s.watch.Coherent) : WatchQuiet (beginApproach s) := by
  unfold beginApproach
  split <;> exact setCarriage_watchQuiet _ h

theorem enterStandardizing_watchQuiet (h : s.watch.Coherent) : WatchQuiet (enterStandardizing s) :=
  (setCarriage_watchQuiet .standardizing h).of_eq rfl

theorem haltCarriage_watchQuiet (h : s.watch.Coherent) : WatchQuiet (haltCarriage s) := by
  have dropped : (abandonTraverse .halt s).watch.Coherent := by rwa [abandonTraverse_watch]
  exact setCarriage_watchQuiet _ dropped

theorem setRequest_watchQuiet (h : WatchQuiet s) : WatchQuiet (setRequest s) := by
  unfold setRequest
  dsimp only
  split
  · exact enterStandardizing_watchQuiet h.coherent
  · exact h

theorem checkDue_watchQuiet (h : WatchQuiet s) : WatchQuiet (checkDue s) := by
  unfold checkDue
  split
  · exact setRequest_watchQuiet h
  · exact h

theorem takeContext_watchQuiet (r : MapRecord) (h : WatchQuiet s) : WatchQuiet (takeContext r s) := by
  unfold takeContext
  split
  · exact h
  · rename_i c rest _
    have due : WatchQuiet (checkDue { s with contexts := ⟨rest, some c⟩ }) := checkDue_watchQuiet h
    exact due.of_eq (takeAction_watching _ _)

theorem openTraverse_watchQuiet (d : Direction) (h : WatchQuiet s) : WatchQuiet (openTraverse d s) := by
  unfold openTraverse
  split
  · exact goPark_watchQuiet h.coherent
  · split
    · exact goPark_watchQuiet h.coherent
    · exact setCarriage_watchQuiet _ (takeContext_watchQuiet _ h).coherent

theorem startScanning_watchQuiet (h : WatchQuiet s) : WatchQuiet (startScanning s) := by
  unfold startScanning
  dsimp only
  split
  · exact beginApproach_watchQuiet h.coherent
  · exact h

/-! ### Changes of break state -/

/-- The probe timers run in SHEET_OFF (R141, R142). -/
theorem startProbeTimer_watchQuiet (h : WatchQuiet s) (off : s.watch.state = .sheetOff) :
    WatchQuiet (startProbeTimer s) :=
  have ⟨breakRun, heldRun, sheetRun, holdOff, _⟩ := h
  ⟨breakRun, heldRun, sheetRun, holdOff, fun _ => off⟩

theorem enterSheetOff_watchQuiet (h : s.watch.Coherent) (broken : s.watch.state = .broken) :
    WatchQuiet (enterSheetOff s) := by
  have unheld := h.no_heldRun (by simp [broken])
  have idle := h.no_holdOff (by simp [broken])
  exact quietRuns_watchQuiet ⟨fun held => absurd held unheld, idle, fun _ => rfl⟩

/-- THREADING starts with no run counted, the probe timers idle, and the hold-off timer running (R144). -/
theorem enterThreading_watchQuiet (s : State) : WatchQuiet (enterThreading s) :=
  .of_noRuns ⟨rfl, rfl, rfl⟩ ⟨nofun, rfl, nofun⟩

theorem watchArrival_watchQuiet (h : WatchQuiet s) : WatchQuiet (watchArrival s) := by
  cases hw : s.watch.state <;> simp only [watchArrival, hw]
  case broken =>
    split
    · exact enterSheetOff_watchQuiet h.coherent hw
    · exact h
  case sheetOff =>
    split
    · exact startProbeTimer_watchQuiet h hw
    · exact h
  case sheetOn | threading => exact h

theorem watchStandardizeEnd_watchQuiet (h : WatchQuiet s) : WatchQuiet (watchStandardizeEnd s) := by
  unfold watchStandardizeEnd
  split
  · exact enterSheetOff_watchQuiet h.coherent (And.left ‹_›)
  · exact h

theorem watchDwellStart_watchQuiet (h : WatchQuiet s) : WatchQuiet (watchDwellStart s) := by
  unfold watchDwellStart
  split
  · rename_i off
    obtain ⟨breakRun, heldRun, -, holdOff, -⟩ := h
    exact ⟨breakRun, heldRun, fun _ => rfl, holdOff, fun _ => off⟩
  all_goals exact h

theorem standardizeEnded_watchQuiet (h : s.watch.Coherent) : WatchQuiet (standardizeEnded s) := by
  refine watchStandardizeEnd_watchQuiet ?_
  split
  · exact beginApproach_watchQuiet h
  · exact setCarriage_watchQuiet _ h

theorem parkRequest_watchQuiet (h : WatchQuiet s) : WatchQuiet (parkRequest s) := by
  unfold parkRequest
  split
  case h_1 | h_2 | h_4 | h_5 => exact h
  case h_3 => exact watchArrival_watchQuiet (s := setScanOn false s) h
  case h_6 => exact goPark_watchQuiet (by simpa using h.coherent)
  case h_7 | h_8 => exact goPark_watchQuiet h.coherent

theorem parkRequest_sheetOff (off : s.watch.state = .sheetOff) : (parkRequest s).watch.state = .sheetOff := by
  unfold parkRequest
  split
  case h_3 =>
    obtain ⟨_, _, _, e⟩ := watchArrival_eq (setScanOn false s)
    rw [e]
    exact (if_neg (by simp [off])).trans off
  case h_6 => exact (congrArg BreakWatch.state (abandonTraverse_watch .brk (setScanOn false s))).trans off
  all_goals exact off

theorem probeRequest_watchQuiet (h : WatchQuiet s) (off : s.watch.state = .sheetOff) : WatchQuiet (probeRequest s) := by
  unfold probeRequest
  split
  · exact setCarriage_watchQuiet _ h.coherent
  · exact startProbeTimer_watchQuiet h off

/-- A declaration leaves no run, and finds no probe timer running where a break can be declared (R137). -/
theorem declareBreak_watchQuiet (source : BreakSource) (h : s.watch.Coherent)
    (armed : s.watch.state = .sheetOn ∨ s.watch.state = .threading) : WatchQuiet (declareBreak source s) := by
  have idle := h.no_probes (by obtain on | on := armed <;> simp [on])
  have declared : WatchQuiet (s.declared source) :=
    .of_noRuns ⟨rfl, rfl, rfl⟩ ⟨nofun, rfl, fun running => absurd (idle.symm.trans running) Bool.false_ne_true⟩
  rw [declareBreak_eq]
  split
  · exact parkRequest_watchQuiet declared
  · exact declared.of_eq rfl

/-! ### The end of a break (R147) -/

/-- The carriage stays where it was, or is sent home. -/
def StaysOrParks (s t : State) : Prop := t.frame.carriage = s.frame.carriage ∨ t.frame.carriage = .parking

section
variable (h : watched s) (ht : StaysOrParks s t)
include h ht

theorem StaysOrParks.not_parked : t.frame.carriage ≠ .parked := by
  intro parked
  obtain stays | parks := ht
  · exact not_watched_of_parked (stays.symm.trans parked) h
  · cases parked.symm.trans parks

theorem StaysOrParks.parkRequest : StaysOrParks s (Machine.parkRequest t) := by
  unfold Machine.parkRequest
  split
  case h_3 parked => exact absurd parked (ht.not_parked h)
  case h_1 | h_2 | h_4 | h_5 => exact ht
  all_goals exact .inr rfl

theorem StaysOrParks.setRequest : StaysOrParks s (Machine.setRequest t) := by
  rwa [setRequest_away (ht.not_parked h)]

theorem StaysOrParks.startRequest : StaysOrParks s (Machine.startRequest t) := by
  unfold Machine.startRequest
  split
  · rwa [startScanning_away (ht.not_parked h)]
  · exact ht

end

/-- The end of a break sends a carriage whose samples are counted home, if it moves it at all (log 36). -/
theorem endBreak_staysOrParks (h : watched s) : StaysOrParks s (endBreak s) := by
  obtain ⟨t, ht, e⟩ := endBreak_ind (s := s) (P := StaysOrParks s) (fun _ => .parkRequest h) (fun _ => .setRequest h)
    (fun _ => .startRequest h) (.inl rfl)
  rw [e]
  exact ht

/-- An ended break holds a run only if its carriage was counted, which then goes on to be or is sent home (log 36). -/
theorem endBreak_watchQuiet (h : s.watch.Coherent) (threading : s.watch.state = .threading) :
    WatchQuiet (endBreak s) := by
  have idle := h.no_probes (by simp [threading])
  have watch := endBreak_watch s
  have on : (endBreak s).watch.state = .sheetOn := congrArg BreakWatch.state watch
  have zero : (endBreak s).watch.breakRun = 0 := congrArg BreakWatch.breakRun watch
  refine ⟨fun _ => zero, fun held => ⟨on, zero, ?_⟩, fun _ => congrArg BreakWatch.sheetRun watch, ?_, fun running => ?_⟩
  · by_cases seen : watched s
    · refine (endBreak_staysOrParks seen).imp (fun stays => (detectorActive_iff_armed _).mpr ⟨.inl on, ?_⟩) id
      rwa [watched, stays]
    · rw [watch, BreakWatch.ended, runStanding_unwatched threading seen] at held
      exact nomatch held
  · rw [watch]
    rfl
  · rw [watch] at running
    exact absurd (idle.symm.trans running) Bool.false_ne_true

/-! ### The consumers of a sample -/

theorem gapResetRuns_watchQuiet (x : Sample) (h : WatchQuiet s) : WatchQuiet (gapResetRuns x s) := by
  unfold gapResetRuns
  split
  · obtain ⟨-, heldRun, -, holdOff, probes⟩ := h
    refine ⟨fun _ => rfl, fun held => ?_, fun _ => rfl, holdOff, probes⟩
    obtain ⟨on, -, counts⟩ := heldRun (by simpa using held)
    exact ⟨on, rfl, counts⟩
  · exact h

/-- A run set is quiet if it is 0 where the detector does not count. -/
theorem setBreakRun_watchQuiet {n : Nat} (h : WatchQuiet s) (quiet : detectorActive s = false → n = 0) :
    WatchQuiet (setBreakRun n s) :=
  have ⟨_, _, sheetRun, holdOff, probes⟩ := h
  ⟨quiet, nofun, sheetRun, holdOff, probes⟩

theorem detect_watchQuiet (tr : Conditioned) (h : WatchQuiet s)
    (armed : s.watch.state = .sheetOn ∨ s.watch.state = .threading) : WatchQuiet (detect tr s) := by
  cases hv : tr.usable with
  | none => simpa only [detect, hv] using h
  | some v =>
    by_cases sheet : v < s.tables.sheet.trBreak
    · rw [detect_sheet hv sheet]
      exact setBreakRun_watchQuiet h fun _ => rfl
    · have broken := Nat.not_lt.mp sheet
      by_cases full : s.tables.sheet.nBreak ≤ standingRun s.watch + 1
      · rw [detect_declares hv broken full]
        exact declareBreak_watchQuiet _ h.coherent armed
      · rw [detect_counts hv broken full]
        exact setBreakRun_watchQuiet h fun inactive => by simp [inactive]

theorem setSheetRun_watchQuiet (n : Nat) (h : WatchQuiet s) (looking : sheetCounting s = true) :
    WatchQuiet (setSheetRun n s) :=
  have ⟨breakRun, heldRun, _, holdOff, probes⟩ := h
  ⟨breakRun, heldRun, fun resting => absurd (resting.symm.trans looking) Bool.false_ne_true, holdOff, probes⟩

theorem lookForSheet_watchQuiet (tr : Conditioned) (h : WatchQuiet s) (looking : sheetCounting s = true) :
    WatchQuiet (lookForSheet tr s) := by
  unfold lookForSheet
  split
  · exact h
  · split
    · split
      · exact enterThreading_watchQuiet s
      · exact setSheetRun_watchQuiet _ h looking
    · exact setSheetRun_watchQuiet _ h looking

/-- The detector works in SHEET_ON and THREADING alone, for a held run too (R134, R148). -/
theorem armed_of_detecting (h : (detectorActive s || runHeld s) = true) :
    s.watch.state = .sheetOn ∨ s.watch.state = .threading := by
  obtain active | held := (Bool.or_eq_true _ _).mp h
  · exact ((detectorActive_iff_armed s).mp active).1
  · exact .inl ((runHeld_iff s).mp held).1

theorem watchTakes_watchQuiet (x : Sample) (h : WatchQuiet s) : WatchQuiet (watchTakes x s) := by
  have reset := gapResetRuns_watchQuiet x h
  unfold watchTakes
  dsimp only
  split
  · exact reset
  · split
    · exact detect_watchQuiet _ reset (armed_of_detecting ‹_›)
    · split
      · exact lookForSheet_watchQuiet _ reset ‹_›
      · exact reset

theorem completeStandardize_watchQuiet (c : Collection) (h : WatchQuiet s) : WatchQuiet (completeStandardize c s) := by
  refine standardizeEnded_watchQuiet ?_
  simpa using h.coherent

theorem standardizeTakes_watchQuiet (x : Sample) (h : WatchQuiet s) : WatchQuiet (standardizeTakes x s) := by
  unfold standardizeTakes
  split
  · exact h
  · split
    · dsimp only
      split
      · exact completeStandardize_watchQuiet _ h
      · exact h
    · exact h

theorem arriveAtPark_watchQuiet (h : WatchQuiet s) : WatchQuiet (arriveAtPark s) := by
  have told : WatchQuiet (watchArrival (endMove s)) := watchArrival_watchQuiet h
  unfold arriveAtPark
  dsimp only
  split
  · exact enterStandardizing_watchQuiet told.coherent
  · split
    · exact beginApproach_watchQuiet told.coherent
    · exact setCarriage_watchQuiet _ told.coherent

theorem endTraverse_watchQuiet (h : WatchQuiet s) : WatchQuiet (endTraverse s) := by
  unfold endTraverse
  split
  · exact h.of_eq (abandonTraverse_watching s _)
  · exact h.of_eq (closeTraverse_watching s)

theorem reverse_watchQuiet (d : Direction) (h : WatchQuiet s) : WatchQuiet (reverse d s) := by
  have ended := endTraverse_watchQuiet h
  by_cases parks : (endTraverse s).frame.scanOn = false ∨ (endTraverse s).standardize.request = true
  · rw [reverse_parks d parks]
    exact goPark_watchQuiet ended.coherent
  · rw [not_or, Bool.not_eq_false, Bool.not_eq_true] at parks
    obtain ⟨on, waits⟩ := parks
    rw [reverse_turns d on waits]
    exact openTraverse_watchQuiet _ ended

theorem frameTakes_watchQuiet (x : Sample) (h : WatchQuiet s) : WatchQuiet (frameTakes x s) := by
  have noted := h.of_eq (notePosition_watching s x.frame.position)
  unfold frameTakes
  dsimp only
  split
  case h_1 =>
    split
    · exact arriveAtPark_watchQuiet noted
    · exact noted
  case h_2 =>
    split
    · exact openTraverse_watchQuiet (s := endMove _) _ noted
    · exact noted
  case h_3 =>
    split
    · exact reverse_watchQuiet _ noted
    · exact noted
  case h_4 =>
    split
    · exact setCarriage_watchQuiet (s := commit (endMove _)) _ noted.coherent
    · exact noted
  case h_5 => exact noted.of_eq (feedWindows_watching _ x)
  case h_6 =>
    split
    · exact watchDwellStart_watchQuiet (setCarriage_watchQuiet (s := endMove _) _ noted.coherent)
    · exact noted
  all_goals exact noted

theorem Consumer.takes_watchQuiet (x : Sample) (c : Consumer) (h : WatchQuiet s) : WatchQuiet (c.takes x s) := by
  rw [Consumer.takes_eq]
  refine WatchQuiet.of_eq ?_ rfl
  cases c with
  | frameController => exact frameTakes_watchQuiet x h
  | breakWatch => exact watchTakes_watchQuiet x h
  | standardizeUnit => exact standardizeTakes_watchQuiet x h
  | stream => exact h.of_eq (streamTakes_watching s x)

theorem takeSample_watchQuiet (f : SampleFrame) (h : WatchQuiet s) : WatchQuiet (takeSample f s) := by
  rw [takeSample_eq]
  exact foldl_takes_rel (R := fun s t => WatchQuiet s → WatchQuiet t) _ _ _ (fun _ => id) (fun h k => k ∘ h)
    (fun c _ _ => c.takes_watchQuiet _) (h.of_eq (beforeConsumers_watching s f))

/-! ### The commands of carriage and break watch -/

section
variable (h : WatchQuiet s)
include h

theorem standardizeCommand_watchQuiet (a : Unit) : WatchQuiet (standardizeCommand a s).state := by
  unfold standardizeCommand
  split
  case h_1 | h_2 | h_3 => exact h
  all_goals exact setRequest_watchQuiet h

theorem parkCommand_watchQuiet (a : Unit) : WatchQuiet (parkCommand a s).state := by
  unfold parkCommand
  split
  case h_1 | h_2 => exact h
  case h_8 =>
    split
    · exact (goPark_watchQuiet h.coherent).of_eq rfl
    · exact h
  all_goals exact goPark_watchQuiet (by simpa using h.coherent)

theorem startCommand_watchQuiet (a : Unit) : WatchQuiet (startCommand a s).state := by
  unfold startCommand
  split
  · exact h
  · exact startScanning_watchQuiet h

theorem stopCommand_watchQuiet (a : Unit) : WatchQuiet (stopCommand a s).state := by
  unfold stopCommand
  dsimp only
  split
  case h_1 | h_2 => exact goPark_watchQuiet (s := setScanOn false s) h.coherent
  all_goals exact h

theorem resumeCommand_watchQuiet (a : Unit) : WatchQuiet (resumeCommand a s).state := by
  unfold resumeCommand
  split
  case h_1 =>
    split
    · exact h
    · split
      · exact h
      · exact beginApproach_watchQuiet (s := setScanOn true s) h.coherent
  all_goals exact h

theorem goFixed_watchQuiet (p : Nat) : WatchQuiet (goFixed p s) := by
  have dropped : (abandonTraverse .fixed (setScanOn false s)).watch.Coherent := by simpa using h.coherent
  exact setCarriage_watchQuiet _ dropped

theorem fixedPointCommand_watchQuiet (p : Nat) : WatchQuiet (fixedPointCommand p s).state := by
  unfold fixedPointCommand
  split
  · exact h
  · split
    case h_1 | h_2 | h_3 | h_4 => exact h
    all_goals
      split
      · exact h
      · exact goFixed_watchQuiet h p

theorem breakNotice_watchQuiet : WatchQuiet (breakNotice s) := by
  cases hw : s.watch.state with
  | sheetOn => rw [breakNotice_armed (.inl hw)]; exact declareBreak_watchQuiet _ h.coherent (.inl hw)
  | threading => rw [breakNotice_armed (.inr hw)]; exact declareBreak_watchQuiet _ h.coherent (.inr hw)
  | broken => rwa [breakNotice_broken (.inl hw)]
  | sheetOff => rwa [breakNotice_broken (.inr hw)]

theorem restoredNotice_watchQuiet : WatchQuiet (restoredNotice s) := by
  unfold restoredNotice
  split
  case h_1 | h_2 => exact enterThreading_watchQuiet s
  all_goals exact h

theorem sheetNotice_watchQuiet (k : Nat) : WatchQuiet (sheetNotice k s).state := by
  unfold sheetNotice
  split
  · exact breakNotice_watchQuiet h
  · exact restoredNotice_watchQuiet h
  · exact h

/-- Outside SHEET_ON a SHEET write keeps the break mode, and in SHEET_ON no sheet is looked for (R132). -/
theorem writeSheet_watchQuiet (a : SheetArgs) : WatchQuiet (writeSheet a s).state := by
  unfold writeSheet
  split
  · exact h
  · split
    · exact h
    · rename_i x _
      split
      · exact h
      · rename_i admitted
        obtain ⟨breakRun, heldRun, sheetRun, holdOff, probes⟩ := h
        refine ⟨breakRun, heldRun, fun resting => sheetRun ?_, holdOff, probes⟩
        by_cases on : s.watch.state = .sheetOn
        · simp [sheetCounting, on]
        · have mode : x.mode = s.tables.sheet.mode := by
            by_contra changed
            exact admitted ⟨changed, on⟩
          rw [← resting]
          show sheetCounting s = sheetCounting { s with tables := { s.tables with sheet := x } }
          simp only [sheetCounting, mode]

end

theorem restartCommand_watchQuiet (a : Unit) (s : State) : WatchQuiet (restartCommand a s).state := by
  have blocks : WatchQuiet (restartBlocks (abandonCollection s)) := .of_noRuns ⟨rfl, rfl, rfl⟩ ⟨nofun, rfl, nofun⟩
  show WatchQuiet (restartCarriage (restartBlocks (abandonCollection s)))
  unfold restartCarriage
  split
  case h_1 | h_2 | h_3 => exact blocks
  case h_4 => exact setCarriage_watchQuiet _ blocks.coherent
  all_goals exact goPark_watchQuiet blocks.coherent

/-! ### Events -/

section
variable (h : WatchQuiet s)
include h

theorem haltFor_watchQuiet (c : Condition) : WatchQuiet (haltFor c s) :=
  (haltCarriage_watchQuiet h.coherent).of_eq (abortCollection_watching _)

theorem driveFault_watchQuiet : WatchQuiet (driveFault s) :=
  (haltCarriage_watchQuiet h.coherent).of_eq (abandonCollection_watching _)

theorem takeDriveStatus_watchQuiet (d : DriveStatus) : WatchQuiet (takeDriveStatus d s) := by
  have noted : WatchQuiet { s with frame := { s.frame with lastDrive := some d } } := h
  unfold takeDriveStatus
  dsimp only
  split
  case h_1 =>
    split
    · exact h
    · split
      · exact (goPark_watchQuiet noted.coherent).of_eq rfl
      · exact h
  case h_2 => exact noted.of_eq (raiseIf_watching _ _ _)
  all_goals
    split
    · exact driveFault_watchQuiet noted
    · exact h

theorem silenceExpires_watchQuiet : WatchQuiet (silenceExpires s) := by
  have idle : WatchQuiet { s with frame := { s.frame with silence := none } } := h
  unfold silenceExpires
  dsimp only
  split
  case h_6 | h_7 | h_8 => exact h
  all_goals exact haltFor_watchQuiet idle _

theorem stallExpires_watchQuiet (k : StallTimer) : WatchQuiet (stallExpires k s) := by
  unfold stallExpires
  split
  · dsimp only
    split
    · exact haltFor_watchQuiet h _
    · exact h
  · exact h

theorem completeReport_watchQuiet (bank : Bank) (p : ClosingParams) (m : MeansResults) (st : StatsResults)
    (mons : List MonitorResult) : WatchQuiet (completeReport bank p m st mons s) := by
  refine checkDue_watchQuiet (h.of_eq ?_)
  rw [applyPending_watching, placeReport_eq]
  rfl

/-- A tick keeps every timer running that runs, and ends a held run (log 36). -/
theorem tickTimers_watchQuiet : WatchQuiet (tickTimers s) := by
  obtain ⟨breakRun, -, sheetRun, holdOff, probes⟩ := h
  refine ⟨breakRun, nofun, sheetRun, ?_, ?_⟩
  · simpa [tickTimers] using holdOff
  · simpa [tickTimers] using probes

/-- The hold-off timer is due in THREADING alone. -/
theorem threading_of_holdOff_due (due : timerDue s.watch.holdOff = true) : s.watch.state = .threading := by
  by_contra away
  have idle := h.coherent.no_holdOff away
  cases hold : s.watch.holdOff <;> simp [hold] at due idle

/-- A probe timer that is due finds SHEET_OFF. -/
theorem sheetOff_of_probe_due (due : timerDue s.watch.probe = true ∨ timerDue s.watch.dwell = true) :
    s.watch.state = .sheetOff := by
  by_contra away
  have idle := h.coherent.no_probes away
  rw [Bool.or_eq_false_iff, Option.isSome_eq_false_iff, Option.isNone_iff_eq_none, Option.isSome_eq_false_iff,
    Option.isNone_iff_eq_none] at idle
  simp [idle] at due

theorem probeTimerExpires_watchQuiet (due : timerDue s.watch.probe = true) : WatchQuiet (probeRequest s.probeIdle) := by
  have off := sheetOff_of_probe_due h (.inl due)
  obtain ⟨breakRun, heldRun, sheetRun, holdOff, -⟩ := h
  exact probeRequest_watchQuiet (s := s.probeIdle) ⟨breakRun, heldRun, sheetRun, holdOff, fun _ => off⟩ off

theorem probeDwellExpires_watchQuiet (due : timerDue s.watch.dwell = true) :
    WatchQuiet (startProbeTimer (parkRequest s.dwellOver)) := by
  have off := sheetOff_of_probe_due h (.inr due)
  obtain ⟨breakRun, heldRun, -, holdOff, -⟩ := h
  have dwelt : WatchQuiet s.dwellOver := ⟨breakRun, heldRun, fun _ => rfl, holdOff, fun _ => off⟩
  exact startProbeTimer_watchQuiet (parkRequest_watchQuiet dwelt) (parkRequest_sheetOff (s := s.dwellOver) off)

end

/-! ### Every row -/

theorem settle_watchQuiet (h : WatchQuiet s) : WatchQuiet (settle s) := h.of_eq (settle_watching s)

theorem watchQuiet_serve {α : Type} {row : CommandRow} {parse : List Byte → Option α} {owner : α → State → Answer}
    (h : ∀ a u, WatchQuiet u → WatchQuiet (owner a u).state) (hs : WatchQuiet s) :
    WatchQuiet (serve row parse owner s) := by
  rcases serve_cases row parse owner s with e | ⟨f, rest, st, e⟩ | ⟨f, rest, a, _, _, _, e⟩ <;> rw [e]
  · exact hs
  · exact hs
  · exact h a (s.taken f rest) hs

theorem exec_watchQuiet (i : Instr) (hs : WatchQuiet s) (h : exec i s = .next t) : WatchQuiet t := by
  cases i
  all_goals obtain rfl := Host.Outcome.next.inj h
  case powerOnReset => exact watchQuiet_reset
  case sample f => exact settle_watchQuiet (takeSample_watchQuiet f hs)
  case headAnnounce | millFrameCompleted | carriageTransmit | carriageFrameCompleted => exact hs
  case millisecondTick => exact tickTimers_watchQuiet hs
  case driveStatus d => exact settle_watchQuiet (takeDriveStatus_watchQuiet (s := carriageDelivered s) hs d)
  case passUp p =>
    refine settle_watchQuiet ?_
    unfold queuePassUp
    split <;> exact hs
  case command f =>
    refine settle_watchQuiet ?_
    unfold queueCommand
    split <;> exact hs
  case frameCheckFailure l c => cases l <;> exact settle_watchQuiet (hs.of_eq rfl)
  case syncPairFound l =>
    split
    · cases l <;> exact hs
    · exact hs
  case millTransmit =>
    split
    · exact hs.of_eq (arbitrate_watching s)
    · exact hs
  case silenceTimerExpiry =>
    split
    · exact settle_watchQuiet (silenceExpires_watchQuiet hs)
    · exact hs
  case stallTimerExpiry =>
    split
    · split
      · exact settle_watchQuiet (stallExpires_watchQuiet hs _)
      · exact hs
    · exact hs
  case stdTimerExpiry =>
    split
    · split
      · exact settle_watchQuiet (standardizeEnded_watchQuiet (by simpa using hs.coherent))
      · exact hs
    · exact hs
  case probeTimerExpiry =>
    split
    · exact probeTimerExpires_watchQuiet hs ‹_›
    · exact hs
  case probeDwellExpiry =>
    split
    · exact probeDwellExpires_watchQuiet hs ‹_›
    · exact hs
  case holdOffExpiry =>
    split
    · exact settle_watchQuiet (endBreak_watchQuiet hs.coherent (threading_of_holdOff_due hs ‹_›))
    · exact hs
  case meansComplete | statsComplete => split <;> exact hs
  case filterComplete =>
    split
    · exact settle_watchQuiet (hs.of_eq (raiseIf_watching _ _ _))
    · exact hs
  case monitorsComplete =>
    split
    · exact settle_watchQuiet (hs.of_eq ((raiseIf_watching _ _ _).trans (raiseIf_watching _ _ _)))
    · exact hs
  case reportComplete =>
    split
    · exact completeReport_watchQuiet hs ..
    · exact hs
  case startScan => exact watchQuiet_serve (fun a _ hu => startCommand_watchQuiet hu a) hs
  case stopScan => exact watchQuiet_serve (fun a _ hu => stopCommand_watchQuiet hu a) hs
  case park => exact watchQuiet_serve (fun a _ hu => parkCommand_watchQuiet hu a) hs
  case resume => exact watchQuiet_serve (fun a _ hu => resumeCommand_watchQuiet hu a) hs
  case fixedPoint => exact watchQuiet_serve (fun a _ hu => fixedPointCommand_watchQuiet hu a) hs
  case standardize => exact watchQuiet_serve (fun a _ hu => standardizeCommand_watchQuiet hu a) hs
  case sheetNotice => exact settle_watchQuiet (watchQuiet_serve (fun a _ hu => sheetNotice_watchQuiet hu a) hs)
  case restart => exact watchQuiet_serve (fun a u _ => restartCommand_watchQuiet a u) hs
  case writeTableSheet => exact watchQuiet_serve (fun a _ hu => writeSheet_watchQuiet hu a) hs
  case writeTableCurve => exact watchQuiet_serve (fun a u hu => have ⟨_, e⟩ := writeCurve_state u a; hu.of_state e) hs
  case writeTableBias => exact watchQuiet_serve (fun a u hu => have ⟨_, e⟩ := writeBias_state u a; hu.of_state e) hs
  case writeTableStdf => exact watchQuiet_serve (fun a u hu => have ⟨_, e⟩ := writeStdf_state u a; hu.of_state e) hs
  case writeTableMap => exact watchQuiet_serve (fun a u hu => have ⟨_, _, e⟩ := writeMap_state u a; hu.of_state e) hs
  case writeTableMonitor =>
    exact watchQuiet_serve (fun a u hu => have ⟨_, _, _, e⟩ := writeMonitor_state u a; hu.of_state e) hs
  case writeTableFrame => exact watchQuiet_serve (fun a u hu => have ⟨_, e⟩ := writeFrame_state u a; hu.of_state e) hs
  case writeTableChannel =>
    exact watchQuiet_serve (fun a u hu => have ⟨_, e⟩ := writeChannel_state u a; hu.of_state e) hs
  case writeTableSlotHeader =>
    exact watchQuiet_serve (fun a u hu => have ⟨_, _, e⟩ := writeSlotHeader_state u a; hu.of_state e) hs
  case writeTableSlotImage =>
    exact watchQuiet_serve (fun a u hu => have ⟨_, _, e⟩ := writeSlotImage_state u a; hu.of_state e) hs
  case saveProfile => exact watchQuiet_serve (fun a u hu => have ⟨_, _, e⟩ := saveProfile_state u a; hu.of_state e) hs
  case restoreProfile =>
    exact watchQuiet_serve (fun a u hu => have ⟨_, _, e⟩ := restoreProfile_state u a; hu.of_state e) hs
  case clearProfile => exact watchQuiet_serve (fun a u hu => have ⟨_, _, e⟩ := clearProfile_state u a; hu.of_state e) hs
  case clearConditions =>
    exact watchQuiet_serve (fun a u hu => have ⟨_, e⟩ := clearConditions_state u a; hu.of_state e) hs
  case setMask => exact watchQuiet_serve (fun a u hu => have ⟨_, e⟩ := setMask_state u a; hu.of_state e) hs
  case flushQueue =>
    refine watchQuiet_serve (fun a u hu => ?_) hs
    obtain e | e := flushQueue_state u a <;> exact hu.of_state e
  case pushContext =>
    refine settle_watchQuiet (watchQuiet_serve (fun a u hu => ?_) hs)
    obtain e | e | ⟨_, _, e⟩ := pushContext_state u a <;> exact hu.of_state e
  case passDown =>
    refine settle_watchQuiet (watchQuiet_serve (fun a u hu => ?_) hs)
    obtain e | e | ⟨_, e⟩ := passDown_state u a <;> exact hu.of_state e
  case readTable => exact watchQuiet_serve (fun a u hu => hu.of_state (readTable_state u a)) hs
  case readFixed => exact watchQuiet_serve (fun a u hu => hu.of_state (readFixed_state u a)) hs
  case readProfile => exact watchQuiet_serve (fun a u hu => hu.of_state (readProfile_state u a)) hs
  case readTrend => exact watchQuiet_serve (fun a u hu => hu.of_state (readTrend_state u a)) hs
  case readStatus | writeTableUnknownRegion | unknownCommandCode | lockCalibration | ackAlarm | clearCounters
    | setStream =>
    exact watchQuiet_serve (fun _ _ hu => hu) hs

/-- Settles O8: the break watch stays quiet where it counts nothing, row by row. -/
theorem stepKeepsWatchQuiet : Obligations.StepKeepsWatchQuiet := by
  unfold Obligations.StepKeepsWatchQuiet
  intro s t hs h
  unfold step at h
  split at h
  · obtain rfl := Host.Outcome.next.inj h
    exact hs
  · rename_i c rest _
    exact exec_watchQuiet (s := s.withPending rest) c hs h

end Sys2Proof.Machine

/-! ## Monitors: outcome and persistence (O39) -/

namespace Sys2Proof.Machine

/-! ### A figure against its window (R155) -/

section
variable {low high : Int} {v : Nat}

theorem figureOutcome_below (under : (v : Int) < low) : figureOutcome low high (some v) = .below :=
  if_pos under

theorem figureOutcome_above (from_low : low ≤ (v : Int)) (beyond : high < (v : Int)) :
    figureOutcome low high (some v) = .above :=
  (if_neg from_low.not_gt).trans (if_pos beyond)

theorem figureOutcome_within (from_low : low ≤ (v : Int)) (to_high : (v : Int) ≤ high) :
    figureOutcome low high (some v) = .within :=
  (if_neg from_low.not_gt).trans (if_neg to_high.not_gt)

end

/-! ### The class of a slice record (R156) -/

section
variable {low high : Int} {r : SliceRecord}

theorem classifySlice_of_valid (valid : r.state = .valid) : classifySlice low high r =
    if 16 * high < r.f then .above else if r.f < 16 * low then .below else .inside := by
  simp only [classifySlice, valid]

theorem classifySlice_of_not_valid (invalid : r.state ≠ .valid) : classifySlice low high r = .unknown := by
  unfold classifySlice
  cases h : r.state with
  | valid => exact absurd h invalid
  | unset | stale => rfl

theorem classifySlice_eq_unknown_iff : classifySlice low high r = .unknown ↔ r.state ≠ .valid := by
  refine ⟨fun unknown valid => ?_, classifySlice_of_not_valid⟩
  rw [classifySlice_of_valid valid] at unknown
  split_ifs at unknown

theorem classifySlice_eq_above_iff : classifySlice low high r = .above ↔ r.state = .valid ∧ 16 * high < r.f := by
  by_cases valid : r.state = .valid
  · rw [classifySlice_of_valid valid]
    split_ifs <;> simp_all
  · simp [classifySlice_of_not_valid valid, valid]

theorem classifySlice_outside_iff : classifySlice low high r = .above ∨ classifySlice low high r = .below ↔
    r.state = .valid ∧ (16 * high < r.f ∨ r.f < 16 * low) := by
  by_cases valid : r.state = .valid
  · rw [classifySlice_of_valid valid]
    split_ifs <;> simp_all
  · simp [classifySlice_of_not_valid valid, valid]

/-- With its limits in order no value lies on both sides of a window. -/
theorem classifySlice_eq_below_iff (order : low ≤ high) :
    classifySlice low high r = .below ↔ r.state = .valid ∧ r.f < 16 * low := by
  by_cases valid : r.state = .valid
  · rw [classifySlice_of_valid valid]
    split_ifs <;> simp [valid] <;> omega
  · simp [classifySlice_of_not_valid valid, valid]

end

theorem outsideCount_classes (low high : Int) (rs : List SliceRecord) :
    outsideCount (rs.map (classifySlice low high)) =
      rs.countP (fun r => decide (r.state = .valid ∧ (16 * high < r.f ∨ r.f < 16 * low))) := by
  unfold outsideCount
  rw [List.countP_map]
  refine List.countP_congr fun r _ => ?_
  simp [← classifySlice_outside_iff (low := low)]

/-! ### The outcome of a list of classes (R156) -/

section
variable {cs : List SliceClass}

theorem classesOutcome_above (above : .above ∈ cs) : classesOutcome cs = .above := by
  simp [classesOutcome, above, List.ne_nil_of_mem above]

theorem classesOutcome_below (no_above : .above ∉ cs) (below : .below ∈ cs) : classesOutcome cs = .below := by
  simp [classesOutcome, no_above, below, List.ne_nil_of_mem below]

theorem classesOutcome_unknown (no_above : .above ∉ cs) (no_below : .below ∉ cs) (unknown : .unknown ∈ cs) :
    classesOutcome cs = .unordered := by
  simp [classesOutcome, no_above, no_below, unknown]

theorem classesOutcome_within (some_class : cs ≠ []) (no_above : .above ∉ cs) (no_below : .below ∉ cs)
    (no_unknown : .unknown ∉ cs) : classesOutcome cs = .within := by
  simp [classesOutcome, some_class, no_above, no_below, no_unknown]

end

section
variable {low high : Int} {rs : List SliceRecord}

theorem above_mem_classes_iff : .above ∈ rs.map (classifySlice low high) ↔
    ∃ r ∈ rs, r.state = .valid ∧ 16 * high < r.f := by
  simp [classifySlice_eq_above_iff]

theorem below_mem_classes_iff (order : low ≤ high) : .below ∈ rs.map (classifySlice low high) ↔
    ∃ r ∈ rs, r.state = .valid ∧ r.f < 16 * low := by
  simp [classifySlice_eq_below_iff order]

theorem unknown_mem_classes_iff : .unknown ∈ rs.map (classifySlice low high) ↔ ∃ r ∈ rs, r.state ≠ .valid := by
  simp [classifySlice_eq_unknown_iff]

theorem above_notMem_classes (h : ∀ r ∈ rs, ¬ (r.state = .valid ∧ 16 * high < r.f)) :
    .above ∉ rs.map (classifySlice low high) := fun mem =>
  have ⟨r, hr, above⟩ := above_mem_classes_iff.mp mem
  h r hr above

theorem below_notMem_classes (order : low ≤ high) (h : ∀ r ∈ rs, ¬ (r.state = .valid ∧ r.f < 16 * low)) :
    .below ∉ rs.map (classifySlice low high) := fun mem =>
  have ⟨r, hr, below⟩ := (below_mem_classes_iff order).mp mem
  h r hr below

theorem unknown_notMem_classes (h : ∀ r ∈ rs, r.state = .valid) : .unknown ∉ rs.map (classifySlice low high) :=
  fun mem =>
    have ⟨r, hr, invalid⟩ := unknown_mem_classes_iff.mp mem
    invalid (h r hr)

end

/-! ### The watched slices (R156) -/

/-- Whether a slice number lies in the range of a monitor and is marked as not excluded. -/
def watches (first last : Nat) (excluded : List Bool) (k : Nat) : Bool :=
  decide (first ≤ k ∧ k ≤ last ∧ excluded[k]? = some false)

section
variable (first last : Nat) (x : Bool) (excluded : List Bool)

theorem watches_zero_at_zero : watches 0 last (x :: excluded) 0 = !x := by
  simp [watches]

theorem watches_succ_at_zero : watches (first + 1) last excluded 0 = false := by
  simp [watches]

theorem watches_comp_succ :
    watches (first + 1) (last + 1) (x :: excluded) ∘ Nat.succ = watches first last excluded := by
  funext k
  simp [watches]

theorem watches_zero_comp_succ : watches 0 (last + 1) (x :: excluded) ∘ Nat.succ = watches 0 last excluded := by
  funext k
  simp [watches]

theorem watches_to_zero_comp_succ : watches first 0 excluded ∘ Nat.succ = fun _ => false := by
  funext k
  simp [watches]

variable (r : SliceRecord) (rs : List SliceRecord)

theorem watchedSlices_succ_succ : watchedSlices (first + 1) (last + 1) (x :: excluded) (r :: rs) =
    watchedSlices first last excluded rs := by
  simp [watchedSlices]

theorem watchedSlices_zero_succ : watchedSlices 0 (last + 1) (x :: excluded) (r :: rs) =
    (if x then [] else [r]) ++ watchedSlices 0 last excluded rs := by
  cases x <;> simp [watchedSlices]

theorem watchedSlices_zero_zero : watchedSlices 0 0 (x :: excluded) (r :: rs) = if x then [] else [r] := by
  cases x <;> simp [watchedSlices]

theorem watchedSlices_succ_zero : watchedSlices (first + 1) 0 excluded rs = [] := by
  simp [watchedSlices]

end

/-- The records at those numbers of a list that a test picks. -/
def pickedBy (test : Nat → Bool) (rs : List SliceRecord) : List SliceRecord :=
  ((List.range rs.length).filter test).filterMap (fun k => rs[k]?)

theorem pickedBy_cons (test : Nat → Bool) (r : SliceRecord) (rs : List SliceRecord) :
    pickedBy test (r :: rs) = (if test 0 then [r] else []) ++ pickedBy (test ∘ Nat.succ) rs := by
  unfold pickedBy
  rw [List.length_cons, List.range_succ_eq_map, List.filter_cons, List.filter_map]
  split <;> simp [List.filterMap_map, Function.comp_def]

theorem pickedBy_false (rs : List SliceRecord) : pickedBy (fun _ => false) rs = [] := by
  simp [pickedBy]

/-- The watched slices by their numbers; with the head of both lists first and last number drop by one. -/
theorem watchedSlices_eq : ∀ (first last : Nat) (excluded : List Bool) (rs : List SliceRecord),
    watchedSlices first last excluded rs = pickedBy (watches first last excluded) rs
  | first, last, [], rs => by simp [watchedSlices, pickedBy, watches]
  | first, last, _ :: _, [] => by simp [watchedSlices, pickedBy]
  | 0, 0, x :: excluded, r :: rs => by
    rw [watchedSlices_zero_zero, pickedBy_cons, watches_zero_at_zero, watches_to_zero_comp_succ, pickedBy_false]
    cases x <;> rfl
  | 0, last + 1, x :: excluded, r :: rs => by
    rw [watchedSlices_zero_succ, pickedBy_cons, watches_zero_at_zero, watches_zero_comp_succ, watchedSlices_eq 0 last]
    cases x <;> rfl
  | first + 1, 0, x :: excluded, r :: rs => by
    rw [watchedSlices_succ_zero, pickedBy_cons, watches_succ_at_zero, watches_to_zero_comp_succ, pickedBy_false]
    rfl
  | first + 1, last + 1, x :: excluded, r :: rs => by
    rw [watchedSlices_succ_succ, pickedBy_cons, watches_succ_at_zero, watches_comp_succ, watchedSlices_eq first last]
    rfl

theorem monitorOutcome_slice {m : MonitorRecord} {first last : Nat} (source : m.source = .slice first last)
    (c : ChannelResults) : monitorOutcome m c =
      (classesOutcome ((watchedSlices first last c.excluded c.records).map (classifySlice m.low m.high)),
        some (outsideCount ((watchedSlices first last c.excluded c.records).map (classifySlice m.low m.high)))) := by
  simp only [monitorOutcome, source]

/-! ### Persistence (R158 to R160) -/

theorem after_outside (m : Monitor) (scan : Nat) {o : MonitorOutcome} (out : o = .below ∨ o = .above)
    (n : Option Nat) : m.after scan o n =
      { m with
        count := min 15 (m.count + 1)
        state := if m.record.persistence ≤ min 15 (m.count + 1) then .tripped else m.state
        lastOutcome := some o, lastScan := some scan, slicesOutside := n } := by
  rw [← saturate_eq_min]
  obtain rfl | rfl := out <;> rfl

/-- Settles O39: the figure by its place in the window, the watched slices by the classes that occur among them, and
count and state by the outcome. -/
theorem monitorOutcomeAndPersistence : Obligations.MonitorOutcomeAndPersistence := by
  unfold Obligations.MonitorOutcomeAndPersistence
  refine ⟨⟨fun _ _ => rfl, fun low high v order => ?figure, fun low high rs order => ?slices⟩, fun m c => ?source,
    fun m scan n => ⟨fun o out => after_outside m scan out n, rfl, rfl⟩⟩
  case figure =>
    exact ⟨figureOutcome_below, figureOutcome_within, fun beyond => figureOutcome_above (order.trans beyond.le) beyond⟩
  case slices =>
    refine ⟨fun empty => by rw [empty]; rfl, fun above => ?_, fun no_above below => ?_, fun inside invalid => ?_,
      fun some_slice inside => ?_⟩
    · exact classesOutcome_above (above_mem_classes_iff.mpr above)
    · exact classesOutcome_below (above_notMem_classes no_above) ((below_mem_classes_iff order).mpr below)
    · exact classesOutcome_unknown (above_notMem_classes fun r hr => (inside r hr).1)
        (below_notMem_classes order fun r hr => (inside r hr).2) (unknown_mem_classes_iff.mpr invalid)
    · exact classesOutcome_within (mt List.map_eq_nil_iff.mp some_slice)
        (above_notMem_classes fun r hr => (inside r hr).1)
        (below_notMem_classes order fun r hr => (inside r hr).2.1)
        (unknown_notMem_classes fun r hr => (inside r hr).2.2)
  case source =>
    refine ⟨fun source => ?_, fun source => ?_, fun source => ?_, fun first last source => ?_⟩
    · simp only [monitorOutcome, source]
    · simp only [monitorOutcome, source]
    · simp only [monitorOutcome, source]
    · rw [monitorOutcome_slice source, outsideCount_classes, watchedSlices_eq]
      rfl

end Sys2Proof.Machine

/-! ## The condition unit's and the outbound side's commands (O60) -/

namespace Sys2Proof.Machine

variable {s : State} {f : CommandFrame} {rest : List CommandFrame}

/-! ### Condition sets and masks in their bytes (table 11-2) -/

theorem threeBytes_be24 {n : Nat} (h : n < 16777216) : threeBytes (be24 n) = some n :=
  congrArg some (u24_be24 n h)

theorem conditionSet_toNat (b : BitVec 17) : conditionSet b.toNat = some b := by
  rw [conditionSet, if_pos b.isLt, BitVec.ofNat_toNat, BitVec.setWidth_eq]

theorem conditionSet_outside {n : Nat} (h : 131072 ≤ n) : conditionSet n = none := if_neg (Nat.not_lt.mpr h)

/-! ### The owners of CLEAR_CONDITIONS, SET_MASK and PASS_DOWN (R171, R172, R190) -/

theorem clearConditions_bad {n : Nat} (h : 131072 ≤ n) : clearConditions n s = refuse .badArgument s := by
  rw [clearConditions, conditionSet_outside h]

theorem clearConditions_taken (b : BitVec 17) : clearConditions b.toNat s =
    accept { s with conditions := { s.conditions with flags := s.conditions.flags &&& ~~~b } } := by
  rw [clearConditions, conditionSet_toNat]

theorem setMask_bad {n : Nat} (h : 131072 ≤ n) : setMask n s = refuse .badArgument s := by
  rw [setMask, conditionSet_outside h]

theorem setMask_taken (b : BitVec 17) : setMask b.toNat s =
    accept { s with conditions := { s.conditions with unmasked := b } } := by
  rw [setMask, conditionSet_toNat]

section
variable {payload : List Byte}

theorem passDown_long (h : 256 < payload.length) : passDown payload s = refuse .badArgument s := if_pos h

theorem passDown_room (h : payload.length ≤ 256) (room : s.port.passDown.length < 4) : passDown payload s =
    accept { s with port := { s.port with passDown := s.port.passDown ++ [payload] } } := by
  rw [passDown, if_neg (Nat.not_lt.mpr h)]
  exact if_pos room

theorem passDown_full (h : payload.length ≤ 256) (full : 4 ≤ s.port.passDown.length) : passDown payload s =
    refuse .queueFull (raise .linkError (countPassDropped s)) := by
  rw [passDown, if_neg (Nat.not_lt.mpr h)]
  exact if_neg (Nat.not_lt.mpr full)

theorem passPayload_of_ne_nil (h : payload ≠ []) : passPayload payload = some payload := by
  cases payload with
  | nil => exact absurd rfl h
  | cons b more => rfl

end

/-! ### The six commands, none of them altering (R169) -/

section
variable (hand : AtHand f rest s)
include hand

theorem ackAlarm_served (hcode : f.code = 0x15#8) (hargs : f.args = []) :
    exec .ackAlarm s = .next (respond f (ackAlarm () (s.taken f rest))) :=
  congrArg Host.Outcome.next (serve_noArgs _ hand (by simp [rowOf, hcode]) hargs (.inl rfl))

theorem clearCounters_served (hcode : f.code = 0x18#8) (hargs : f.args = []) :
    exec .clearCounters s = .next (respond f (clearCounters () (s.taken f rest))) :=
  congrArg Host.Outcome.next (serve_noArgs _ hand (by simp [rowOf, hcode]) hargs (.inl rfl))

theorem clearConditions_served (hcode : f.code = 0x16#8) {n : Nat} (hn : n < 16777216) (hargs : f.args = be24 n) :
    exec .clearConditions s = .next (respond f (clearConditions n (s.taken f rest))) :=
  congrArg Host.Outcome.next
    (serve_owner hand (by simp [rowOf, hcode]) (by rw [hargs]; exact threeBytes_be24 hn) (.inl rfl))

theorem setMask_served (hcode : f.code = 0x17#8) {n : Nat} (hn : n < 16777216) (hargs : f.args = be24 n) :
    exec .setMask s = .next (respond f (setMask n (s.taken f rest))) :=
  congrArg Host.Outcome.next
    (serve_owner hand (by simp [rowOf, hcode]) (by rw [hargs]; exact threeBytes_be24 hn) (.inl rfl))

theorem setStream_served (hcode : f.code = 0x19#8) {n : Nat} (hn : n ≤ 65535) (hargs : f.args = be16 n) :
    exec .setStream s = .next (respond f (setStream n (s.taken f rest))) :=
  congrArg Host.Outcome.next
    (serve_owner hand (by simp [rowOf, hcode]) (by rw [hargs]; exact congrArg some (u16_be16 n hn)) (.inl rfl))

theorem passDown_served (hcode : f.code = 0x1A#8) (hargs : f.args ≠ []) :
    exec .passDown s = .next (settle (respond f (passDown f.args (s.taken f rest)))) :=
  congrArg (fun u => Host.Outcome.next (settle u))
    (serve_owner hand (by simp [rowOf, hcode]) (passPayload_of_ne_nil hargs) (.inl rfl))

end

/-- Settles O60: each command by its owner, and PASS_DOWN at a full queue by its one raising. -/
theorem alarmCounterStreamAndPassCommands : Obligations.AlarmCounterStreamAndPassCommands := by
  unfold Obligations.AlarmCounterStreamAndPassCommands
  intro f rest s hand
  have fits (b : BitVec 17) : b.toNat < 16777216 := Nat.lt_trans b.isLt (by norm_num)
  refine ⟨fun hcode hargs => ackAlarm_served hand hcode hargs,
    fun hcode => ⟨fun b hargs => ?_, fun n outside hn hargs => ?_⟩,
    fun hcode => ⟨fun b hargs => ?_, fun n outside hn hargs => ?_⟩,
    fun hcode hargs => clearCounters_served hand hcode hargs,
    fun hcode n hn hargs => setStream_served hand hcode hn hargs,
    fun hcode unraised hargs => ⟨fun long => ?_, fun short room => ?_, fun short full => ?_⟩⟩
  · rw [clearConditions_served hand hcode (fits b) hargs, clearConditions_taken]
    rfl
  · rw [clearConditions_served hand hcode hn hargs, clearConditions_bad outside, respond_refuse]
  · rw [setMask_served hand hcode (fits b) hargs, setMask_taken]
    rfl
  · rw [setMask_served hand hcode hn hargs, setMask_bad outside, respond_refuse]
  · rw [passDown_served hand hcode hargs, passDown_long long, respond_refuse]
    exact congrArg Host.Outcome.next (settle_nil _ unraised)
  · rw [passDown_served hand hcode hargs, passDown_room (s := s.taken f rest) short room]
    exact congrArg Host.Outcome.next (settle_nil _ unraised)
  · rw [passDown_served hand hcode hargs, passDown_full (s := s.taken f rest) short full, ← saturate_eq_min]
    exact congrArg Host.Outcome.next
      (settle_raise (s := (countPassDropped s).answered f rest .queueFull []) .linkError unraised)

end Sys2Proof.Machine

/-! ## Argument forms: their numbers of bytes (O51) -/

namespace Sys2Proof.Machine

variable {α : Type} {n : Nat}

/-! ### Forms of one length (table 11-8) -/

theorem oneByte_isSome (l : List Byte) : (oneByte l).isSome = true ↔ l.length = 1 := by
  unfold oneByte
  split <;> simp_all [List.length_eq_one_iff]

theorem twoBytes_isSome (l : List Byte) : (twoBytes l).isSome = true ↔ l.length = 2 := by
  unfold twoBytes
  split <;> simp_all [List.length_eq_two]

theorem threeBytes_isSome (l : List Byte) : (threeBytes l).isSome = true ↔ l.length = 3 := by
  unfold threeBytes
  split <;> simp_all [List.length_eq_three]

theorem slotTag_isSome (l : List Byte) : (slotTag l).isSome = true ↔ l.length = 3 := by
  unfold slotTag
  split <;> simp_all [List.length_eq_three]

theorem channelArgs_isSome (l : List Byte) : (channelArgs l).isSome = true ↔ l.length = 3 := by
  unfold channelArgs
  split <;> simp_all [List.length_eq_three]

theorem slotHeaderArgs_isSome (l : List Byte) : (slotHeaderArgs l).isSome = true ↔ l.length = 6 := by
  unfold slotHeaderArgs
  split
  case h_1 => exact iff_of_true rfl rfl
  case h_2 other =>
    refine iff_of_false nofun fun h => ?_
    match l, h with
    | [_, _, _, _, _, _], _ => exact other _ _ _ _ _ _ rfl

theorem sheetArgs_isSome (l : List Byte) : (sheetArgs l).isSome = true ↔ l.length = 13 := by
  unfold sheetArgs
  split
  case h_1 => exact iff_of_true rfl rfl
  case h_2 other =>
    refine iff_of_false nofun fun h => ?_
    match l, h with
    | [_, _, _, _, _, _, _, _, _, _, _, _, _], _ => exact other _ _ _ _ _ _ _ _ _ _ _ _ _ rfl

theorem frameArgs_isSome (l : List Byte) : (frameArgs l).isSome = true ↔ l.length = 14 := by
  unfold frameArgs
  split
  case h_1 => exact iff_of_true rfl rfl
  case h_2 other =>
    refine iff_of_false nofun fun h => ?_
    match l, h with
    | [_, _, _, _, _, _, _, _, _, _, _, _, _, _], _ => exact other _ _ _ _ _ _ _ _ _ _ _ _ _ _ rfl

/-- The number of argument bytes of a row whose form has one length. -/
def CommandRow.argLength : CommandRow → Option Nat
  | .readStatus | .lockCalibration | .flushQueue | .startScan | .stopScan | .park | .resume | .standardize
  | .clearProfile | .ackAlarm | .clearCounters | .restart => some 0
  | .readFixed | .readProfile | .readTrend | .restoreProfile | .sheetNotice => some 1
  | .fixedPoint | .setStream => some 2
  | .saveProfile | .clearConditions | .setMask => some 3
  | .writeChannel => some 4
  | .writeSlotHeader => some 7
  | .writeSheet => some 14
  | .writeFrame => some 15
  | .readTable | .writeCurve | .writeBias | .writeStdf | .writeMap | .writeMonitor | .writeSlotImage
  | .writeUnknownRegion | .pushContext | .passDown | .unknownCode => none

/-- The bytes after the region byte are one fewer than the arguments. -/
theorem length_tail_eq_succ (l : List Byte) : l.tail.length = n + 1 ↔ l.length = n + 2 := by
  rw [List.length_tail]
  omega

theorem wellFormedArgs_iff_length {row : CommandRow} (h : row.argLength = some n) (args : List Byte) :
    row.wellFormedArgs args = true ↔ args.length = n := by
  cases row
  case readTable | writeCurve | writeBias | writeStdf | writeMap | writeMonitor | writeSlotImage | writeUnknownRegion
    | pushContext | passDown | unknownCode => exact nomatch h
  all_goals obtain rfl := Option.some.inj h
  case readFixed | readProfile | readTrend | restoreProfile | sheetNotice => exact oneByte_isSome args
  case fixedPoint | setStream => exact twoBytes_isSome args
  case saveProfile => exact slotTag_isSome args
  case clearConditions | setMask => exact threeBytes_isSome args
  case writeChannel => exact (channelArgs_isSome args.tail).trans (length_tail_eq_succ args)
  case writeSlotHeader => exact (slotHeaderArgs_isSome args.tail).trans (length_tail_eq_succ args)
  case writeSheet => exact (sheetArgs_isSome args.tail).trans (length_tail_eq_succ args)
  case writeFrame => exact (frameArgs_isSome args.tail).trans (length_tail_eq_succ args)
  all_goals exact List.isEmpty_iff_length_eq_zero

/-! ### Forms with a list of a stated count (tables 11-9, 11-10) -/

theorem foursOf_length {g : Byte → Byte → Byte → Byte → α} :
    ∀ {bytes : List Byte} {l : List α}, foursOf g bytes = some l → bytes.length = 4 * l.length
  | [], _, h => by
    obtain rfl := Option.some.inj h
    rfl
  | a :: b :: c :: d :: more, _, h => by
    simp only [foursOf, Option.map_eq_some_iff] at h
    obtain ⟨l, h, rfl⟩ := h
    have := foursOf_length h
    simp only [List.length_cons]
    omega

theorem foursOf_of_length (g : Byte → Byte → Byte → Byte → α) :
    ∀ {n : Nat} {bytes : List Byte}, bytes.length = 4 * n → ∃ l, foursOf g bytes = some l ∧ l.length = n
  | 0, [], _ => ⟨[], rfl, rfl⟩
  | n + 1, a :: b :: c :: d :: more, h => by
    obtain ⟨l, taken, rfl⟩ := foursOf_of_length g (n := n) (bytes := more) (by simp only [List.length_cons] at h; omega)
    exact ⟨g a b c d :: l, by rw [foursOf, taken]; rfl, rfl⟩

theorem counted_foursOf_isSome (g : Byte → Byte → Byte → Byte → α) (bytes : List Byte) :
    (counted n (foursOf g bytes)).isSome = true ↔ bytes.length = 4 * n := by
  simp only [Option.isSome_iff_exists, counted_eq_some]
  exact ⟨fun ⟨_, taken, count⟩ => count ▸ foursOf_length taken, foursOf_of_length g⟩

theorem pairsOf_length : ∀ {bytes : List Byte} {l : List Nat}, pairsOf bytes = some l → bytes.length = 2 * l.length
  | [], _, h => by
    obtain rfl := Option.some.inj h
    rfl
  | a :: b :: more, _, h => by
    simp only [pairsOf, Option.map_eq_some_iff] at h
    obtain ⟨l, h, rfl⟩ := h
    have := pairsOf_length h
    simp only [List.length_cons]
    omega

theorem pairsOf_of_length :
    ∀ {n : Nat} {bytes : List Byte}, bytes.length = 2 * n → ∃ l, pairsOf bytes = some l ∧ l.length = n
  | 0, [], _ => ⟨[], rfl, rfl⟩
  | n + 1, a :: b :: more, h => by
    obtain ⟨l, taken, rfl⟩ := pairsOf_of_length (n := n) (bytes := more) (by simp only [List.length_cons] at h; omega)
    exact ⟨u16 a b :: l, by rw [pairsOf, taken]; rfl, rfl⟩

theorem counted_pairsOf_isSome (bytes : List Byte) :
    (counted n (pairsOf bytes)).isSome = true ↔ bytes.length = 2 * n := by
  simp only [Option.isSome_iff_exists, counted_eq_some]
  exact ⟨fun ⟨_, taken, count⟩ => count ▸ pairsOf_length taken, pairsOf_of_length⟩

theorem curveArgs_isSome (l : List Byte) : (curveArgs l).isSome = true ↔ l.length = 6 + 4 * byteAt l 1 := by
  unfold curveArgs
  split
  case h_1 i c r1 r0 d1 d0 more =>
    rw [Option.isSome_map, counted_foursOf_isSome]
    show more.length = 4 * c.toNat ↔ more.length + 6 = 6 + 4 * c.toNat
    omega
  case h_2 other =>
    refine iff_of_false nofun fun h => ?_
    obtain ⟨k, hk⟩ : ∃ k, l.length = k + 6 := ⟨_, h.trans (Nat.add_comm _ _)⟩
    match l, hk with
    | _ :: _ :: _ :: _ :: _ :: _ :: _, _ => exact other _ _ _ _ _ _ _ rfl

/-- Entries are read only with a count other than 0 (R179). -/
theorem isSome_unless_zero {c : Byte} {o : Option α} :
    (if c = 0#8 then none else o).isSome = true ↔ o.isSome = true ∧ c.toNat ≠ 0 := by
  have zero : c.toNat = 0 ↔ c = 0#8 := BitVec.toNat_inj (y := 0#8)
  rw [ne_eq, zero]
  split
  case isTrue none_stated => exact iff_of_false nofun fun ⟨_, some_stated⟩ => some_stated none_stated
  case isFalse some_stated => exact (and_iff_left some_stated).symm

theorem biasArgs_isSome (l : List Byte) :
    (biasArgs l).isSome = true ↔ l.length = 2 + 4 * byteAt l 1 ∧ byteAt l 1 ≠ 0 := by
  unfold biasArgs
  split
  case h_1 i c more =>
    rw [isSome_unless_zero, Option.isSome_map, counted_foursOf_isSome]
    show _ ↔ more.length + 2 = 2 + 4 * c.toNat ∧ c.toNat ≠ 0
    omega
  case h_2 other =>
    refine iff_of_false nofun fun ⟨h, _⟩ => ?_
    obtain ⟨k, hk⟩ : ∃ k, l.length = k + 2 := ⟨_, h.trans (Nat.add_comm _ _)⟩
    match l, hk with
    | _ :: _ :: _, _ => exact other _ _ _ rfl

theorem stdfArgs_isSome (l : List Byte) :
    (stdfArgs l).isSome = true ↔ l.length = 2 + 2 * byteAt l 1 ∧ byteAt l 1 ≠ 0 := by
  unfold stdfArgs
  split
  case h_1 i c more =>
    rw [isSome_unless_zero, Option.isSome_map, counted_pairsOf_isSome]
    show _ ↔ more.length + 2 = 2 + 2 * c.toNat ∧ c.toNat ≠ 0
    omega
  case h_2 other =>
    refine iff_of_false nofun fun ⟨h, _⟩ => ?_
    obtain ⟨k, hk⟩ : ∃ k, l.length = k + 2 := ⟨_, h.trans (Nat.add_comm _ _)⟩
    match l, hk with
    | _ :: _ :: _, _ => exact other _ _ _ rfl

theorem slotImageArgs_isSome (l : List Byte) : (slotImageArgs l).isSome = true ↔ l.length = 4 + 4 * wordAt l 2 := by
  unfold slotImageArgs
  split
  case h_1 s c e1 e0 more =>
    rw [Option.isSome_map, counted_foursOf_isSome, u16_eq_add]
    show _ ↔ more.length + 4 = 4 + 4 * (256 * e1.toNat + e0.toNat)
    omega
  case h_2 other =>
    refine iff_of_false nofun fun h => ?_
    obtain ⟨k, hk⟩ : ∃ k, l.length = k + 4 := ⟨_, h.trans (Nat.add_comm _ _)⟩
    match l, hk with
    | _ :: _ :: _ :: _ :: _, _ => exact other _ _ _ _ _ rfl

/-- The fixed range's four bytes stand there with the presence byte 1 alone (log 19). -/
theorem mapArgs_isSome (l : List Byte) : (mapArgs l).isSome = true ↔
    l.length = 8 + (if byteAt l 7 = 1 then 4 else 0) + 2 * wordAt l 5 := by
  unfold mapArgs
  split
  case h_1 letter i1 i0 n1 n0 b1 b0 p more =>
    have one : p.toNat = 1 ↔ p = 1#8 := BitVec.toNat_inj (y := 1#8)
    show _ ↔ more.length + 8 = 8 + (if p.toNat = 1 then 4 else 0) + 2 * (256 * b1.toNat + b0.toNat)
    simp only [one, ← u16_eq_add]
    split
    case isTrue =>
      split
      case h_1 f1 f0 t1 t0 bounds =>
        rw [Option.isSome_map, counted_pairsOf_isSome]
        simp only [List.length_cons]
        omega
      case h_2 other =>
        refine iff_of_false nofun fun h => ?_
        obtain ⟨k, hk⟩ : ∃ k, more.length = k + 4 := ⟨2 * u16 b1 b0, by omega⟩
        match more, hk with
        | _ :: _ :: _ :: _ :: _, _ => exact other _ _ _ _ _ rfl
    case isFalse =>
      rw [Option.isSome_map, counted_pairsOf_isSome]
      omega
  case h_2 other =>
    refine iff_of_false nofun fun h => ?_
    obtain ⟨k, hk⟩ : ∃ k, l.length = k + 8 := ⟨l.length - 8, by omega⟩
    match l, hk with
    | _ :: _ :: _ :: _ :: _ :: _ :: _ :: _ :: _, _ => exact other _ _ _ _ _ _ _ _ _ rfl

theorem contextTail_isSome (tracking action : Byte) (l : List Byte) : (contextTail tracking action l).isSome = true ↔
    l.length = (if tracking.toNat = 1 then 2 else 0) + (if action.toNat = 2 then 1 else 0) := by
  have one : tracking.toNat = 1 ↔ tracking = 1#8 := BitVec.toNat_inj (y := 1#8)
  have two : action.toNat = 2 ↔ action = 2#8 := BitVec.toNat_inj (y := 2#8)
  simp only [one, two]
  by_cases tracks : tracking = 1#8 <;> by_cases restores : action = 2#8 <;>
    rcases l with _ | ⟨a, _ | ⟨b, _ | ⟨c, _ | ⟨d, more⟩⟩⟩⟩ <;> simp [contextTail, tracks, restores]

theorem contextArgs_isSome (l : List Byte) : (contextArgs l).isSome = true ↔
    l.length = 18 + (if byteAt l 16 = 1 then 2 else 0) + (if byteAt l 17 = 2 then 1 else 0) := by
  unfold contextArgs
  split
  case h_1 tracking action more =>
    rw [Option.isSome_map, contextTail_isSome]
    show _ ↔ more.length + 18 = 18 + (if tracking.toNat = 1 then 2 else 0) + (if action.toNat = 2 then 1 else 0)
    omega
  case h_2 other =>
    refine iff_of_false nofun fun h => ?_
    obtain ⟨k, hk⟩ : ∃ k, l.length = k + 18 := ⟨l.length - 18, by omega⟩
    match l, hk with
    | _ :: _ :: _ :: _ :: _ :: _ :: _ :: _ :: _ :: _ :: _ :: _ :: _ :: _ :: _ :: _ :: _ :: _ :: _, _ =>
      exact other _ _ _ _ _ _ _ _ _ _ _ _ _ _ _ _ _ _ _ rfl

/-! ### Monitor records cut from their bytes (table 11-9) -/

theorem monitorTail_cut {e c s : Byte} {range : Option (Nat × Nat)} {bytes more : List Byte} {m : MonitorArgs}
    (h : monitorTail e c s range bytes = some (m, more)) : ∃ t, t.length = 10 ∧ bytes = t ++ more := by
  unfold monitorTail at h
  split at h
  case h_1 l3 l2 l1 l0 h3 h2 h1 h0 p k _ =>
    obtain ⟨-, rfl⟩ := Prod.mk.inj (Option.some.inj h)
    exact ⟨[l3, l2, l1, l0, h3, h2, h1, h0, p, k], rfl, rfl⟩
  case h_2 => exact nomatch h

theorem monitorRecordArgs_cut {bytes more : List Byte} {m : MonitorArgs}
    (h : monitorRecordArgs bytes = some (m, more)) : ∃ r, IsMonitorRecord r ∧ bytes = r ++ more := by
  unfold monitorRecordArgs at h
  split at h
  case h_2 => exact nomatch h
  case h_1 e c s _ =>
    split at h
    case isTrue slice =>
      split at h
      case h_2 => exact nomatch h
      case h_1 f1 f0 t1 t0 _ =>
        obtain ⟨t, len, rfl⟩ := monitorTail_cut h
        exact ⟨[e, c, s, f1, f0, t1, t0] ++ t, by simp [IsMonitorRecord, slice, len], by simp⟩
    case isFalse other =>
      obtain ⟨t, len, rfl⟩ := monitorTail_cut h
      exact ⟨[e, c, s] ++ t, by simp [IsMonitorRecord, other, len], by simp⟩

/-- A number of monitor records is read exactly from bytes that are so many records in a row. -/
theorem monitorRecords_isSome : ∀ (n : Nat) (bytes : List Byte), (monitorRecords n bytes).isSome = true ↔
    ∃ records : List (List Byte), records.length = n ∧ bytes = records.flatten ∧ ∀ r ∈ records, IsMonitorRecord r := by
  intro n bytes
  constructor
  case mpr =>
    rintro ⟨records, rfl, rfl, each⟩
    rw [monitorRecords_flatten each]
    rfl
  induction n generalizing bytes with
  | zero =>
    intro h
    cases bytes with
    | nil => exact ⟨[], rfl, rfl, nofun⟩
    | cons => exact nomatch h
  | succ n ih =>
    intro h
    unfold monitorRecords at h
    split at h
    case h_2 => exact nomatch h
    case h_1 m more first =>
      obtain ⟨r, isRecord, rfl⟩ := monitorRecordArgs_cut first
      rw [Option.isSome_map] at h
      obtain ⟨records, count, rfl, each⟩ := ih more h
      exact ⟨r :: records, by rw [List.length_cons, count], rfl, List.forall_mem_cons.mpr ⟨isRecord, each⟩⟩

theorem monitorArgs_isSome (l : List Byte) : (monitorArgs l).isSome = true ↔ byteAt l 1 ≠ 0 ∧
    ∃ records : List (List Byte), records.length = byteAt l 1 ∧ l = l.take 2 ++ records.flatten ∧
      ∀ r ∈ records, IsMonitorRecord r := by
  unfold monitorArgs
  split
  case h_1 i c more =>
    rw [isSome_unless_zero, Option.isSome_map, monitorRecords_isSome, and_comm]
    simp [byteAt]
  case h_2 other =>
    refine iff_of_false nofun fun ⟨some_stated, _⟩ => ?_
    match l with
    | [] | [_] => exact some_stated rfl
    | _ :: _ :: _ => exact other _ _ _ rfl

/-! ### Addresses of READ_TABLE (table 11-9) -/

/-- The length of a READ_TABLE's arguments is that of its region; a code that names none allows any (R179). The cases are
none, one, two, and more bytes after the region's. -/
theorem readArgs_isSome (region : Byte) (more : List Byte) : (readArgs (region :: more)).isSome =
    decide (region.toNat ≤ 8 → [2, 3, 1, 2, 3, 1, 1, 1, 3][region.toNat]? = some (more.length + 1)) := by
  by_cases known : region.toNat ≤ 8
  case neg =>
    rw [readArgs_unknownRegion more (Nat.not_le.mp known)]
    exact (decide_eq_true fun h => absurd h known).symm
  case pos =>
    unfold readArgs
    dsimp only
    generalize region.toNat = k at known ⊢
    rcases more with _ | ⟨a, _ | ⟨b, _ | ⟨c, more⟩⟩⟩
    all_goals interval_cases k
    all_goals rfl

end Sys2Proof.Machine

/-! ## Form, gate, and what each code allows (O51) -/

namespace Sys2Proof.Machine

variable {s t : State} {f : CommandFrame} {rest : List CommandFrame} {row : CommandRow}

/-! ### Every row as the handler's one procedure (R177, R179) -/

/-- A row of the handler runs the one procedure over a parser that takes exactly what has the row's form, and the condition
unit takes what the owner raised, where it can raise. -/
def CommandRow.IsServed (row : CommandRow) : Prop :=
  ∃ (α : Type) (parse : List Byte → Option α) (owner : α → State → Answer),
    (∀ args, row.wellFormedArgs args = (parse args).isSome) ∧
    ((∀ s, exec row.command s = .next (serve row parse owner s)) ∨
      ∀ s, exec row.command s = .next (settle (serve row parse owner s)))

theorem CommandRow.isServed (row : CommandRow) : row.IsServed := by
  have noArgs_isSome (args : List Byte) : args.isEmpty = (noArgs args).isSome := by cases args <;> rfl
  cases row
  case pushContext | sheetNotice | passDown => exact ⟨_, _, _, fun _ => rfl, .inr fun _ => rfl⟩
  case readStatus | lockCalibration | flushQueue | startScan | stopScan | park | resume | standardize | clearProfile
    | ackAlarm | clearCounters | restart => exact ⟨_, _, _, noArgs_isSome, .inl fun _ => rfl⟩
  case unknownCode => exact ⟨Unit, fun _ => none, _, fun _ => rfl, .inl fun _ => rfl⟩
  all_goals exact ⟨_, _, _, fun _ => rfl, .inl fun _ => rfl⟩

/-- Where the procedure leaves no raising, a row leaves what the procedure leaves. -/
theorem exec_of_serve (α : Type) {parse : List Byte → Option α} {owner : α → State → Answer}
    (served : (∀ s, exec row.command s = .next (serve row parse owner s)) ∨
      ∀ s, exec row.command s = .next (settle (serve row parse owner s)))
    (h : serve row parse owner s = t) (quiet : t.conditions.raised = []) : exec row.command s = .next t := by
  obtain plain | settles := served
  · rw [plain, h]
  · rw [settles, h, settle_nil t quiet]

section
variable (quiet : s.conditions.raised = [])
include quiet

theorem exec_notReady (row : CommandRow) (h : s.handler.phase ≠ .ready) : exec row.command s = .next s := by
  obtain ⟨α, parse, owner, -, served⟩ := row.isServed
  exact exec_of_serve α served (serve_notReady h) quiet

variable (hand : AtHand f rest s) (hrow : rowOf f = row)
include hand hrow

theorem exec_malformed (h : row.wellFormedArgs f.args = false) :
    exec row.command s = .next (s.answered f rest .malformed []) := by
  obtain ⟨α, parse, owner, form, served⟩ := row.isServed
  have unread : parse f.args = none := by rwa [form, Option.isSome_eq_false_iff, Option.isNone_iff_eq_none] at h
  exact exec_of_serve α served (serve_malformed hand hrow unread) quiet

theorem exec_alarmPending (h : row.wellFormedArgs f.args = true) (altering : row.altering = true)
    (pending : s.conditions.summary = true) : exec row.command s = .next (s.answered f rest .alarmPending []) := by
  obtain ⟨α, parse, owner, form, served⟩ := row.isServed
  rw [form] at h
  obtain ⟨a, parsed⟩ := Option.isSome_iff_exists.mp h
  exact exec_of_serve α served (serve_alarmPending hand hrow parsed altering pending) quiet

end

/-! ### The row of a code (tables 11-6, 11-7) -/

theorem rowOf_unknown (h : f.code.toNat = 0x00 ∨ f.code.toNat = 0x10 ∨ 0x1C ≤ f.code.toNat) :
    rowOf f = .unknownCode := by
  obtain h | h | h := h
  · simp [rowOf, h]
  · simp [rowOf, h]
  · obtain ⟨n, hn⟩ : ∃ n, f.code.toNat = n + 28 := ⟨f.code.toNat - 28, by omega⟩
    simp [rowOf, hn]

theorem rowOf_readTable (h : f.code.toNat = 0x02) : rowOf f = .readTable := by simp [rowOf, h]
theorem rowOf_pushContext (h : f.code.toNat = 0x05) : rowOf f = .pushContext := by simp [rowOf, h]
theorem rowOf_passDown (h : f.code.toNat = 0x1A) : rowOf f = .passDown := by simp [rowOf, h]

theorem writeRow_altering (args : List Byte) : (writeRow args).altering = true := by
  unfold writeRow
  split
  case h_1 => rfl
  case h_2 =>
    split
    case h_9 rest _ =>
      unfold slotRow
      split
      · split <;> rfl
      · rfl
    all_goals rfl

/-- The altering commands by their codes (R169): WRITE_TABLE whatever its region, and ten codes more. -/
theorem rowOf_altering_iff (f : CommandFrame) : (rowOf f).altering = true ↔
    f.code.toNat ∈ [0x03, 0x04, 0x05, 0x06, 0x07, 0x0A, 0x0B, 0x0C, 0x11, 0x12, 0x13] := by
  unfold rowOf
  generalize f.code.toNat = code
  split
  case h_3 => exact iff_of_true (writeRow_altering f.args) (by decide)
  case h_27 => simp_all [CommandRow.altering]
  all_goals simp [CommandRow.altering]

theorem rowOf_argLength (f : CommandFrame) :
    (f.code.toNat ∈ [0x01, 0x04, 0x06, 0x07, 0x08, 0x09, 0x0A, 0x0C, 0x13, 0x15, 0x18, 0x1B] →
      (rowOf f).argLength = some 0) ∧
    (f.code.toNat ∈ [0x0D, 0x0E, 0x0F, 0x12, 0x14] → (rowOf f).argLength = some 1) ∧
    (f.code.toNat ∈ [0x0B, 0x19] → (rowOf f).argLength = some 2) ∧
    (f.code.toNat ∈ [0x11, 0x16, 0x17] → (rowOf f).argLength = some 3) := by
  unfold rowOf
  generalize f.code.toNat = code
  refine ⟨fun h => ?_, fun h => ?_, fun h => ?_, fun h => ?_⟩
  all_goals fin_cases h
  all_goals rfl

section
variable {region : Byte} (more : List Byte)

theorem writeRow_curve (h : region.toNat = 0) : writeRow (region :: more) = .writeCurve := by simp [writeRow, h]
theorem writeRow_bias (h : region.toNat = 1) : writeRow (region :: more) = .writeBias := by simp [writeRow, h]
theorem writeRow_stdf (h : region.toNat = 2) : writeRow (region :: more) = .writeStdf := by simp [writeRow, h]
theorem writeRow_map (h : region.toNat = 3) : writeRow (region :: more) = .writeMap := by simp [writeRow, h]
theorem writeRow_monitor (h : region.toNat = 4) : writeRow (region :: more) = .writeMonitor := by simp [writeRow, h]
theorem writeRow_sheet (h : region.toNat = 5) : writeRow (region :: more) = .writeSheet := by simp [writeRow, h]
theorem writeRow_frame (h : region.toNat = 6) : writeRow (region :: more) = .writeFrame := by simp [writeRow, h]
theorem writeRow_channel (h : region.toNat = 7) : writeRow (region :: more) = .writeChannel := by simp [writeRow, h]
theorem writeRow_slot (h : region.toNat = 8) : writeRow (region :: more) = slotRow more := by simp [writeRow, h]

theorem writeRow_unknown (h : 9 ≤ region.toNat) : writeRow (region :: more) = .writeUnknownRegion := by
  obtain ⟨n, hn⟩ : ∃ n, region.toNat = n + 9 := ⟨region.toNat - 9, by omega⟩
  simp [writeRow, hn]

/-- A SLOT write of part 0x80 has the header's form, one of another part the image's (log 18); one that ends before its
part has neither. -/
theorem slotRow_formed (region : Byte) (more : List Byte) :
    (slotRow more).wellFormedArgs (region :: more) = true ↔
      more.length + 1 = if byteAt more 1 = 0x80 then 7 else 5 + 4 * wordAt more 2 := by
  match more with
  | [] | [_] => exact iff_of_false nofun nofun
  | slot :: part :: more =>
    have header : part.toNat = 0x80 ↔ part = 0x80#8 := BitVec.toNat_inj (y := 0x80#8)
    show (if part = 0x80#8 then CommandRow.writeSlotHeader else .writeSlotImage).wellFormedArgs _ = true ↔
      _ = if part.toNat = 0x80 then 7 else _
    simp only [header]
    split
    · exact wellFormedArgs_iff_length rfl _
    · refine (slotImageArgs_isSome (slot :: part :: more)).trans ?_
      omega

end

/-! ### The forms of PASS_DOWN and READ_TABLE -/

theorem passPayload_isSome (l : List Byte) : (passPayload l).isSome = true ↔ 1 ≤ l.length := by
  cases l with
  | nil => exact iff_of_false nofun nofun
  | cons b more => exact iff_of_true rfl (Nat.le_add_left 1 _)

theorem readTable_formed (l : List Byte) : (readArgs l).isSome = true ↔
    1 ≤ l.length ∧ (byteAt l 0 ≤ 8 → [2, 3, 1, 2, 3, 1, 1, 1, 3][byteAt l 0]? = some l.length) := by
  cases l with
  | nil => exact iff_of_false nofun fun ⟨some_byte, _⟩ => absurd some_byte (by decide)
  | cons region more =>
    rw [readArgs_isSome, decide_eq_true_iff]
    exact (and_iff_right (Nat.le_add_left 1 _)).symm

/-- The form of each region of WRITE_TABLE (R179 step 1, table 11-9), over the bytes after the region's. -/
theorem writeTable_formed (region : Byte) (more : List Byte) :
    let formed := (writeRow (region :: more)).wellFormedArgs (region :: more) = true
    let n := (region :: more).length
    (region.toNat = 0 → (formed ↔ n = 7 + 4 * byteAt more 1)) ∧
    (region.toNat = 1 → (formed ↔ n = 3 + 4 * byteAt more 1 ∧ byteAt more 1 ≠ 0)) ∧
    (region.toNat = 2 → (formed ↔ n = 3 + 2 * byteAt more 1 ∧ byteAt more 1 ≠ 0)) ∧
    (region.toNat = 3 → (formed ↔ n = 9 + (if byteAt more 7 = 1 then 4 else 0) + 2 * wordAt more 5)) ∧
    (region.toNat = 4 → (formed ↔ byteAt more 1 ≠ 0 ∧ ∃ records : List (List Byte), records.length = byteAt more 1 ∧
      region :: more = (region :: more).take 3 ++ records.flatten ∧ ∀ r ∈ records, IsMonitorRecord r)) ∧
    (region.toNat = 5 → (formed ↔ n = 14)) ∧ (region.toNat = 6 → (formed ↔ n = 15)) ∧
    (region.toNat = 7 → (formed ↔ n = 4)) ∧
    (region.toNat = 8 → (formed ↔ n = if byteAt more 1 = 0x80 then 7 else 5 + 4 * wordAt more 2)) ∧
    (9 ≤ region.toNat → formed) := by
  dsimp only
  rw [List.length_cons]
  refine ⟨fun h => ?curve, fun h => ?bias, fun h => ?stdf, fun h => ?map, fun h => ?monitor, fun h => ?sheet,
    fun h => ?frame, fun h => ?channel, fun h => ?slot, fun h => ?unknown⟩
  case curve =>
    rw [writeRow_curve more h]
    exact (curveArgs_isSome more).trans (by omega)
  case bias =>
    rw [writeRow_bias more h]
    exact (biasArgs_isSome more).trans (by omega)
  case stdf =>
    rw [writeRow_stdf more h]
    exact (stdfArgs_isSome more).trans (by omega)
  case map =>
    rw [writeRow_map more h]
    exact (mapArgs_isSome more).trans (by omega)
  case monitor =>
    rw [writeRow_monitor more h]
    refine (monitorArgs_isSome more).trans ?_
    simp only [List.take_succ_cons, List.cons_append, List.cons.injEq, true_and]
  case sheet =>
    rw [writeRow_sheet more h]
    exact wellFormedArgs_iff_length rfl _
  case frame =>
    rw [writeRow_frame more h]
    exact wellFormedArgs_iff_length rfl _
  case channel =>
    rw [writeRow_channel more h]
    exact wellFormedArgs_iff_length rfl _
  case slot =>
    rw [writeRow_slot more h]
    exact slotRow_formed region more
  case unknown =>
    rw [writeRow_unknown more h]
    rfl

/-- Settles O51: form and gate for every row by the handler's one procedure, then the codes that alter, and the form of each
code and region. -/
theorem formThenGateAnswerFirst : Obligations.FormThenGateAnswerFirst := by
  unfold Obligations.FormThenGateAnswerFirst
  refine ⟨fun row f rest s hand quiet hrow => ⟨exec_malformed quiet hand hrow, exec_alarmPending quiet hand hrow⟩,
    fun row s quiet busy => exec_notReady quiet row busy, fun f rest s hand unknown => ?_, rowOf_altering_iff,
    fun f => ?_⟩
  · have code : f.code.toNat = 0x00 ∨ f.code.toNat = 0x10 ∨ 0x1C ≤ f.code.toNat :=
      unknown.imp (congrArg _) (.imp_left (congrArg _))
    exact congrArg Host.Outcome.next (serve_malformed hand (rowOf_unknown code) rfl)
  intro formed code n arg
  have formed_of {row : CommandRow} (hrow : rowOf f = row) : formed ↔ row.wellFormedArgs f.args = true := by
    rw [← hrow]
  obtain ⟨noArgs, oneByte, twoBytes, threeBytes⟩ := rowOf_argLength f
  refine ⟨fun h => wellFormedArgs_iff_length (noArgs h) _, fun h => wellFormedArgs_iff_length (oneByte h) _,
    fun h => wellFormedArgs_iff_length (twoBytes h) _, fun h => wellFormedArgs_iff_length (threeBytes h) _,
    fun h => (formed_of (rowOf_passDown h)).trans (passPayload_isSome f.args),
    fun h holds => Bool.false_ne_true ((formed_of (rowOf_unknown h)).mp holds),
    fun h => (formed_of (rowOf_pushContext h)).trans (contextArgs_isSome f.args),
    fun h => (formed_of (rowOf_readTable h)).trans (readTable_formed f.args), fun h empty holds => ?noRegion,
    fun h some_byte => ?region⟩
  all_goals
    have write : f.code = 0x03#8 := BitVec.eq_of_toNat_eq h
    obtain ⟨sequence, command, args⟩ := f
    obtain rfl : command = 0x03#8 := write
  case noRegion =>
    obtain rfl : args = [] := List.length_eq_zero_iff.mp empty
    exact nomatch holds
  case region =>
    cases args with
    | nil => exact absurd some_byte (Nat.not_succ_le_zero 0)
    | cons region more => exact writeTable_formed region more

end Sys2Proof.Machine

/-! ## What the handler holds while it answers: operations and owners (O10) -/

namespace Sys2Proof.Machine

variable {s t : State}

/-! ### What the invariant reads of a state -/

/-- Of the handler and the response slot, what `HandlerAnswers` reads. -/
structure Exchange where
  phase : HandlerPhase
  current : Option CommandFrame
  response : Option Response

def State.exchange (s : State) : Exchange := ⟨s.handler.phase, s.handler.current, s.mill.response⟩

theorem HandlerAnswers.of_eq (h : HandlerAnswers s) (e : t.exchange = s.exchange) : HandlerAnswers t := by
  obtain ⟨phase, current, response⟩ := Exchange.mk.inj e
  unfold HandlerAnswers
  rw [phase, current, response]
  exact h

/-! ### Operations that leave it -/

theorem Untouched.exchange (h : Untouched s t) : t.exchange = s.exchange := by
  rw [State.exchange, h.handler, h.mill]
  rfl

theorem Steady.exchange (h : Steady s t) : t.exchange = s.exchange := h.untouched.exchange

theorem settle_exchange (s : State) : (settle s).exchange = s.exchange := by simp [State.exchange]

theorem raiseIf_exchange (b : Bool) (c : Condition) (s : State) : (raiseIf b c s).exchange = s.exchange := by
  simp [State.exchange]

/-- A sample passes the handler and the response slot by. -/
theorem takeSample_exchange (f : SampleFrame) (s : State) : (takeSample f s).exchange = s.exchange := by
  rw [(takeSample_untouched f s).exchange, conditionerTakes_eq]
  rfl

theorem takeDriveStatus_exchange (d : DriveStatus) (s : State) : (takeDriveStatus d s).exchange = s.exchange := by
  unfold takeDriveStatus
  dsimp only
  split
  case h_1 =>
    split
    · exact ((sendStop_steady _).trans (raise_steady rfl _)).exchange
    · split
      · exact ((goPark_steady _).trans (startSilence_steady _)).exchange
      · rfl
  case h_2 => exact raiseIf_exchange _ _ _
  all_goals
    split
    · exact (driveFault_steady _).exchange
    · rfl

theorem queuePassUp_exchange (p : List Byte) (s : State) : (queuePassUp p s).exchange = s.exchange := by
  unfold queuePassUp
  split <;> rfl

/-- A COMMAND joins the queue behind the command in hand, which stays. -/
theorem queueCommand_exchange (f : CommandFrame) (s : State) : (queueCommand f s).exchange = s.exchange := by
  unfold queueCommand
  split <;> rfl

theorem completeMonitors_exchange (bank : Bank) (p : ClosingParams) (m : MeansResults) (st : StatsResults) (s : State) :
    (completeMonitors bank p m st s).exchange = s.exchange :=
  (raiseIf_exchange _ _ _).trans (raiseIf_exchange _ _ _)

theorem completeReport_exchange (bank : Bank) (p : ClosingParams) (m : MeansResults) (st : StatsResults)
    (mons : List MonitorResult) (s : State) : (completeReport bank p m st mons s).exchange = s.exchange := by
  refine (checkDue_steady _).exchange.trans ?_
  rw [State.exchange, applyPending_handler, applyPending_mill, placeReport_eq]
  rfl

/-- The arbiter leaves the exchange, or it sends the response and frees the handler (R193, R177). -/
theorem arbitrate_answers (h : HandlerAnswers s) : HandlerAnswers (arbitrate s) := by
  unfold arbitrate
  split
  case h_2 => trivial
  all_goals exact h.of_eq rfl

/-! ### The owners of the carriage's and the break watch's commands leave the handler -/

theorem standardizeCommand_handler (a : Unit) (s : State) : (standardizeCommand a s).state.handler = s.handler := by
  unfold standardizeCommand
  split
  case h_1 | h_2 | h_3 => rfl
  all_goals exact (setRequest_steady s).untouched.handler

theorem parkCommand_handler (a : Unit) (s : State) : (parkCommand a s).state.handler = s.handler := by
  have parked (v : State) : (goPark v).handler = v.handler := (goPark_steady v).untouched.handler
  unfold parkCommand
  split
  case h_1 | h_2 => rfl
  case h_3 => exact (parked _).trans (abandonCollection_handler _)
  case h_8 =>
    split
    · exact parked s
    · rfl
  all_goals exact (parked _).trans (abandonTraverse_handler ..)

theorem startCommand_handler (a : Unit) (s : State) : (startCommand a s).state.handler = s.handler := by
  unfold startCommand
  split
  · rfl
  · exact (startScanning_steady s).untouched.handler

theorem stopCommand_handler (a : Unit) (s : State) : (stopCommand a s).state.handler = s.handler := by
  unfold stopCommand
  dsimp only
  split
  case h_1 | h_2 => exact (goPark_steady _).untouched.handler
  all_goals rfl

theorem resumeCommand_handler (a : Unit) (s : State) : (resumeCommand a s).state.handler = s.handler := by
  unfold resumeCommand
  split
  case h_1 =>
    split
    · rfl
    · split
      · rfl
      · exact (beginApproach_steady _).untouched.handler
  all_goals rfl

theorem fixedPointCommand_handler (p : Nat) (s : State) : (fixedPointCommand p s).state.handler = s.handler := by
  unfold fixedPointCommand
  split
  · rfl
  · split
    case h_1 | h_2 | h_3 | h_4 => rfl
    all_goals
      split
      · rfl
      · exact (goFixed_steady s p).untouched.handler

theorem sheetNotice_handler (k : Nat) (s : State) : (sheetNotice k s).state.handler = s.handler := by
  unfold sheetNotice breakNotice restoredNotice
  split
  · split
    case h_1 | h_2 => exact (declareBreak_steady .mill s).untouched.handler
    all_goals rfl
  · split <;> rfl
  · rfl

/-- RESTART keeps the inbound queue and the command in hand (R186). -/
theorem restartCommand_handler (a : Unit) (s : State) : (restartCommand a s).state.handler = s.handler :=
  (restartCarriage_steady _).untouched.handler.trans (abandonCollection_handler s)

end Sys2Proof.Machine

/-! ## The handler READY with nothing in hand or ANSWERED, row by row (O10) -/

namespace Sys2Proof.Machine

variable {s t : State}

/-- A command answered is in hand with its own response placed, whatever else its owner did (R177, R180). -/
theorem respond_answers {f : CommandFrame} {a : Answer} (inHand : a.state.handler.current = some f) :
    HandlerAnswers (respond f a) := by
  unfold HandlerAnswers
  rw [show (respond f a).handler.current = some f from inHand]
  exact ⟨rfl, rfl⟩

/-- A row of the handler whose owner leaves the handler. -/
theorem serve_answers {α : Type} {row : CommandRow} {parse : List Byte → Option α} {owner : α → State → Answer}
    (owned : ∀ a u, (owner a u).state.handler = u.handler) (hs : HandlerAnswers s) :
    HandlerAnswers (serve row parse owner s) := by
  obtain e | ⟨f, rest, -, e⟩ := serve_idle_or_answers row parse owner s <;> rw [e]
  · exact hs
  · exact respond_answers (answerTo_ind (P := fun u => u.handler.current = some f) rfl
      (fun a => congrArg Handler.current (owned a (s.taken f rest))) f.args)

/-- An owner whose result is known and keeps the handler's record. -/
theorem handler_of_state {u v : State} (e : t = v) (kept : v.handler = u.handler := by rfl) : t.handler = u.handler :=
  (congrArg State.handler e).trans kept

theorem settle_answers (h : HandlerAnswers s) : HandlerAnswers (settle s) := h.of_eq (settle_exchange s)

theorem exec_handlerAnswers (i : Instr) (hs : HandlerAnswers s) (h : exec i s = .next t) : HandlerAnswers t := by
  cases i
  all_goals obtain rfl := Host.Outcome.next.inj h
  case powerOnReset => trivial
  case sample f => exact settle_answers (hs.of_eq (takeSample_exchange f s))
  case headAnnounce | millFrameCompleted | carriageTransmit | carriageFrameCompleted | millisecondTick => exact hs
  case driveStatus d => exact settle_answers (hs.of_eq (takeDriveStatus_exchange d _))
  case passUp p => exact settle_answers (hs.of_eq (queuePassUp_exchange p _))
  case command f => exact settle_answers (hs.of_eq (queueCommand_exchange f _))
  case frameCheckFailure l c => cases l <;> exact settle_answers (hs.of_eq rfl)
  case syncPairFound l =>
    split
    · cases l <;> exact hs
    · exact hs
  case millTransmit =>
    split
    · exact arbitrate_answers hs
    · exact hs
  case silenceTimerExpiry =>
    split
    · exact settle_answers (hs.of_eq (silenceExpires_steady s).exchange)
    · exact hs
  case stallTimerExpiry =>
    split
    · split
      · exact settle_answers (hs.of_eq (stallExpires_steady _ s).exchange)
      · exact hs
    · exact hs
  case stdTimerExpiry =>
    split
    · split
      · exact settle_answers (hs.of_eq
          (((abandonCollection_steady s).trans (raise_steady rfl _)).trans (standardizeEnded_steady _)).exchange)
      · exact hs
    · exact hs
  case probeTimerExpiry =>
    split
    · exact hs.of_eq (probeRequest_steady _).exchange
    · exact hs
  case probeDwellExpiry =>
    split
    · exact hs.of_eq ((parkRequest_steady _).trans (startProbeTimer_steady _)).exchange
    · exact hs
  case holdOffExpiry =>
    split
    · exact settle_answers (hs.of_eq (endBreak_steady s).exchange)
    · exact hs
  case meansComplete | statsComplete => split <;> exact hs
  case filterComplete =>
    split
    · exact settle_answers (hs.of_eq (raiseIf_exchange _ _ _))
    · exact hs
  case monitorsComplete =>
    split
    · exact settle_answers (hs.of_eq (completeMonitors_exchange _ _ _ _ s))
    · exact hs
  case reportComplete =>
    split
    · exact hs.of_eq (completeReport_exchange _ _ _ _ _ s)
    · exact hs
  case startScan => exact serve_answers startCommand_handler hs
  case stopScan => exact serve_answers stopCommand_handler hs
  case park => exact serve_answers parkCommand_handler hs
  case resume => exact serve_answers resumeCommand_handler hs
  case fixedPoint => exact serve_answers fixedPointCommand_handler hs
  case standardize => exact serve_answers standardizeCommand_handler hs
  case sheetNotice => exact settle_answers (serve_answers sheetNotice_handler hs)
  case restart => exact serve_answers restartCommand_handler hs
  case writeTableCurve => exact serve_answers (fun a u => have ⟨_, e⟩ := writeCurve_state u a; handler_of_state e) hs
  case writeTableBias => exact serve_answers (fun a u => have ⟨_, e⟩ := writeBias_state u a; handler_of_state e) hs
  case writeTableStdf => exact serve_answers (fun a u => have ⟨_, e⟩ := writeStdf_state u a; handler_of_state e) hs
  case writeTableMap => exact serve_answers (fun a u => have ⟨_, _, e⟩ := writeMap_state u a; handler_of_state e) hs
  case writeTableMonitor =>
    exact serve_answers (fun a u => have ⟨_, _, _, e⟩ := writeMonitor_state u a; handler_of_state e) hs
  case writeTableSheet => exact serve_answers (fun a u => have ⟨_, _, e⟩ := writeSheet_state u a; handler_of_state e) hs
  case writeTableFrame => exact serve_answers (fun a u => have ⟨_, e⟩ := writeFrame_state u a; handler_of_state e) hs
  case writeTableChannel =>
    exact serve_answers (fun a u => have ⟨_, e⟩ := writeChannel_state u a; handler_of_state e) hs
  case writeTableSlotHeader =>
    exact serve_answers (fun a u => have ⟨_, _, e⟩ := writeSlotHeader_state u a; handler_of_state e) hs
  case writeTableSlotImage =>
    exact serve_answers (fun a u => have ⟨_, _, e⟩ := writeSlotImage_state u a; handler_of_state e) hs
  case saveProfile => exact serve_answers (fun a u => have ⟨_, _, e⟩ := saveProfile_state u a; handler_of_state e) hs
  case restoreProfile =>
    exact serve_answers (fun a u => have ⟨_, _, e⟩ := restoreProfile_state u a; handler_of_state e) hs
  case clearProfile => exact serve_answers (fun a u => have ⟨_, _, e⟩ := clearProfile_state u a; handler_of_state e) hs
  case clearConditions =>
    exact serve_answers (fun a u => have ⟨_, e⟩ := clearConditions_state u a; handler_of_state e) hs
  case setMask => exact serve_answers (fun a u => have ⟨_, e⟩ := setMask_state u a; handler_of_state e) hs
  case flushQueue =>
    refine serve_answers (fun a u => ?_) hs
    obtain e | e := flushQueue_state u a <;> exact handler_of_state e
  case pushContext =>
    refine settle_answers (serve_answers (fun a u => ?_) hs)
    obtain e | e | ⟨_, _, e⟩ := pushContext_state u a <;> exact handler_of_state e
  case passDown =>
    refine settle_answers (serve_answers (fun a u => ?_) hs)
    obtain e | e | ⟨_, e⟩ := passDown_state u a <;> exact handler_of_state e
  case readTable => exact serve_answers (fun a u => handler_of_state (readTable_state u a)) hs
  case readFixed => exact serve_answers (fun a u => handler_of_state (readFixed_state u a)) hs
  case readProfile => exact serve_answers (fun a u => handler_of_state (readProfile_state u a)) hs
  case readTrend => exact serve_answers (fun a u => handler_of_state (readTrend_state u a)) hs
  case readStatus | writeTableUnknownRegion | unknownCommandCode | lockCalibration | ackAlarm | clearCounters
    | setStream =>
    exact serve_answers (fun _ _ => rfl) hs

/-- Settles O10: the handler stays READY with nothing in hand, or ANSWERED with its response placed, row by row. -/
theorem stepKeepsHandlerAnswers : Obligations.StepKeepsHandlerAnswers := by
  unfold Obligations.StepKeepsHandlerAnswers
  intro s t hs h
  unfold step at h
  split at h
  · obtain rfl := Host.Outcome.next.inj h
    exact hs
  · rename_i c rest _
    exact exec_handlerAnswers (s := s.withPending rest) c hs h

end Sys2Proof.Machine

/-! ## Steps, the millisecond tick, and arrivals at the two queues (O1, O4, O17) -/

namespace Sys2Proof.Machine

variable {s : State}

/-! ### One step -/

theorem step_withPending_cons (c : Instr) (q : List Instr) (s : State) :
    step (s.withPending (c :: q)) = exec c (s.withPending q) := rfl

theorem step_withPending_nil (s : State) : step (s.withPending []) = .next (s.withPending []) := rfl

/-- Settles O1: a step with a command in front, and with nothing waiting. -/
theorem stepRunsTheFrontCommand : Obligations.StepRunsTheFrontCommand :=
  fun c q s => ⟨step_withPending_cons c q s, step_withPending_nil s⟩

/-! ### Timers (log 5) -/

section
variable {t : Timer}

theorem Timer.tick_running (h : t.elapsed < t.period) : t.tick = ⟨t.period, t.elapsed + 1⟩ := if_pos h

theorem Timer.tick_counted (h : t.period ≤ t.elapsed) : t.tick = t := if_neg (Nat.not_lt.mpr h)

theorem Timer.due_iff : t.due = true ↔ t.period ≤ t.elapsed := decide_eq_true_iff

theorem Timer.due_eq_false_iff : t.due = false ↔ t.elapsed < t.period := decide_eq_false_iff_not.trans Nat.not_le

end

/-- Settles O4: every field of the next state, then a timer on each side of its period. -/
theorem tickAdvancesTheClockAndTheTimers : Obligations.TickAdvancesTheClockAndTheTimers := by
  unfold Obligations.TickAdvancesTheClockAndTheTimers
  exact ⟨fun s => rfl, fun p e short => ⟨Timer.tick_running short, Timer.due_eq_false_iff.mpr short⟩,
    fun p e counted => ⟨Timer.tick_counted counted, Timer.due_iff.mpr counted⟩⟩

/-! ### Arrivals (R178, R192) -/

theorem queueCommand_room (f : CommandFrame) (room : s.handler.inbound.length < 8) : queueCommand f s =
    { s with handler := { s.handler with inbound := s.handler.inbound ++ [f] } } := if_pos room

theorem queueCommand_full (f : CommandFrame) (full : 8 ≤ s.handler.inbound.length) :
    queueCommand f s = raise .linkError (countCommandDropped s) := if_neg (Nat.not_lt.mpr full)

theorem queuePassUp_room (p : List Byte) (room : s.mill.passUp.length < 4) :
    queuePassUp p s = { s with mill := { s.mill with passUp := s.mill.passUp ++ [p] } } := if_pos room

theorem queuePassUp_full (p : List Byte) (full : 4 ≤ s.mill.passUp.length) :
    queuePassUp p s = raise .linkError (countPassDropped s) := if_neg (Nat.not_lt.mpr full)

section
variable (quiet : s.conditions.raised = [])
include quiet

theorem exec_command_room (f : CommandFrame) (room : s.handler.inbound.length < 8) :
    exec (.command f) s = .next { s with
      mill := { s.mill with receiver := .hunting }
      handler := { s.handler with inbound := s.handler.inbound ++ [f] } } := by
  have arrives : exec (.command f) s = .next (settle (queueCommand f (millDelivered s))) := rfl
  rw [arrives, queueCommand_room (s := millDelivered s) f room]
  exact congrArg Host.Outcome.next (settle_nil _ quiet)

/-- A COMMAND dropped raises LINK_ERROR alone, which the condition unit takes as it was made. -/
theorem exec_command_full (f : CommandFrame) (full : 8 ≤ s.handler.inbound.length) :
    exec (.command f) s = .next { s with
      mill := { s.mill with receiver := .hunting }
      choices := s.choices + 1
      conditions := ConditionUnit.take (countCommandDropped s).conditions (alarmNow .linkError s) } := by
  have arrives : exec (.command f) s = .next (settle (queueCommand f (millDelivered s))) := rfl
  rw [arrives, queueCommand_full (s := millDelivered s) f full]
  exact congrArg Host.Outcome.next (settle_raise (s := countCommandDropped (millDelivered s)) .linkError quiet)

theorem exec_passUp_room (p : List Byte) (room : s.mill.passUp.length < 4) : exec (.passUp p) s = .next { s with
    port := { s.port with receiver := .hunting }
    mill := { s.mill with passUp := s.mill.passUp ++ [p] } } := by
  have arrives : exec (.passUp p) s = .next (settle (queuePassUp p (carriageDelivered s))) := rfl
  rw [arrives, queuePassUp_room (s := carriageDelivered s) p room]
  exact congrArg Host.Outcome.next (settle_nil _ quiet)

theorem exec_passUp_full (p : List Byte) (full : 4 ≤ s.mill.passUp.length) : exec (.passUp p) s = .next { s with
    port := { s.port with receiver := .hunting }
    choices := s.choices + 1
    conditions := ConditionUnit.take (countPassDropped s).conditions (alarmNow .linkError s) } := by
  have arrives : exec (.passUp p) s = .next (settle (queuePassUp p (carriageDelivered s))) := rfl
  rw [arrives, queuePassUp_full (s := carriageDelivered s) p full]
  exact congrArg Host.Outcome.next (settle_raise (s := countPassDropped (carriageDelivered s)) .linkError quiet)

end

/-- Settles O17: each arrival with room in its queue and at a full one. -/
theorem arrivalsJoinTheirQueues : Obligations.ArrivalsJoinTheirQueues := by
  unfold Obligations.ArrivalsJoinTheirQueues
  simp only [← saturate_eq_min]
  exact ⟨fun f s quiet => ⟨exec_command_room quiet f, exec_command_full quiet f⟩,
    fun p s quiet => ⟨exec_passUp_room quiet p, exec_passUp_full quiet p⟩⟩

end Sys2Proof.Machine

/-! ## Frames and their payloads (O15) -/

namespace Sys2Proof

open Machine

/-! ### Flags and numbers in their bytes (table 11-1, R195) -/

/-- The packed flags stand in the bits of the number, the first in bit 0. -/
theorem testBit_packBits : ∀ (l : List Bool) (i : Nat), (packBits l).testBit i = l.getD i false
  | [], i => by simp [packBits]
  | b :: l, 0 => by cases b <;> simp [packBits, bit, Nat.testBit_zero]
  | b :: l, i + 1 => by
    have half : (bit b + 2 * packBits l) / 2 = packBits l := by unfold bit; split <;> omega
    rw [packBits, Nat.testBit_succ, half, testBit_packBits l i, List.getD_cons_succ]

theorem getElem_byte_packBits (l : List Bool) {i : Nat} (h : i < 8) : (byte (packBits l))[i] = l.getD i false := by
  rw [← BitVec.getLsbD_eq_getElem, byte, BitVec.getLsbD_ofNat, testBit_packBits, decide_eq_true h, Bool.true_and]

theorem unpackMeasured_packMeasured (p : PerMeasured Bool) : unpackMeasured (byte (packMeasured p)) = p := by
  simp [unpackMeasured, packMeasured, getElem_byte_packBits]

/-! ### Payloads read back -/

theorem sample_ofPayload_payload {f : SampleFrame} (wf : f.wellFormed = true) :
    SampleFrame.ofPayload f.payload = some f := by
  obtain ⟨sequence, position, reference, hint, ready, bw, mo, ca, tr⟩ := f
  simp only [SampleFrame.wellFormed, Bool.and_eq_true, decide_eq_true_eq] at wf
  obtain ⟨⟨⟨⟨⟨hsequence, hposition⟩, hbw⟩, hmo⟩, hca⟩, htr⟩ := wf
  have hposition : position ≤ 65535 := hposition.trans (by decide)
  have hint_read : (if hint = .rev then Direction.rev else .fwd) = hint := by cases hint <;> rfl
  simp [SampleFrame.payload, SampleFrame.ofPayload, be16, getElem_byte_packBits, unpackMeasured_packMeasured,
    u16_be16, Nat.mod_eq_of_lt (show sequence < 256 by omega), hposition, hbw, hmo, hca, htr,
    hint_read]

theorem driveStatus_ofPayload_payload {d : DriveStatus} (wf : d.wellFormed = true) :
    DriveStatus.ofPayload d.payload = some d := by
  simp [DriveStatus.payload, DriveStatus.ofPayload, be16, getElem_byte_packBits, u16_be16 _ (of_decide_eq_true wf)]

/-! ### A frame at its receiver (R191) -/

/-- The payload of a well-formed event fits a frame, and its receiver makes that event of it. The sequence byte matters to
a COMMAND alone. -/
theorem deliver_frame {i : Instr} {link : Link} {kind sequence : Byte} {payload : List Byte} (wf : i.wellFormed = true)
    (framed : i.frame = some (link, kind, payload)) (own : ∀ f, i = .command f → sequence = f.sequence) :
    payload.length ≤ Config.maxPayload ∧ deliver link kind sequence payload = .ok i := by
  cases i with
  | sample f =>
    cases framed
    exact ⟨by simp [SampleFrame.payload, Config.maxPayload], by simp [deliver, sample_ofPayload_payload wf]⟩
  | headAnnounce fitted =>
    cases framed
    exact ⟨by simp [Config.maxPayload], by simp [deliver, unpackMeasured_packMeasured]⟩
  | driveStatus d =>
    cases framed
    exact ⟨by simp [DriveStatus.payload, Config.maxPayload], by simp [deliver, driveStatus_ofPayload_payload wf]⟩
  | passUp p =>
    cases framed
    have short : payload.length ≤ 256 := of_decide_eq_true (Bool.and_eq_true_iff.mp wf).2
    have taken : payloadWellFormed payload = true := wf
    exact ⟨short.trans (by decide), by simp [deliver, taken]⟩
  | command f =>
    cases framed
    exact ⟨of_decide_eq_true wf, by simp [deliver, own f rfl]⟩
  | _ => cases framed

theorem hunt_wire (kind sequence : Byte) (payload tail : List Byte) : hunt (wire kind sequence payload ++ tail) =
    some (frameBody kind sequence payload ++ be16 (crc16 (frameBody kind sequence payload)).toNat ++ tail) := rfl

/-- A complete frame that passes every check delivers its event, and the receiver goes on behind its CRC. -/
theorem collect_frame {link : Link} {kind sequence : Byte} {payload : List Byte} {i : Instr} (tail : List Byte)
    (fits : payload.length ≤ Config.maxPayload) (delivered : deliver link kind sequence payload = .ok i) :
    collect link (frameBody kind sequence payload ++ be16 (crc16 (frameBody kind sequence payload)).toNat ++ tail) =
      some (i, tail) := by
  have len : u16 (byte (payload.length / 256)) (byte payload.length) = payload.length :=
    u16_be16 _ (fits.trans (by decide))
  generalize check : be16 (crc16 (frameBody kind sequence payload)).toNat = crc
  have two : crc.length = 2 := by rw [← check, be16_length]
  have body : frameBody kind sequence payload ++ crc ++ tail =
      kind :: sequence :: byte (payload.length / 256) :: byte payload.length :: (payload ++ (crc ++ tail)) := by
    simp [frameBody, be16]
  have head : frameBody kind sequence payload =
      kind :: sequence :: byte (payload.length / 256) :: byte payload.length :: payload := rfl
  have behind : (payload ++ (crc ++ tail)).drop (payload.length + 2) = tail := by
    rw [List.drop_length_add_append, ← two, List.drop_left]
  have room : ¬ (payload ++ (crc ++ tail)).length < payload.length + 2 := by simp [two]; omega
  have found : (crc ++ tail).take 2 = crc := by rw [← two, List.take_left]
  rw [body]
  simp only [collect, len, if_neg (Nat.not_lt.mpr fits), if_neg room, List.take_left, List.drop_left, found, ← head,
    check, ne_eq, not_true_eq_false, if_false, delivered, behind]

/-- Settles O15: the receiver hunts past the sync pair, collects the frame and delivers the event its payload was made of. -/
theorem receiverRecoversEveryFrame : Obligations.ReceiverRecoversEveryFrame := by
  unfold Obligations.ReceiverRecoversEveryFrame
  intro i link kind sequence payload tail n wf framed own
  obtain ⟨fits, delivered⟩ := deliver_frame wf framed own
  simp only [receive, hunt_wire, collect_frame tail fits delivered]

end Sys2Proof

/-! ## Link rows: receivers, transmitters, arbiter and carriage port (O16, O18, O19) -/

namespace Sys2Proof.Machine

variable {s : State}

/-! ### Receivers and completed frames (R191 to R193) -/

theorem exec_syncPairFound_hunting {l : Link} (hunting : receiverOf l s = .hunting) :
    exec (.syncPairFound l) s = .next (setReceiver l .collecting s) :=
  congrArg Host.Outcome.next (if_pos hunting)

theorem exec_syncPairFound_collecting {l : Link} (collecting : receiverOf l s = .collecting) :
    exec (.syncPairFound l) s = .next s :=
  congrArg Host.Outcome.next (if_neg (by simp [collecting]))

/-- A failed check is counted on its link and raises LINK_ERROR alone, which the condition unit takes as it was made. -/
theorem exec_frameCheckFailure (l : Link) (c : CheckFailure) (quiet : s.conditions.raised = []) :
    exec (.frameCheckFailure l c) s = .next { setReceiver l .hunting s with
      choices := s.choices + 1
      conditions := ConditionUnit.take (countCheckFailure l s).conditions (alarmNow .linkError s) } := by
  have fails : exec (.frameCheckFailure l c) s =
      .next (settle (raise .linkError (countCheckFailure l (setReceiver l .hunting s)))) := rfl
  rw [fails]
  cases l with
  | carriage => exact congrArg Host.Outcome.next (settle_raise .linkError quiet)
  | mill => exact congrArg Host.Outcome.next (settle_raise .linkError quiet)

/-- Settles O16: a sync pair by link and receiver, the two completions, a failed check by link. -/
theorem receiversAndTransmittersChangeState : Obligations.ReceiversAndTransmittersChangeState := by
  unfold Obligations.ReceiversAndTransmittersChangeState
  simp only [← saturate_eq_min]
  refine ⟨fun s => ⟨?_, ?_, ?_, ?_, rfl, rfl⟩, fun c s quiet => ?_⟩
  · exact exec_syncPairFound_hunting (l := .carriage)
  · exact exec_syncPairFound_hunting (l := .mill)
  · exact exec_syncPairFound_collecting (l := .carriage)
  · exact exec_syncPairFound_collecting (l := .mill)
  · exact ⟨exec_frameCheckFailure .carriage c quiet, exec_frameCheckFailure .mill c quiet⟩

/-! ### The arbiter (R193) -/

theorem exec_millTransmit_busy {g : TxFrame} (busy : s.mill.transmitter.sending = some g) :
    exec .millTransmit s = .next s :=
  congrArg Host.Outcome.next (if_neg (by simp [busy]))

theorem exec_millTransmit_idle (idle : s.mill.transmitter.sending = none) :
    exec .millTransmit s = .next (arbitrate s) :=
  congrArg Host.Outcome.next (if_pos (by simp [idle]))

theorem arbitrate_alarm {a : AlarmFrame} {rest : List AlarmFrame} (h : s.conditions.alarms = a :: rest) :
    arbitrate s = startMill 0x32#8 a.payload { s with conditions := { s.conditions with alarms := rest } } := by
  simp only [arbitrate, h]

section
variable (noAlarm : s.conditions.alarms = [])
include noAlarm

theorem arbitrate_response {r : Response} (h : s.mill.response = some r) :
    arbitrate s = startMill 0x31#8 r.payload { s with
      mill := { s.mill with response := none }
      handler := { s.handler with current := none, phase := .ready } } := by
  simp only [arbitrate, noAlarm, h]

variable (noResponse : s.mill.response = none)
include noResponse

theorem arbitrate_passUp {p : List Byte} {rest : List (List Byte)} (h : s.mill.passUp = p :: rest) :
    arbitrate s = startMill 0x04#8 p { s with mill := { s.mill with passUp := rest } } := by
  simp only [arbitrate, noAlarm, noResponse, h]

variable (noPassUp : s.mill.passUp = [])
include noPassUp

theorem arbitrate_report {g : ReportFrame} {rest : List ReportFrame} (h : s.mill.reports = g :: rest) :
    arbitrate s = startMill 0x33#8 g.payload { s with mill := { s.mill with reports := rest } } := by
  simp only [arbitrate, noAlarm, noResponse, noPassUp, h]

variable (noReport : s.mill.reports = [])
include noReport

theorem arbitrate_stream {x : StreamFrame} (h : s.mill.stream = some x) :
    arbitrate s = startMill 0x34#8 x.payload { s with mill := { s.mill with stream := none } } := by
  simp only [arbitrate, noAlarm, noResponse, noPassUp, noReport, h]

theorem arbitrate_nothing (h : s.mill.stream = none) : arbitrate s = s := by
  simp only [arbitrate, noAlarm, noResponse, noPassUp, noReport, h]

end

/-- Settles O18: a busy transmitter, then an idle one source by source. -/
theorem arbiterTakesTheFirstNonEmptySource : Obligations.ArbiterTakesTheFirstNonEmptySource := by
  unfold Obligations.ArbiterTakesTheFirstNonEmptySource
  refine fun s => ⟨fun g busy => exec_millTransmit_busy busy, fun idle => ?_⟩
  rw [exec_millTransmit_idle idle]
  exact ⟨fun a rest h => congrArg Host.Outcome.next (arbitrate_alarm h), fun noAlarm =>
    ⟨fun r h => congrArg Host.Outcome.next (arbitrate_response noAlarm h), fun noResponse =>
    ⟨fun p rest h => congrArg Host.Outcome.next (arbitrate_passUp noAlarm noResponse h), fun noPassUp =>
    ⟨fun g rest h => congrArg Host.Outcome.next (arbitrate_report noAlarm noResponse noPassUp h), fun noReport =>
    ⟨fun x h => congrArg Host.Outcome.next (arbitrate_stream noAlarm noResponse noPassUp noReport h),
      fun h => congrArg Host.Outcome.next (arbitrate_nothing noAlarm noResponse noPassUp noReport h)⟩⟩⟩⟩⟩

/-! ### The carriage port: hand-overs behind a frame that waits (R192; log 9) -/

section
variable {p : CarriagePort}

/-- Behind a slot frame that its hand-over starts, a MOVE or STOP waits. -/
theorem CarriagePort.handDrive_behind (f : DriveFrame) (h : p.sendSlots.transmitter.sending.isSome = true) :
    p.handDrive f = { p.sendSlots with drive := some f, driveEarlier := p.sendSlots.head.isNone } :=
  CarriagePort.sendSlots_busy _ h

theorem CarriagePort.handHead_behind (m : HeadMode) (h : p.sendSlots.transmitter.sending.isSome = true) :
    p.handHead m = { p.sendSlots with head := some m, driveEarlier := p.sendSlots.drive.isSome } :=
  CarriagePort.sendSlots_busy _ h

variable (idle : p.transmitter.sending = none)
include idle

/-- A hand-over behind the drive slot's frame: that frame is sent, the new one waits in its own slot. -/
theorem CarriagePort.hand_behind_drive (f : DriveFrame) (m : HeadMode) {d : DriveFrame} (filled : p.drive = some d)
    (first : p.head = none ∨ p.driveEarlier = true) :
    p.handDrive f = { p with
      drive := some f, driveEarlier := p.head.isNone, transmitter := p.transmitter.start d.bytes.1 d.bytes.2 } ∧
    p.handHead m = { p with
      drive := none, head := some m, driveEarlier := false
      transmitter := p.transmitter.start d.bytes.1 d.bytes.2 } := by
  have sent : p.sendSlots = p.sendDrive d := (CarriagePort.sendSlots_idle p idle).1 d filled first
  have busy : p.sendSlots.transmitter.sending.isSome = true := by rw [sent]; rfl
  rw [CarriagePort.handDrive_behind f busy, CarriagePort.handHead_behind m busy, sent]
  exact ⟨rfl, rfl⟩

/-- A hand-over behind the head slot's frame, as `CarriagePort.hand_behind_drive` has it for the drive slot's. -/
theorem CarriagePort.hand_behind_head (f : DriveFrame) (m : HeadMode) {k : HeadMode} (filled : p.head = some k)
    (first : p.drive = none ∨ p.driveEarlier = false) :
    p.handDrive f = { p with
      drive := some f, head := none, driveEarlier := true, transmitter := p.transmitter.start 0x13#8 k.payload } ∧
    p.handHead m = { p with
      head := some m, driveEarlier := p.drive.isSome, transmitter := p.transmitter.start 0x13#8 k.payload } := by
  have sent : p.sendSlots = p.sendHead k := (CarriagePort.sendSlots_idle p idle).2.1 k filled first
  have busy : p.sendSlots.transmitter.sending.isSome = true := by rw [sent]; rfl
  rw [CarriagePort.handDrive_behind f busy, CarriagePort.handHead_behind m busy, sent]
  exact ⟨rfl, rfl⟩

/-! ### What the idle carriage transmitter sends (R192) -/

theorem CarriagePort.transmit_drive {d : DriveFrame} (filled : p.drive = some d)
    (first : p.head = none ∨ p.driveEarlier = true) : p.transmit = p.sendDrive d := by
  simp only [CarriagePort.transmit, idle, filled, (CarriagePort.sendSlots_idle p idle).1 d filled first]

theorem CarriagePort.transmit_head {m : HeadMode} (filled : p.head = some m)
    (first : p.drive = none ∨ p.driveEarlier = false) : p.transmit = p.sendHead m := by
  obtain ⟨-, sendsHead, -⟩ := CarriagePort.sendSlots_idle p idle
  rw [← sendsHead m filled first]
  simp [CarriagePort.transmit, filled]

variable (noDrive : p.drive = none) (noHead : p.head = none)
include noDrive noHead

theorem CarriagePort.transmit_passDown {payload : List Byte} {rest : List (List Byte)}
    (h : p.passDown = payload :: rest) :
    p.transmit = { p with passDown := rest, transmitter := p.transmitter.start 0x14#8 payload } := by
  simp only [CarriagePort.transmit, idle, noDrive, noHead, h]

theorem CarriagePort.transmit_nothing (h : p.passDown = []) : p.transmit = p := by
  obtain ⟨-, -, sendsNone⟩ := CarriagePort.sendSlots_idle p idle
  simp only [CarriagePort.transmit, idle, noDrive, noHead, h, sendsNone noDrive noHead]

end

theorem exec_carriageTransmit {q : CarriagePort} (h : s.port.transmit = q) :
    exec .carriageTransmit s = .next { s with port := q } := by
  rw [← h]; rfl

/-- Settles O19: hand-overs to a busy transmitter, to an idle one and behind a frame that waits; then CARRIAGE_TRANSMIT busy,
by slot, and with both slots empty. -/
theorem carriageTransmitterSendsSlotsBeforePassDown : Obligations.CarriageTransmitterSendsSlotsBeforePassDown := by
  unfold Obligations.CarriageTransmitterSendsSlotsBeforePassDown
  constructor
  · intro p f m start drive head
    have driveStarts : ∀ d, drive d = p.transmitter.start d.bytes.1 d.bytes.2 := fun d => by cases d <;> rfl
    have headStarts : ∀ k, head k = p.transmitter.start 0x13#8 k.payload := fun k => by cases k <;> rfl
    refine ⟨fun busy => ?_, fun idle noDrive noHead => ?_, fun idle d filled first => ?_, fun idle k filled first => ?_⟩
    · have sending := Option.isSome_iff_ne_none.mpr busy
      exact ⟨CarriagePort.handDrive_busy p f sending, CarriagePort.handHead_busy p m sending⟩
    · rw [driveStarts, headStarts]
      exact ⟨CarriagePort.handDrive_idle p f idle noDrive noHead, CarriagePort.handHead_idle p m idle noDrive noHead⟩
    · rw [driveStarts]
      exact CarriagePort.hand_behind_drive idle f m filled first
    · rw [headStarts]
      exact CarriagePort.hand_behind_head idle f m filled first
  · refine fun s => ⟨fun g busy => ?_, fun idle => ⟨fun target speed filled first => ?_, fun filled first => ?_,
      fun m filled first => ?_, fun noDrive noHead => ⟨fun p rest h => ?_, fun h => ?_⟩⟩⟩
    · exact exec_carriageTransmit (CarriagePort.transmit_busy s.port (Option.isSome_of_eq_some busy))
    · exact exec_carriageTransmit (CarriagePort.transmit_drive idle filled first)
    · exact exec_carriageTransmit (CarriagePort.transmit_drive idle filled first)
    · rw [exec_carriageTransmit (CarriagePort.transmit_head idle filled first)]
      cases m <;> rfl
    · exact exec_carriageTransmit (CarriagePort.transmit_passDown idle noDrive noHead h)
    · exact exec_carriageTransmit (CarriagePort.transmit_nothing idle noDrive noHead h)

end Sys2Proof.Machine
